-- ==== Sys2Proof/Word.lean ====
section
/-!
DEFINITION. The words, names and plain data types the manual uses: wrapping quantities as bit vectors, the named
values (states, modes, kinds, statuses, settings fields), and tables as lists of slot and record.
-/

namespace Sys2Proof

/-- An 8-bit quantity that wraps: ring indices (R167), cycle numbers (R117). -/
abbrev Byte := BitVec 8

/-- A 16-bit quantity that wraps: the accounting day (R158), the report sequence (R30), request tags (R175). -/
abbrev Half := BitVec 16

/-- A 32-bit word: a head word of the memory window (R167), a field of the settings store (R159). -/
abbrev Word := BitVec 32

/-- A table of numbered slots, as (slot, record) pairs. A slot that is not listed is EMPTY (R1, R111, R125). The canonical
form has the slots strictly rising. -/
abbrev Table (α : Type) := List (Nat × α)

/-- One figure per slot (on-hand counts, reorder levels, latched figures; R111, R131, R149). A figure of 0 is not listed. -/
abbrev Figures := Table Nat

/-- A field of a request that names one of a set of values: a value of the set, or a code that names none of them. The codes
themselves are not given for most fields (log 19). -/
inductive Coded (α : Type) where
  | value (a : α)
  | unknown
deriving DecidableEq, Repr

/-- The operating modes (R156). -/
inductive Mode where
  | setup | service | frozen | locked
deriving DecidableEq, Repr

/-- The states of a non-empty meter record (R1, R5). -/
inductive MeterState where
  | active | overdue | dispute | closing
deriving DecidableEq, Repr

/-- The kinds of meter (R2). -/
inductive MeterKind where
  | prepaid | postpaid
deriving DecidableEq, Repr

/-- The sub-mode, held as a position (R2): first is ON REQUEST, second is AUTO TOP-UP or DAILY RESET. -/
inductive SubMode where
  | first | second
deriving DecidableEq, Repr

/-- Conditioning, of a meter or of the whole board (R16, R17). -/
inductive Conditioning where
  | none | fixed | hold | trial
deriving DecidableEq, Repr

/-- The kinds of grant (R62). -/
inductive GrantKind where
  | refill | limit
deriving DecidableEq, Repr

/-- The reason a grant reports: the last step that reduced its amount (R59). -/
inductive Reason where
  | none | ceiling | allowance | pool
deriving DecidableEq, Repr

/-- Where a refill came from (R53, R80). -/
inductive Origin where
  | host | auto
deriving DecidableEq, Repr

/-- The run states of an allowance cycle (R117). -/
inductive RunState where
  | stopped | running | paused
deriving DecidableEq, Repr

/-- The states of a non-empty branch (R111, R112). -/
inductive BranchState where
  | opened | counting
deriving DecidableEq, Repr

/-- The states of a non-empty denomination slot (R125, R126). -/
inductive DenominationState where
  | onSale | withdrawn
deriving DecidableEq, Repr

/-- The states of a transfer (R142, R147). -/
inductive TransferState where
  | inTransit | overdue
deriving DecidableEq, Repr

/-- The start modes (R159). -/
inductive StartMode where
  | setup | service | resume
deriving DecidableEq, Repr

/-- The backup-loss policies (R159, R162). -/
inductive LossPolicy where
  | fatal | clear
deriving DecidableEq, Repr

/-- The shortage policies (R81). -/
inductive Shortage where
  | wait | partly
deriving DecidableEq, Repr

/-- The depth indicator settings (R93). -/
inductive DepthIndicator where
  | live | peak
deriving DecidableEq, Repr

/-- The kinds of start-up (R161). -/
inductive StartKind where
  | powerOn | pcieReset | restart
deriving DecidableEq, Repr

/-- The outcome of the retention check at a power-on (R161, R162). -/
inductive Retention where
  | kept | lost
deriving DecidableEq, Repr

/-- The twelve fields of the settings store, in the order of R159's table. -/
inductive SettingField where
  | startMode | backupLoss | refillStep | loadTimeout | shortage | overdueDays | margin | reportInterval
  | conditioning | depth | resultEnable | attentionEnable
deriving DecidableEq, Repr

/-- The statuses of a result (R174). -/
inductive Status where
  | done | queued | trial | settledLate
  | wrongMode | unknownMeter | unknownBranch | unknownSlot | unknownTransfer | tableFull | duplicate | badValue
  | wrongState | held | overdue | disputed | grantOut | alreadyQueued | notQueued | atCeiling
  | allowanceSpent | poolShort | queueFull | staleReport | controlMismatch | noGrant | shortStock
  | branchCounting | notEmpty | badRequest
deriving DecidableEq, Repr

/-- The causes of a meter's attention set, in the order of their bits (R25, R175). -/
inductive MeterCause where
  | lowCredit | grantReady | grantVoided | queueDropped | refillRefused | topupDeferred | dispute | overdue
deriving DecidableEq, Repr

/-- The causes of a branch's attention set, in the order of their bits (R123, R175). -/
inductive BranchCause where
  | allowanceSpent | cycleEnd | stockLow | countAbandoned | transferOverdue | transitShortfall
deriving DecidableEq, Repr

/-- The causes of the device's attention set, in the order of their bits (R164, R175). -/
inductive DeviceCause where
  | settingsFault | backupLost | poolWait | arrears
deriving DecidableEq, Repr

end Sys2Proof
end

