-- ==== Sys2Proof/Config.lean ====
section
/-!
DEFINITION. What the manual fixes for the board (sizes and ranges) and what it leaves open (the opaque constants, about which
nothing can be proved but what holds for every value of them). The free values that speak of records stand in Machine/Layout.lean.
-/

namespace Sys2Proof.Config

/-- Slots of the Account Table (R1). -/
def meterSlots : Nat := 512
/-- Slots of the Branch Table (R111). -/
def branchSlots : Nat := 128
/-- Slots of the Denomination Table (R125). -/
def denominationSlots : Nat := 16
/-- Places of the Refill Queue (R80). -/
def queuePlaces : Nat := 32
/-- Places of the Transfer List (R142). -/
def transferPlaces : Nat := 64
/-- Slots of each ring (R167). -/
def ringSlots : Nat := 32
/-- Bytes of a ring slot (R167). -/
def slotBytes : Nat := 128
/-- Bytes of a record's header (R175). -/
def headerBytes : Nat := 8
/-- The highest value of a device total, 2^47 - 1 (R95). -/
def totalMax : Nat := 2 ^ 47 - 1
/-- The highest requested amount, and the highest credit: 99,999,999 (R1, R55, R68). -/
def amountMax : Nat := 99999999
/-- The highest ascending register (R1). -/
def ascendingMax : Nat := 999999999999
/-- The highest control total (R68). -/
def controlTotalMax : Nat := 1000099999998
/-- The highest licence number (R1). -/
def licenceMax : Nat := 999999
/-- The highest branch code (R111). -/
def branchCodeMax : Nat := 9999
/-- The range of a ceiling (R1). -/
def ceilingMin : Nat := 1000
/-- The highest stamp count (R131). -/
def stampMax : Nat := 9999999
/-- The highest face value (R125). -/
def faceMax : Nat := 10000000
/-- The highest allowance (R111). -/
def allowanceMax : Nat := 999999999999
/-- The highest grant or transfer number (R63, R143). -/
def numberMax : Nat := 65535
/-- Where an event counter saturates (R22). -/
def counterMax : Nat := 65535
/-- Where a day age saturates (R19, R120, R147). -/
def ageMax : Nat := 255
/-- The sequence window (R30). -/
def sequenceWindow : Nat := 64
/-- The most subjects one READ ATTENTION returns (R171). -/
def attentionPage : Nat := 24
/-- The most entries one READ QUEUE or READ TRANSFERS returns (R92, R148). -/
def entryPage : Nat := 8
/-- The subject number of the first branch (R171). -/
def branchSubject : Nat := 512
/-- The subject number of the device (R171). -/
def deviceSubject : Nat := 640
/-- The next position that ends a full pass (R171). -/
def passEnd : Nat := 641

/-- FREE VALUE (log 6). How many bytes the outcome takes of a result of the given kind code, status code and number of figures,
where the manual gives that outcome no layout. -/
opaque outcomeLength : Nat → Nat → Nat → Nat

/-- FREE VALUE (log 8). Whether the daily limit that a meter slot is given at a day advance is stamped with the cycle number its
branch had before that day advance's cycle end, where the cycle ended on the same day. The first argument numbers the draw. -/
opaque limitSeesOldCycle : Nat → Nat → Bool

/-- FREE VALUE (log 9). Whether one WRITE SETTINGS that turns the attention interrupt on and lets another IMMEDIATE field fall
back turns it on first, so that the SETTINGS_FAULT raises the interrupt. The argument numbers the draw. -/
opaque enableBeforeFault : Nat → Bool

end Sys2Proof.Config
end

