-- ==== Sys2Proof/Syntax.lean ====
section
/-!
DEFINITION. The commands of the board: one constructor of Instr per row of spec/opcode_table.json. A request carries the tag of its
record and the fields its rule gives it; a window write carries what is written; an event carries what it concerns.
A field that the spec gives a range may hold a value outside it: the block that owns the request refuses it BAD_VALUE (R175).
-/

namespace Sys2Proof

/-- The fields of ENROL METER (R7). -/
structure Enrolment where
  licence : Nat
  branch : Nat
  kind : Coded MeterKind
  subMode : Coded SubMode
  conditioning : Coded Conditioning
  standing : Nat
  ceiling : Nat
  markCode : Nat
  interval : Nat
  ascending : Nat
  descending : Nat
deriving DecidableEq, Repr

/-- The changes of SET METER, each present or absent (R9). -/
structure MeterChanges where
  licence : Option Nat := none
  kind : Option (Coded MeterKind) := none
  subMode : Option (Coded SubMode) := none
  conditioning : Option (Coded Conditioning) := none
  standing : Option Nat := none
  ceiling : Option Nat := none
  markCode : Option Nat := none
  interval : Option Nat := none
deriving DecidableEq, Repr

/-- The changes of SET BRANCH, each present or absent (R114). -/
structure BranchChanges where
  cycleLength : Option Nat := none
  allowance : Option Nat := none
  levels : Option (List (Nat × Nat)) := none
deriving DecidableEq, Repr

/-- The fields of WRITE SETTINGS: for each of the twelve, absent or the value written (R159). -/
structure SettingsPatch where
  startMode : Option Word := none
  backupLoss : Option Word := none
  refillStep : Option Word := none
  loadTimeout : Option Word := none
  shortage : Option Word := none
  overdueDays : Option Word := none
  margin : Option Word := none
  reportInterval : Option Word := none
  conditioning : Option Word := none
  depth : Option Word := none
  resultEnable : Option Word := none
  attentionEnable : Option Word := none
deriving DecidableEq, Repr

/-- The commands (spec/opcode_table.json). -/
inductive Instr where
  /-- READ_STATUS (R165). -/
  | readStatus (tag : Half)
  /-- READ_ATTENTION from a start position (R171). -/
  | readAttention (tag : Half) (start : Nat)
  /-- TAKE_ATTENTION: the subject kind's code (0 METER, 1 BRANCH, 2 DEVICE; R175), the slot, the causes (R172). -/
  | takeAttention (tag : Half) (subject slot : Nat) (causes : Half)
  /-- SET_MODE to a target mode (R157). -/
  | setMode (tag : Half) (target : Coded Mode)
  /-- CLOSE_DAY (R158). -/
  | closeDay (tag : Half)
  /-- WRITE_SETTINGS (R159). -/
  | writeSettings (tag : Half) (patch : SettingsPatch)
  /-- READ_SETTINGS (R159). -/
  | readSettings (tag : Half)
  /-- RESTART (R161). -/
  | restart (tag : Half)
  /-- CLEAR_TABLES (R163). -/
  | clearTables (tag : Half)
  /-- ENROL_METER (R7, R8). -/
  | enrolMeter (tag : Half) (fields : Enrolment)
  /-- SET_METER (R9, R10). -/
  | setMeter (tag : Half) (slot : Nat) (changes : MeterChanges)
  /-- REASSIGN_METER (R11). -/
  | reassignMeter (tag : Half) (slot branch : Nat)
  /-- CLOSE_METER (R12). -/
  | closeMeter (tag : Half) (slot : Nat)
  /-- RETIRE_METER (R14, R15). -/
  | retireMeter (tag : Half) (slot : Nat)
  /-- READ_METER with its take indication (R23, R24). -/
  | readMeter (tag : Half) (slot : Nat) (take : Coded Bool)
  /-- METER_REPORT: slot, sequence q, ascending a, descending d (R27). -/
  | meterReport (tag : Half) (slot : Nat) (sequence : Half) (ascending descending : Nat)
  /-- RESOLVE_METER: slot, ascending a, descending d (R43). -/
  | resolveMeter (tag : Half) (slot ascending descending : Nat)
  /-- REFILL_REQUEST (R51, R52). -/
  | refillRequest (tag : Half) (slot amount : Nat)
  /-- LIMIT_REQUEST (R51, R52). -/
  | limitRequest (tag : Half) (slot amount : Nat)
  /-- LOAD_CONFIRM: slot, grant number, control total T (R68). -/
  | loadConfirm (tag : Half) (slot number total : Nat)
  /-- CANCEL_GRANT (R73). -/
  | cancelGrant (tag : Half) (slot number : Nat)
  /-- CANCEL_QUEUED (R91). -/
  | cancelQueued (tag : Half) (slot : Nat)
  /-- READ_QUEUE from a start position (R92). -/
  | readQueue (tag : Half) (start : Nat)
  /-- DEPOSIT (R104). -/
  | deposit (tag : Half) (amount : Nat)
  /-- REFUND (R105). -/
  | refund (tag : Half) (amount : Nat)
  /-- READ_POSITION (R106). -/
  | readPosition (tag : Half)
  /-- OPEN_BRANCH with a branch code (R113). -/
  | openBranch (tag : Half) (code : Nat)
  /-- SET_BRANCH (R114). -/
  | setBranch (tag : Half) (slot : Nat) (changes : BranchChanges)
  /-- CLOSE_BRANCH (R115). -/
  | closeBranch (tag : Half) (slot : Nat)
  /-- CYCLE_START: CYCLE CONTROL START (R118). actionKnown false stands for a CYCLE CONTROL record whose action code names none
  of the four actions; the table has no row of its own for it, and R118, this row's rule, refuses it (log 18). -/
  | cycleStart (tag : Half) (slot : Nat) (actionKnown : Bool)
  /-- CYCLE_STOP: CYCLE CONTROL STOP (R119). -/
  | cycleStop (tag : Half) (slot : Nat)
  /-- CYCLE_PAUSE: CYCLE CONTROL PAUSE (R119). -/
  | cyclePause (tag : Half) (slot : Nat)
  /-- CYCLE_RESUME: CYCLE CONTROL RESUME (R119). -/
  | cycleResume (tag : Half) (slot : Nat)
  /-- READ_BRANCH with its take indication (R116). -/
  | readBranch (tag : Half) (slot : Nat) (take : Coded Bool)
  /-- DEFINE_DENOMINATION with a face value (R127). -/
  | defineDenomination (tag : Half) (face : Nat)
  /-- WITHDRAW_DENOMINATION (R128). -/
  | withdrawDenomination (tag : Half) (slot : Nat)
  /-- RETIRE_DENOMINATION (R129). -/
  | retireDenomination (tag : Half) (slot : Nat)
  /-- READ_DENOMINATIONS (R130). -/
  | readDenominations (tag : Half)
  /-- PURCHASE_STOCK: branch slot, denomination slot, count n (R133, R134). -/
  | purchaseStock (tag : Half) (branch denomination count : Nat)
  /-- ISSUE_STOCK (R133, R135). -/
  | issueStock (tag : Half) (branch denomination count : Nat)
  /-- WRITE_OFF_STOCK (R133, R136). -/
  | writeOffStock (tag : Half) (branch denomination count : Nat)
  /-- SURRENDER_STOCK (R133, R137). -/
  | surrenderStock (tag : Half) (branch denomination count : Nat)
  /-- DISPATCH: origin, destination, denomination slot, count n (R144). -/
  | dispatch (tag : Half) (origin destination denomination count : Nat)
  /-- RECEIVE: transfer number, received count r (R145). -/
  | receive (tag : Half) (number count : Nat)
  /-- CANCEL_TRANSFER (R146). -/
  | cancelTransfer (tag : Half) (number : Nat)
  /-- READ_TRANSFERS from a start position (R148). -/
  | readTransfers (tag : Half) (start : Nat)
  /-- BEGIN_COUNT (R149). -/
  | beginCount (tag : Half) (branch : Nat)
  /-- ENTER_COUNT: branch slot, denomination slot, counted figure c (R150). -/
  | enterCount (tag : Half) (branch denomination figure : Nat)
  /-- CLOSE_COUNT (R153). -/
  | closeCount (tag : Half) (branch : Nat)
  /-- ABANDON_COUNT (R152). -/
  | abandonCount (tag : Half) (branch : Nat)
  /-- READ_COUNT (R151). -/
  | readCount (tag : Half) (branch : Nat)
  /-- BAD_REQUEST: a record with this tag, kind code and body length, and whether a byte that must be zero is not (R168). -/
  | badRequest (tag kind length : Half) (reservedSet : Bool)
  /-- REQUEST_PRODUCER_INDEX_WRITE of a head word (R167, R169). -/
  | requestProducerIndexWrite (value : Word)
  /-- RESULT_CONSUMER_INDEX_WRITE of a head word (R167, R169). -/
  | resultConsumerIndexWrite (value : Word)
  /-- INTERRUPT_ENABLE_WORD_WRITE (R167). -/
  | interruptEnableWordWrite (value : Word)
  /-- IGNORED_WINDOW_WRITE: offset, width in bytes, value (R167). A write into the Request Ring, which has no row of its own, is
  carried here too (log 41). -/
  | ignoredWindowWrite (offset width value : Nat)
  /-- POWER_ON (R161). -/
  | powerOn
  /-- PCIE_RESET (R161). -/
  | pcieReset
  /-- LOAD_SECONDS_TICK (R66). -/
  | loadSecondsTick
  /-- LOAD_TIMER_EXPIRY of a meter slot's grant out (R71). -/
  | loadTimerExpiry (slot : Nat)
  /-- MSI_PERMISSION_CHANGE to yes or no (R170). -/
  | msiPermissionChange (allowed : Bool)
  /-- MSI_WRITE (R170). -/
  | msiWrite
  /-- POWER_LOSS (R162). -/
  | powerLoss
  /-- BACKUP_CELL_FAILURE (R162). -/
  | backupCellFailure
deriving DecidableEq, Repr

end Sys2Proof
end

