-- ==== Sys2Proof/Machine/State.lean ====
section
/-!
DEFINITION. The state of the board as plain data: record memory, settings store and working memory (00 Memories), the content of
every result (R29, R51 and the rule of each request), and the state after reset.
-/

namespace Sys2Proof.Machine

/-- A grant issued and not yet settled or voided (R4, R62). -/
structure GrantOut where
  number : Nat
  amount : Nat
  kind : GrantKind
  branch : Nat
  counted : Bool
  cycle : Byte
  remaining : Nat
deriving DecidableEq, Repr

/-- The most recent grant withdrawn from a meter (R4, R74). -/
structure Voided where
  number : Nat
  amount : Nat
  kind : GrantKind
deriving DecidableEq, Repr

/-- A meter's attention causes, one mark each (R25). -/
structure MeterCauses where
  lowCredit : Bool := false
  grantReady : Bool := false
  grantVoided : Bool := false
  queueDropped : Bool := false
  refillRefused : Bool := false
  topupDeferred : Bool := false
  dispute : Bool := false
  overdue : Bool := false
deriving DecidableEq, Repr

/-- A branch's attention causes, one mark each (R123). -/
structure BranchCauses where
  allowanceSpent : Bool := false
  cycleEnd : Bool := false
  stockLow : Bool := false
  countAbandoned : Bool := false
  transferOverdue : Bool := false
  transitShortfall : Bool := false
deriving DecidableEq, Repr

/-- The device's attention causes, one mark each (R164). -/
structure DeviceCauses where
  settingsFault : Bool := false
  backupLost : Bool := false
  poolWait : Bool := false
  arrears : Bool := false
deriving DecidableEq, Repr

/-- The record of an enrolled meter (R1). A slot without one is EMPTY. -/
structure Meter where
  state : MeterState
  licence : Nat
  branch : Nat
  kind : MeterKind
  subMode : SubMode
  conditioning : Conditioning
  standing : Nat
  ceiling : Nat
  markCode : Nat
  interval : Nat
  daysSince : Nat
  credit : Nat
  loaded : Nat
  ascending : Nat
  lastSequence : Option Half
  belowMark : Bool
  grantOut : Option GrantOut
  lastVoided : Option Voided
  nextGrant : Nat
  refused : Nat
  stale : Nat
  mismatches : Nat
  missed : Nat
  voids : Nat
  causes : MeterCauses
deriving DecidableEq, Repr

/-- An entry of the Refill Queue (R80). -/
structure QueueEntry where
  slot : Nat
  amount : Nat
  origin : Origin
  day : Half
deriving DecidableEq, Repr

/-- The Funds Pool's seven figures (R95). -/
structure Pool where
  balance : Nat := 0
  arrears : Nat := 0
  deposits : Nat := 0
  franked : Nat := 0
  issued : Nat := 0
  writtenOff : Int := 0
  reserved : Nat := 0
deriving DecidableEq, Repr

/-- The latch of an open stock count (R149). -/
structure CountLatch where
  day : Half
  latched : Figures
  counted : Table Nat
deriving DecidableEq, Repr

/-- The record of a branch (R111), with the Stock Unit's on-hand counts (R131) and count latch (R149). A slot without one is
EMPTY; a branch with a latch is COUNTING and one without is OPEN (R149: the latch is present only while it is COUNTING). -/
structure Branch where
  code : Nat
  levels : Figures
  variance : Int
  run : RunState
  cycleLength : Nat
  allowance : Nat
  dayCount : Nat
  spent : Nat
  cycle : Byte
  causes : BranchCauses
  onHand : Figures
  latch : Option CountLatch
deriving DecidableEq, Repr

/-- The record of a denomination (R125). It is WITHDRAWN when its day withdrawn is present and ON SALE when it is absent. -/
structure Denomination where
  face : Nat
  withdrawn : Option Half
deriving DecidableEq, Repr

/-- An entry of the Transfer List (R142). -/
structure Transfer where
  number : Nat
  origin : Nat
  destination : Nat
  denomination : Nat
  count : Nat
  day : Half
  age : Nat
  state : TransferState
deriving DecidableEq, Repr

/-- The twelve fields of the settings store, as written (R159). A board as delivered holds the default in every field. -/
structure StoredSettings where
  startMode : Word := 0
  backupLoss : Word := 0
  refillStep : Word := 100
  loadTimeout : Word := 120
  shortage : Word := 0
  overdueDays : Word := 5
  margin : Word := 4
  reportInterval : Word := 7
  conditioning : Word := 0
  depth : Word := 0
  resultEnable : Word := 0
  attentionEnable : Word := 0
deriving DecidableEq, Repr

/-- The settings in force (R160). -/
structure Settings where
  startMode : StartMode := .setup
  backupLoss : LossPolicy := .fatal
  refillStep : Nat := 100
  loadTimeout : Nat := 120
  shortage : Shortage := .wait
  overdueDays : Nat := 5
  margin : Nat := 4
  reportInterval : Nat := 7
  conditioning : Conditioning := .none
  depth : DepthIndicator := .live
  resultEnable : Bool := false
  attentionEnable : Bool := false
deriving DecidableEq, Repr

/-! ## The content of results -/

/-- Which settlement a report made first (R29, R33). -/
inductive SettledFirst where
  | none
  | grant (number amount : Nat)
  | late (number amount : Nat)
deriving DecidableEq, Repr

/-- What became of a top-up after a report (R29, R48). -/
inductive TopUp where
  | notOriginated
  | issued (number amount : Nat) (reason : Reason)
  | queued
  | deferred (status : Status)
  | refused (status : Status)
deriving DecidableEq, Repr

/-- The outcome of an accepted report (R29). -/
structure ReportOutcome where
  settledFirst : SettledFirst
  usage : Nat
  missed : Nat
  credit : Nat
  loaded : Nat
  charged : Nat
  arrearsAdded : Nat
  retired : Bool
  credited : Nat
  topUp : TopUp
deriving DecidableEq, Repr

/-- The outcome of a resolution (R46, R98). -/
structure ResolveOutcome where
  change : Int
  net : Int
  charged : Nat
  arrearsAdded : Nat
  voided : Option (Nat × Nat)
  credit : Nat
  ascending : Nat
  loaded : Nat
deriving DecidableEq, Repr

/-- The identity outcome of the funds position: HOLDS, or BROKEN with the left side less the right side (R106, R109). -/
inductive Identity where
  | holds
  | broken (difference : Int)
deriving DecidableEq, Repr

/-- The funds position (R106). -/
structure Position where
  pool : Pool
  refillsOut : Nat
  prepaidCredit : Nat
  prepaidMeters : Nat
  onHandValue : Nat
  transitValue : Nat
  stockValue : Nat
  postpaidCredit : Nat
  leftSide : Int
  rightSide : Int
  identity : Identity
  day : Half
  queued : Nat
deriving DecidableEq, Repr

/-- The outcome of READ STATUS (R165). -/
structure StatusOutcome where
  mode : Mode
  day : Half
  inForce : Settings
  fallenBack : List SettingField
  lastStart : StartKind
  retention : Option Retention
  causes : DeviceCauses
  queued : Nat
  depth : Nat
  ringFault : Bool
  requestProducer : Byte
  requestConsumer : Byte
  resultProducer : Byte
  resultConsumer : Byte
deriving DecidableEq, Repr

/-- One entry as READ QUEUE gives it: position, entry, age in days (R92). -/
structure QueueEntryRead where
  position : Nat
  entry : QueueEntry
  age : Nat
deriving DecidableEq, Repr

/-- The outcome of READ QUEUE (R92). -/
structure QueueRead where
  count : Nat
  depth : Nat
  indicator : DepthIndicator
  shortage : Shortage
  margin : Nat
  day : Half
  entries : List QueueEntryRead
deriving DecidableEq, Repr

/-- The outcome of READ BRANCH for a non-empty slot (R116). DESIGN CHOICE (log 44): it carries the branch record whole, and so the figures of
an open count too, where R116 lists of the count latch only whether it is present. -/
structure BranchRead where
  slot : Nat
  branch : Branch
  state : BranchState
  remaining : Nat
  inForce : Bool
  latchPresent : Bool
  metersLinked : Nat
  transfersFrom : Nat
  transfersTo : Nat
deriving DecidableEq, Repr

/-- The condition a CLOSE BRANCH fails on (R115). -/
inductive BranchObstacle where
  | counting
  | metersLinked (number : Nat)
  | stockOnHand (denomination : Nat)
  | transfers (number : Nat)
deriving DecidableEq, Repr

/-- The condition a RETIRE DENOMINATION fails on (R129). -/
inductive DenominationObstacle where
  | stockOnHand (lowestBranch branches : Nat)
  | transfers (number : Nat)
  | countOpen (lowestBranch : Nat)
deriving DecidableEq, Repr

/-- What READ DENOMINATIONS gives of one non-empty slot (R130). -/
structure DenominationRead where
  slot : Nat
  state : DenominationState
  face : Nat
  withdrawn : Option Half
  daysWithdrawn : Option Nat
  onHand : Nat
  branches : Nat
  inTransit : Nat
  transfers : Nat
  value : Nat
deriving DecidableEq, Repr

/-- One slot of READ DENOMINATIONS (R130). -/
inductive DenominationEntry where
  | empty (slot : Nat)
  | present (read : DenominationRead)
deriving DecidableEq, Repr

/-- The figure whose range a stock request would pass (R133, R134 to R137). -/
inductive BoundFigure where
  | onHand | stockValue | issued | writtenOff | committedFunds
deriving DecidableEq, Repr

/-- One entry as READ TRANSFERS gives it (R148). -/
structure TransferRead where
  position : Nat
  entry : Transfer
  value : Nat
deriving DecidableEq, Repr

/-- One slot of a count (R151, R153). The difference and its value are present where a counted figure is. -/
structure CountLine where
  denomination : Nat
  latched : Nat
  counted : Option Nat
  difference : Option Int
  value : Option Int
deriving DecidableEq, Repr

/-- The outcome of a result record, in the figures its rule lists. -/
inductive Outcome where
  /-- The status alone. -/
  | none
  /-- READ STATUS (R165). -/
  | status (report : StatusOutcome)
  /-- READ ATTENTION: subjects with their cause sets, and the next position (R171). -/
  | attention (subjects : List (Nat × Half)) (next : Nat)
  /-- TAKE ATTENTION: the set that remains (R172). -/
  | causesLeft (causes : Half)
  /-- SET MODE: old and new mode (R157). -/
  | modes (old new : Mode)
  /-- SET MODE into SERVICE: also the fields that fell back and the grants the serving issued (R157). -/
  | serviceEntry (old new : Mode) (fellBack : List SettingField) (issued : Nat)
  /-- CLOSE DAY: the new day (R158). -/
  | day (day : Half)
  /-- WRITE SETTINGS: each IMMEDIATE field applied, its value in force and whether it fell back (R159). -/
  | applied (fields : List (SettingField × Nat × Bool))
  /-- READ SETTINGS: the stored values (R159). -/
  | stored (settings : StoredSettings)
  /-- RESTART: the mode after the start-up and the fallen-back set (R161). -/
  | started (mode : Mode) (fallenBack : List SettingField)
  /-- CLEAR TABLES: the mode it found (R163). -/
  | cleared (found : Mode)
  /-- ENROL METER: slot, loaded total, amount debited (R8). -/
  | enrolled (slot loaded debited : Nat)
  /-- SET METER: the record's new values and the amount moved (R9, R10; every field of the record, log 46). -/
  | meterSet (meter : Meter) (moved : Int)
  /-- REASSIGN METER: old and new branch slot (R11). -/
  | reassigned (old new : Nat)
  /-- RETIRE METER: number and amount of the voided grant, amount written off (R15). -/
  | retired (voided : Option (Nat × Nat)) (writtenOff : Nat)
  /-- READ METER or READ BRANCH of an EMPTY slot (R23, R116). -/
  | emptySlot (slot : Nat)
  /-- READ METER: slot, record, effective conditioning, headroom, whether queued (R23). -/
  | meterRead (slot : Nat) (meter : Meter) (effective : Conditioning) (headroom : Int) (queued : Bool)
  /-- METER REPORT accepted (R29). -/
  | report (report : ReportOutcome)
  /-- METER REPORT refused STALE_REPORT: the last report sequence (R29). -/
  | lastSequence (sequence : Half)
  /-- METER REPORT refused CONTROL_MISMATCH: L, the amount of any grant out, any settlement made first (R29, R36). -/
  | reportMismatch (loaded : Nat) (out : Option Nat) (settledFirst : SettledFirst)
  /-- A late settlement that failed POOL_SHORT: Gv and P (R29, R77). -/
  | lateShort (amount balance : Nat)
  /-- RESOLVE METER (R46). -/
  | resolved (outcome : ResolveOutcome)
  /-- The grant result of REFILL REQUEST and LIMIT REQUEST (R51, R175). -/
  | grant (number : Nat) (kind : GrantKind) (reason : Reason) (timeout slot amount expected : Nat)
  /-- QUEUED: the requested amount held and the entries ahead (R51, R82). -/
  | joined (amount ahead : Nat)
  /-- TRIAL: the refusal that would be given, with its figures (R54). -/
  | wouldRefuse (status : Status) (figures : Outcome)
  /-- TRIAL: WOULD QUEUE (R54). -/
  | wouldQueue (amount ahead : Nat)
  /-- TRIAL: WOULD ISSUE, with the amount, the reason, the number and the expected total (R54). -/
  | wouldIssue (amount : Nat) (reason : Reason) (number expected : Nat)
  /-- AT_CEILING: the headroom and the refill step (R51). -/
  | headroom (headroom : Int) (step : Nat)
  /-- ALLOWANCE_SPENT: the remaining allowance (R51). -/
  | allowanceLeft (remaining : Nat)
  /-- POOL_SHORT of a LIMIT REQUEST: the arrears (R51). -/
  | arrears (arrears : Nat)
  /-- LOAD CONFIRM settled, at once or late: number, amount, C, L (R69, R75). -/
  | settled (number amount credit loaded : Nat)
  /-- LOAD CONFIRM, outcome DECLINED (R68). -/
  | declined
  /-- LOAD CONFIRM answered CONTROL_MISMATCH: L and G (R70). -/
  | confirmMismatch (loaded amount : Nat)
  /-- LOAD CONFIRM answered NO_GRANT: the number of the grant out or of the last voided grant (R68). -/
  | numberHeld (number : Option Nat)
  /-- CANCEL GRANT: number and amount (R73). -/
  | cancelled (number amount : Nat)
  /-- CANCEL QUEUED: position and entry (R91; the whole entry, log 47). -/
  | entryRemoved (position : Nat) (entry : QueueEntry)
  /-- READ QUEUE (R92). -/
  | queue (read : QueueRead)
  /-- DEPOSIT: applied to arrears, reaching the pool, grants issued, entries removed, P, V, D (R104). -/
  | deposited (toArrears toPool issued removed balance arrears deposits : Nat)
  /-- POOL_SHORT of a REFUND: P (R105). -/
  | balance (balance : Nat)
  /-- REFUND: P and D (R105). -/
  | refunded (balance deposits : Nat)
  /-- READ POSITION (R106). -/
  | position (position : Position)
  /-- OPEN BRANCH or DEFINE DENOMINATION: the slot chosen (R113, R127). -/
  | slotChosen (slot : Nat)
  /-- SET BRANCH: Lc, A, reorder levels, run state, Dc, W, cycle number, Q (R114). -/
  | branchSet (cycleLength allowance : Nat) (levels : Figures) (run : RunState) (dayCount spent : Nat) (cycle : Byte)
      (remaining : Nat)
  /-- CLOSE BRANCH: the variance total and W discarded (R115). -/
  | branchClosed (variance : Int) (spent : Nat)
  /-- CLOSE BRANCH refused NOT_EMPTY (R115). -/
  | branchHeld (obstacle : BranchObstacle)
  /-- CYCLE CONTROL: run state, Dc, W, cycle number, Q (R118). -/
  | cycle (run : RunState) (dayCount spent : Nat) (cycle : Byte) (remaining : Nat)
  /-- READ BRANCH (R116). -/
  | branch (read : BranchRead)
  /-- WITHDRAW DENOMINATION: day withdrawn, on-hand and in-transit totals (R128). -/
  | withdrawn (day : Half) (onHand inTransit : Nat)
  /-- RETIRE DENOMINATION: face value discarded and days withdrawn (R129). -/
  | denominationRetired (face days : Nat)
  /-- RETIRE DENOMINATION refused NOT_EMPTY (R129). -/
  | denominationHeld (obstacle : DenominationObstacle)
  /-- READ DENOMINATIONS (R130). -/
  | denominations (day : Half) (entries : List DenominationEntry)
  /-- A stock request refused WRONG_STATE: the slot's state (R133). -/
  | slotState (state : DenominationState)
  /-- A request refused SHORT_STOCK: the on-hand count (R133, R144). -/
  | onHand (count : Nat)
  /-- PURCHASE STOCK refused POOL_SHORT: P and v (R133). -/
  | purchaseShort (balance value : Nat)
  /-- A stock request refused BAD_VALUE at its count or total check: the figure whose range would be passed, as it stands (R133). -/
  | bound (figure : BoundFigure) (value : Int)
  /-- PURCHASE STOCK: on-hand count, v, P (R134). -/
  | purchased (onHand value balance : Nat)
  /-- ISSUE STOCK: on-hand count, v, I, whether STOCK_LOW was set (R135). -/
  | stockIssued (onHand value issued : Nat) (stockLow : Bool)
  /-- WRITE OFF STOCK: on-hand count, v, X, whether STOCK_LOW was set (R136). -/
  | stockWrittenOff (onHand value : Nat) (writtenOff : Int) (stockLow : Bool)
  /-- SURRENDER STOCK: on-hand count, v, to arrears, to the pool, grants issued, entries removed, P, V, STOCK_LOW (R137). -/
  | surrendered (onHand value toArrears toPool issued removed balance arrears : Nat) (stockLow : Bool)
  /-- DISPATCH: number, position, origin's on-hand count, value in transit, STOCK_LOW (R144). -/
  | dispatched (number position onHand value : Nat) (stockLow : Bool)
  /-- RECEIVE: the entry as it stood, r, s, the shortfall value, the on-hand count, TRANSIT_SHORTFALL (R145; the whole entry, log 45). -/
  | received (entry : Transfer) (received shortfall value onHand : Nat) (shortfallSet : Bool)
  /-- CANCEL TRANSFER: the entry as it stood and the origin's on-hand count (R146). -/
  | transferCancelled (entry : Transfer) (onHand : Nat)
  /-- READ TRANSFERS: entries, next number, day, overdue days, value in transit, the page (R148). -/
  | transfers (count next : Nat) (day : Half) (overdueDays value : Nat) (entries : List TransferRead)
  /-- BEGIN COUNT: day begun and the 16 latched figures (R149). -/
  | countBegun (day : Half) (latched : List Nat)
  /-- ENTER COUNT: latched, counted, whether it replaced, difference, value (R150). -/
  | figureEntered (latched counted : Nat) (replaced : Bool) (difference value : Int)
  /-- READ COUNT: day begun, 16 lines, net value (R151). -/
  | count (day : Half) (lines : List CountLine) (net : Int)
  /-- ABANDON COUNT: slots that held a figure (R152). -/
  | countAbandoned (entered : Nat)
  /-- CLOSE COUNT: lines with a figure, N, surpluses, losses, X, variance total, STOCK_LOW (R153). -/
  | countClosed (lines : List CountLine) (net : Int) (surpluses losses : Nat) (writtenOff variance : Int) (stockLow : Bool)
deriving DecidableEq, Repr

/-- What a block answers to a request (R168 step 2). -/
structure Reply where
  status : Status
  outcome : Outcome
deriving DecidableEq, Repr

/-- A result record: the header's tag, kind code, status and outcome length, and the outcome (R168, R175). -/
structure ResultRecord where
  tag : Half
  kind : Half
  status : Status
  length : Nat
  outcome : Outcome
deriving DecidableEq, Repr

/-- What stands in a slot of the Request Ring (R167): a request record as the request it spells, or 128 bytes that are not held as
one (log 4). -/
inductive RequestSlot where
  | record (request : Instr)
  | raw (bytes : List Byte)
deriving DecidableEq, Repr

/-- A slot of the Result Ring: a result record and which of its parts stands here. Part 0 holds the header (R168). -/
structure ResultSlot where
  result : ResultRecord
  part : Nat
deriving DecidableEq, Repr

/-! ## The state -/

/-- Record memory: what the backup cell keeps (00 Memories, R162, R163). -/
structure RecordMemory where
  retentionMarker : Bool := true
  mode : Mode := .setup
  day : Half := 0
  deviceCauses : DeviceCauses := {}
  meters : Table Meter := []
  queue : List QueueEntry := []
  queuePeak : Nat := 0
  pool : Pool := {}
  branches : Table Branch := []
  denominations : Table Denomination := []
  transfers : List Transfer := []
  nextTransfer : Nat := 1
deriving DecidableEq, Repr

/-- The state of the board. -/
structure State where
  /-- Record memory. -/
  record : RecordMemory
  /-- The settings store (R159). -/
  stored : StoredSettings
  /-- The settings in force (R160). -/
  inForce : Settings
  /-- The fallen-back set, in the order of R159's table (R160). -/
  fallenBack : List SettingField
  /-- The kind of the last start-up (R161). -/
  lastStart : StartKind
  /-- After a power-on, the outcome of its retention check (R161). -/
  retention : Option Retention
  /-- Whether the server's power is on (R161, R162). -/
  powered : Bool
  /-- The count of elapsed seconds (00 Time). -/
  seconds : Nat
  /-- What stands in the 32 slots of the Request Ring. A slot that is not listed holds 128 zero bytes (R167; log 4). -/
  requestRing : Table RequestSlot
  /-- What stands in the 32 slots of the Result Ring. A slot that is not listed holds 128 zero bytes (R167, R168; log 7). -/
  resultRing : Table ResultSlot
  /-- The four ring indices (R167). -/
  requestProducer : Byte
  requestConsumer : Byte
  resultProducer : Byte
  resultConsumer : Byte
  /-- The ring fault (R169). -/
  ringFault : Bool
  /-- The pending mark of the result interrupt (R170). -/
  resultMark : Bool
  /-- The pending mark of the attention interrupt (R170). -/
  attentionMark : Bool
  /-- The input that says whether the function may send messages (R170). -/
  msiPermitted : Bool
  /-- The model's own: MSI writes sent (log 12). -/
  msiSent : Nat
  /-- The model's own: free choices drawn (log 10). -/
  choices : Nat
  /-- The model's own: commands that wait, first in first out. -/
  pending : List Instr
deriving DecidableEq, Repr

/-- Why a step faults. Nothing in the manual stops the board, so no command faults and the type has no constructor: safe. -/
inductive Fault where
deriving DecidableEq, Repr

/-- Why a command is refused by the model. -/
inductive Refusal where
  /-- An arm of exec whose command has no meaning yet answers this. No arm does: every command has its meaning. Safe. -/
  | notModelled (mnemonic : String)
deriving DecidableEq, Repr

/-- The board right after reset: the first power-on of a board as delivered, which finds retention lost and, under the default
policy FATAL, comes up LOCKED with empty tables and every setting at its default (R159, R161, R162, 9.10; log 1). -/
def State.reset : State where
  record := { mode := .locked }
  stored := {}
  inForce := {}
  fallenBack := []
  lastStart := .powerOn
  retention := some .lost
  powered := true
  seconds := 0
  requestRing := []
  resultRing := []
  requestProducer := 0
  requestConsumer := 0
  resultProducer := 0
  resultConsumer := 0
  ringFault := false
  resultMark := false
  attentionMark := false
  msiPermitted := false
  msiSent := 0
  choices := 0
  pending := []

end Sys2Proof.Machine
end

