-- ==== Sys2Proof/Machine/Table.lean ====
section
/-!
DEFINITION. The operations on tables of numbered slots: reading a slot, filling it, emptying it, the lowest EMPTY slot, a change
of every record, and sums over the records.
-/

namespace Sys2Proof.Table

/-- The canonical form: slots strictly rising. -/
abbrev Sorted {α : Type} (t : Table α) : Prop := t.Pairwise (fun a b => a.1 < b.1)

/-- The record of a slot; none where the slot is EMPTY. -/
def find {α : Type} : Table α → Nat → Option α
  | [], _ => none
  | (k, v) :: rest, i => if k = i then some v else find rest i

/-- The table with slot i holding v. -/
def put {α : Type} : Table α → Nat → α → Table α
  | [], i, v => [(i, v)]
  | (k, w) :: rest, i, v =>
    if i < k then (i, v) :: (k, w) :: rest else if i = k then (i, v) :: rest else (k, w) :: put rest i v

/-- The table with slot i EMPTY. -/
def erase {α : Type} (t : Table α) (i : Nat) : Table α :=
  t.filter (fun e => e.1 ≠ i)

/-- The table with every record changed. -/
def mapRecords {α β : Type} (f : Nat → α → β) (t : Table α) : Table β :=
  t.map (fun e => (e.1, f e.1 e.2))

/-- The lowest-numbered EMPTY slot from i on, among the next `left` slots. -/
def lowestEmptyFrom {α : Type} (t : Table α) : Nat → Nat → Option Nat
  | 0, _ => none
  | left + 1, i => if (find t i).isNone then some i else lowestEmptyFrom t left (i + 1)

/-- The lowest-numbered EMPTY slot of a table of n slots (R8, R113, R127). -/
def lowestEmpty {α : Type} (t : Table α) (n : Nat) : Option Nat :=
  lowestEmptyFrom t n 0

/-- The sum of a figure over the records. -/
def sum {α : Type} (f : Nat → α → Nat) : Table α → Nat
  | [] => 0
  | (k, v) :: rest => f k v + sum f rest

/-- The sum of a signed figure over the records. -/
def sumInt {α : Type} (f : Nat → α → Int) : Table α → Int
  | [] => 0
  | (k, v) :: rest => f k v + sumInt f rest

/-- The number of records with a property. -/
def count {α : Type} (p : Nat → α → Bool) : Table α → Nat
  | [] => 0
  | (k, v) :: rest => (if p k v then 1 else 0) + count p rest

/-- The lowest slot whose record has a property, in a table in canonical form. -/
def firstSlot {α : Type} (p : Nat → α → Bool) : Table α → Option Nat
  | [] => none
  | (k, v) :: rest => if p k v then some k else firstSlot p rest

end Sys2Proof.Table

namespace Sys2Proof.Figures

/-- The figure of a slot: 0 where none is listed. -/
def at' (f : Figures) (i : Nat) : Nat :=
  (Table.find f i).getD 0

/-- The figures with slot i at n. A figure of 0 is not listed. -/
def set (f : Figures) (i n : Nat) : Figures :=
  if n = 0 then Table.erase f i else Table.put f i n

/-- The canonical form: slots strictly rising and no figure of 0 listed. -/
abbrev Canonical (f : Figures) : Prop := Table.Sorted f ∧ ∀ e ∈ f, e.2 ≠ 0

/-- All 16 figures, in the order of their slots (R149). -/
def row (f : Figures) : List Nat :=
  (List.range 16).map (at' f)

end Sys2Proof.Figures
end

