-- ==== Sys2Proof/Machine/Ops.lean ====
section
/-!
DEFINITION. The named operations over the state: reading and writing the records of each table, setting and removing attention
causes (R25, R123, R164) with the attention mark they raise (R170), and the arithmetic of counters, ages and numbers (00).
-/

namespace Sys2Proof.Machine

/-! ## Counters, ages and numbers (00 Counters and ages) -/

/-- An event counter increased by n, staying at 65,535. -/
def countUp (counter n : Nat) : Nat :=
  min (counter + n) Config.counterMax

/-- A day age one day later, staying at 255. -/
def ageUp (age : Nat) : Nat :=
  min (age + 1) Config.ageMax

/-- The grant or transfer number after n, from 65,535 to 1 (R63, R143). -/
def nextNumber (n : Nat) : Nat :=
  if n = Config.numberMax then 1 else n + 1

/-- The age in days of a day number at the current day, modulo 65,536 (R92, R129). -/
def daysBetween (current earlier : Half) : Nat :=
  (current - earlier).toNat

/-! ## Attention -/

/-- A cause has been set: the attention mark is set while the attention-interrupt enable in force is on (R170). -/
def raiseAttention (s : State) : State :=
  if s.inForce.attentionEnable then { s with attentionMark := true } else s

/-- A meter's causes with one more (R25). -/
def MeterCauses.with (c : MeterCauses) : MeterCause → MeterCauses
  | .lowCredit => { c with lowCredit := true }
  | .grantReady => { c with grantReady := true }
  | .grantVoided => { c with grantVoided := true }
  | .queueDropped => { c with queueDropped := true }
  | .refillRefused => { c with refillRefused := true }
  | .topupDeferred => { c with topupDeferred := true }
  | .dispute => { c with dispute := true }
  | .overdue => { c with overdue := true }

/-- A branch's causes with one more (R123). -/
def BranchCauses.with (c : BranchCauses) : BranchCause → BranchCauses
  | .allowanceSpent => { c with allowanceSpent := true }
  | .cycleEnd => { c with cycleEnd := true }
  | .stockLow => { c with stockLow := true }
  | .countAbandoned => { c with countAbandoned := true }
  | .transferOverdue => { c with transferOverdue := true }
  | .transitShortfall => { c with transitShortfall := true }

/-- The device's causes with one more (R164). -/
def DeviceCauses.with (c : DeviceCauses) : DeviceCause → DeviceCauses
  | .settingsFault => { c with settingsFault := true }
  | .backupLost => { c with backupLost := true }
  | .poolWait => { c with poolWait := true }
  | .arrears => { c with arrears := true }

/-- The device's causes without one (R84, R99). -/
def DeviceCauses.without (c : DeviceCauses) : DeviceCause → DeviceCauses
  | .settingsFault => { c with settingsFault := false }
  | .backupLost => { c with backupLost := false }
  | .poolWait => { c with poolWait := false }
  | .arrears => { c with arrears := false }

/-! ## Meters -/

/-- The record of a meter slot; none where it is EMPTY (R1). -/
def State.meter? (s : State) (slot : Nat) : Option Meter :=
  Table.find s.record.meters slot

/-- The state with a meter slot holding a record. -/
def State.putMeter (s : State) (slot : Nat) (m : Meter) : State :=
  { s with record.meters := Table.put s.record.meters slot m }

/-- The state with a meter slot EMPTY (R6). -/
def State.dropMeter (s : State) (slot : Nat) : State :=
  { s with record.meters := Table.erase s.record.meters slot }

/-- Sets a cause of a meter and raises the attention interrupt (R25, R170). -/
def setMeterCause (slot : Nat) (c : MeterCause) (s : State) : State :=
  match s.meter? slot with
  | none => s
  | some m => raiseAttention (s.putMeter slot { m with causes := m.causes.with c })

/-! ## Branches -/

/-- The record of a branch slot; none where it is EMPTY (R111). -/
def State.branch? (s : State) (slot : Nat) : Option Branch :=
  Table.find s.record.branches slot

/-- The state with a branch slot holding a record. -/
def State.putBranch (s : State) (slot : Nat) (b : Branch) : State :=
  { s with record.branches := Table.put s.record.branches slot b }

/-- Sets a cause of a branch and raises the attention interrupt (R123, R170). -/
def setBranchCause (slot : Nat) (c : BranchCause) (s : State) : State :=
  match s.branch? slot with
  | none => s
  | some b => raiseAttention (s.putBranch slot { b with causes := b.causes.with c })

/-- Whether a branch is COUNTING: its count latch is present (R149). -/
def Branch.counting (b : Branch) : Bool :=
  b.latch.isSome

/-- The state of a non-empty branch (R111). -/
def Branch.state (b : Branch) : BranchState :=
  if b.counting then .counting else .opened

/-! ## Denominations, device causes, pool -/

/-- The record of a denomination slot; none where it is EMPTY (R125). -/
def State.denomination? (s : State) (slot : Nat) : Option Denomination :=
  Table.find s.record.denominations slot

/-- The state of a non-empty denomination slot (R125). -/
def Denomination.state (d : Denomination) : DenominationState :=
  if d.withdrawn.isSome then .withdrawn else .onSale

/-- The face value of a denomination slot, 0 where it is EMPTY and so holds no stock (R107). -/
def State.face (s : State) (slot : Nat) : Nat :=
  match s.denomination? slot with
  | none => 0
  | some d => d.face

/-- Sets a device cause and raises the attention interrupt (R164, R170). -/
def setDeviceCause (c : DeviceCause) (s : State) : State :=
  raiseAttention { s with record.deviceCauses := s.record.deviceCauses.with c }

/-- The board removes a device cause (R164). -/
def clearDeviceCause (c : DeviceCause) (s : State) : State :=
  { s with record.deviceCauses := s.record.deviceCauses.without c }

/-- The state with the Funds Pool's figures changed. -/
def State.withPool (s : State) (p : Pool) : State :=
  { s with record.pool := p }

/-! ## The Refill Queue's list -/

/-- Whether a meter slot has an entry in the Refill Queue (R80). -/
def State.queued (s : State) (slot : Nat) : Bool :=
  s.record.queue.any (fun e => e.slot == slot)

/-- The queue holds `rest` after an entry left it. When it becomes empty POOL_WAIT is removed (R84). -/
def setQueueAfterRemoval (rest : List QueueEntry) (s : State) : State :=
  let s' := { s with record.queue := rest }
  if rest.isEmpty then clearDeviceCause .poolWait s' else s'

/-! ## Replies -/

/-- A refusal that carries the status alone. -/
def refuse (status : Status) : Reply :=
  { status := status, outcome := .none }

/-- A refusal with the figures its rule gives it. -/
def refuseWith (status : Status) (outcome : Outcome) : Reply :=
  { status := status, outcome := outcome }

/-- DONE with its outcome. -/
def done (outcome : Outcome) : Reply :=
  { status := .done, outcome := outcome }

/-- What one meaning answers. -/
abbrev Answer := Host.Outcome State Fault Refusal

end Sys2Proof.Machine
end

