-- ==== Sys2Proof/Machine/Operands.lean ====
section
/-!
DEFINITION. The operands of the commands: the ranges of their fields (each chapter's range checks), the modes in which requests are
taken (9.1), the kind codes and body lengths (R173), the status codes (R174) and the header check (R168).
-/

namespace Sys2Proof.Machine

/-! ## Modes (9.1) -/

/-- SETUP or SERVICE. -/
def builds : Mode → Bool
  | .setup | .service => true
  | .frozen | .locked => false

/-- SETUP, SERVICE or FROZEN. -/
def unlocked : Mode → Bool
  | .setup | .service | .frozen => true
  | .locked => false

/-- SERVICE alone. -/
def serves : Mode → Bool
  | .service => true
  | .setup | .frozen | .locked => false

/-- SETUP or LOCKED (R163). -/
def clears : Mode → Bool
  | .setup | .locked => true
  | .service | .frozen => false

/-- Every mode but FROZEN (R159). -/
def writesSettings : Mode → Bool
  | .setup | .service | .locked => true
  | .frozen => false

/-! ## Ranges -/

/-- lo ≤ x ≤ hi. -/
def within (lo hi x : Nat) : Bool :=
  decide (lo ≤ x) && decide (x ≤ hi)

/-- A meter slot, 0 to 511. -/
def meterSlotOk (x : Nat) : Bool := decide (x < Config.meterSlots)
/-- A branch slot, 0 to 127. -/
def branchSlotOk (x : Nat) : Bool := decide (x < Config.branchSlots)
/-- A denomination slot, 0 to 15. -/
def denominationSlotOk (x : Nat) : Bool := decide (x < Config.denominationSlots)
/-- A requested, deposited or refunded amount, 1 to 99,999,999 (R55, R104, R105). -/
def amountOk (x : Nat) : Bool := within 1 Config.amountMax x
/-- A standing amount or a descending register, 0 to 99,999,999 (R1, R27). -/
def registerOk (x : Nat) : Bool := decide (x ≤ Config.amountMax)
/-- An ascending register (R27). -/
def ascendingOk (x : Nat) : Bool := decide (x ≤ Config.ascendingMax)
/-- A licence number (R7). -/
def licenceOk (x : Nat) : Bool := within 1 Config.licenceMax x
/-- A ceiling (R7). -/
def ceilingOk (x : Nat) : Bool := within Config.ceilingMin Config.amountMax x
/-- A low mark code (R7). -/
def markCodeOk (x : Nat) : Bool := decide (x ≤ 7)
/-- A grant or transfer number, 1 to 65,535 (R68, R73, R145). -/
def numberOk (x : Nat) : Bool := within 1 Config.numberMax x
/-- A control total (R68). -/
def controlTotalOk (x : Nat) : Bool := decide (x ≤ Config.controlTotalMax)
/-- A number of stamps moved, 1 to 9,999,999 (R133, R144). -/
def stampsOk (x : Nat) : Bool := within 1 Config.stampMax x
/-- A counted or received figure, or a reorder level, 0 to 9,999,999 (R114, R145, R150). -/
def figureOk (x : Nat) : Bool := decide (x ≤ Config.stampMax)

/-- A coded field is one of its values. -/
def coded {α : Type} : Coded α → Bool
  | .value _ => true
  | .unknown => false

/-- A present value passes a check; an absent one always does (R9, R114). -/
def ifPresent {α : Type} (ok : α → Bool) : Option α → Bool
  | none => true
  | some a => ok a

/-- The value of a coded field, or the value kept. -/
def codedOr {α : Type} (kept : α) : Option (Coded α) → α
  | some (.value a) => a
  | some .unknown | none => kept

/-- Check 2 of R7 for the fields that are not coded. -/
def enrolmentOk (e : Enrolment) : Bool :=
  licenceOk e.licence && branchSlotOk e.branch && coded e.kind && coded e.subMode && coded e.conditioning
    && registerOk e.standing && ceilingOk e.ceiling && markCodeOk e.markCode && decide (e.interval ≤ 60)
    && ascendingOk e.ascending && registerOk e.descending

/-- Check 1 of R9: every present value is within its range. -/
def meterChangesOk (c : MeterChanges) : Bool :=
  ifPresent licenceOk c.licence && ifPresent coded c.kind && ifPresent coded c.subMode
    && ifPresent coded c.conditioning && ifPresent registerOk c.standing && ifPresent ceilingOk c.ceiling
    && ifPresent markCodeOk c.markCode && ifPresent (within 1 60) c.interval

/-- Whether a list names no slot twice. -/
def distinctSlots : List (Nat × Nat) → Bool
  | [] => true
  | (k, _) :: rest => !rest.any (fun e => e.1 == k) && distinctSlots rest

/-- A list of 1 to 16 reorder levels, each of a denomination slot, none named twice (R114). -/
def levelsOk (l : List (Nat × Nat)) : Bool :=
  within 1 16 l.length && l.all (fun e => denominationSlotOk e.1 && figureOk e.2) && distinctSlots l

/-- The range check of SET BRANCH (R114). -/
def branchChangesOk (c : BranchChanges) : Bool :=
  ifPresent (fun n => decide (n ≤ 255)) c.cycleLength && ifPresent (fun n => decide (n ≤ Config.allowanceMax)) c.allowance
    && ifPresent levelsOk c.levels

/-! ## Kind codes, body lengths, status codes (R173, R174) -/

/-- The kind code of a request record and its tag; none for a command that is no request record (R173). -/
def header : Instr → Option (Half × Half)
  | .readStatus t => some (0x01, t)
  | .readAttention t _ => some (0x02, t)
  | .takeAttention t _ _ _ => some (0x03, t)
  | .setMode t _ => some (0x10, t)
  | .closeDay t => some (0x11, t)
  | .writeSettings t _ => some (0x12, t)
  | .readSettings t => some (0x13, t)
  | .restart t => some (0x14, t)
  | .clearTables t => some (0x15, t)
  | .enrolMeter t _ => some (0x20, t)
  | .setMeter t _ _ => some (0x21, t)
  | .reassignMeter t _ _ => some (0x22, t)
  | .closeMeter t _ => some (0x23, t)
  | .retireMeter t _ => some (0x24, t)
  | .readMeter t _ _ => some (0x25, t)
  | .meterReport t _ _ _ _ => some (0x30, t)
  | .resolveMeter t _ _ _ => some (0x31, t)
  | .refillRequest t _ _ => some (0x40, t)
  | .limitRequest t _ _ => some (0x41, t)
  | .loadConfirm t _ _ _ => some (0x42, t)
  | .cancelGrant t _ _ => some (0x43, t)
  | .cancelQueued t _ => some (0x50, t)
  | .readQueue t _ => some (0x51, t)
  | .deposit t _ => some (0x60, t)
  | .refund t _ => some (0x61, t)
  | .readPosition t => some (0x62, t)
  | .openBranch t _ => some (0x70, t)
  | .setBranch t _ _ => some (0x71, t)
  | .closeBranch t _ => some (0x72, t)
  | .cycleStart t _ _ => some (0x73, t)
  | .cycleStop t _ => some (0x73, t)
  | .cyclePause t _ => some (0x73, t)
  | .cycleResume t _ => some (0x73, t)
  | .readBranch t _ _ => some (0x74, t)
  | .defineDenomination t _ => some (0x80, t)
  | .withdrawDenomination t _ => some (0x81, t)
  | .retireDenomination t _ => some (0x82, t)
  | .readDenominations t => some (0x83, t)
  | .purchaseStock t _ _ _ => some (0x84, t)
  | .issueStock t _ _ _ => some (0x85, t)
  | .writeOffStock t _ _ _ => some (0x86, t)
  | .surrenderStock t _ _ _ => some (0x87, t)
  | .dispatch t _ _ _ _ => some (0x90, t)
  | .receive t _ _ => some (0x91, t)
  | .cancelTransfer t _ => some (0x92, t)
  | .readTransfers t _ => some (0x93, t)
  | .beginCount t _ => some (0x94, t)
  | .enterCount t _ _ _ => some (0x95, t)
  | .closeCount t _ => some (0x96, t)
  | .abandonCount t _ => some (0x97, t)
  | .readCount t _ => some (0x98, t)
  | .badRequest t k _ _ => some (k, t)
  | .requestProducerIndexWrite _ => none
  | .resultConsumerIndexWrite _ => none
  | .interruptEnableWordWrite _ => none
  | .ignoredWindowWrite _ _ _ => none
  | .powerOn => none
  | .pcieReset => none
  | .loadSecondsTick => none
  | .loadTimerExpiry _ => none
  | .msiPermissionChange _ => none
  | .msiWrite => none
  | .powerLoss => none
  | .backupCellFailure => none

/-- The table of request kinds: code and body length in bytes (R173). -/
def kindTable : List (Nat × Nat) :=
  [(0x01, 0), (0x02, 4), (0x03, 8), (0x10, 4), (0x11, 0), (0x12, 52), (0x13, 0), (0x14, 0), (0x15, 0),
   (0x20, 48), (0x21, 48), (0x22, 4), (0x23, 4), (0x24, 4), (0x25, 4), (0x30, 24), (0x31, 24)]
  ++ [(0x40, 16), (0x41, 16), (0x42, 16), (0x43, 4), (0x50, 4), (0x51, 4), (0x60, 8), (0x61, 8), (0x62, 0),
   (0x70, 4), (0x71, 96), (0x72, 4), (0x73, 4), (0x74, 4)]
  ++ [(0x80, 4), (0x81, 4), (0x82, 4), (0x83, 0), (0x84, 8), (0x85, 8), (0x86, 8), (0x87, 8), (0x90, 12),
   (0x91, 8), (0x92, 4), (0x93, 4), (0x94, 4), (0x95, 8), (0x96, 4), (0x97, 4), (0x98, 4)]

/-- The body length of a kind code; none where the code is not in the table (R173). -/
def bodyLength (kind : Half) : Option Nat :=
  Table.find kindTable kind.toNat

/-- The header check (R168 step 1): the kind is known, the length is its body length, and no byte that must be zero is set. -/
def headerPasses (kind length : Half) (reservedSet : Bool) : Bool :=
  match bodyLength kind with
  | none => false
  | some n => decide (length.toNat = n) && !reservedSet

/-- The status codes (R174). -/
def statusCode : Status → Nat
  | .done => 0
  | .queued => 1
  | .trial => 2
  | .settledLate => 3
  | .wrongMode => 16
  | .unknownMeter => 17
  | .unknownBranch => 18
  | .unknownSlot => 19
  | .unknownTransfer => 20
  | .tableFull => 21
  | .duplicate => 22
  | .badValue => 23
  | .wrongState => 24
  | .held => 25
  | .overdue => 26
  | .disputed => 27
  | .grantOut => 28
  | .alreadyQueued => 29
  | .notQueued => 30
  | .atCeiling => 31
  | .allowanceSpent => 32
  | .poolShort => 33
  | .queueFull => 34
  | .staleReport => 35
  | .controlMismatch => 36
  | .noGrant => 37
  | .shortStock => 38
  | .branchCounting => 39
  | .notEmpty => 40
  | .badRequest => 41

/-- Whether a status is a success (R174: codes 0 to 3). -/
def succeeds (st : Status) : Bool :=
  decide (statusCode st ≤ 3)

/-! ## Cause sets as 16-bit fields (R175) -/

/-- A mark at a bit position. -/
def bitAt (b : Bool) (i : Nat) : Half :=
  if b then BitVec.ofNat 16 (2 ^ i) else 0

/-- The 16-bit field of a meter's causes. -/
def meterBits (c : MeterCauses) : Half :=
  bitAt c.lowCredit 0 ||| bitAt c.grantReady 1 ||| bitAt c.grantVoided 2 ||| bitAt c.queueDropped 3
    ||| bitAt c.refillRefused 4 ||| bitAt c.topupDeferred 5 ||| bitAt c.dispute 6 ||| bitAt c.overdue 7

/-- The 16-bit field of a branch's causes. -/
def branchBits (c : BranchCauses) : Half :=
  bitAt c.allowanceSpent 0 ||| bitAt c.cycleEnd 1 ||| bitAt c.stockLow 2 ||| bitAt c.countAbandoned 3
    ||| bitAt c.transferOverdue 4 ||| bitAt c.transitShortfall 5

/-- The 16-bit field of the device's causes. -/
def deviceBits (c : DeviceCauses) : Half :=
  bitAt c.settingsFault 0 ||| bitAt c.backupLost 1 ||| bitAt c.poolWait 2 ||| bitAt c.arrears 3

/-- A meter's causes less those named by a field (R172). -/
def meterCausesLess (c : MeterCauses) (named : Half) : MeterCauses where
  lowCredit := c.lowCredit && !named.getLsbD 0
  grantReady := c.grantReady && !named.getLsbD 1
  grantVoided := c.grantVoided && !named.getLsbD 2
  queueDropped := c.queueDropped && !named.getLsbD 3
  refillRefused := c.refillRefused && !named.getLsbD 4
  topupDeferred := c.topupDeferred && !named.getLsbD 5
  dispute := c.dispute && !named.getLsbD 6
  overdue := c.overdue && !named.getLsbD 7

/-- A branch's causes less those named by a field (R172). -/
def branchCausesLess (c : BranchCauses) (named : Half) : BranchCauses where
  allowanceSpent := c.allowanceSpent && !named.getLsbD 0
  cycleEnd := c.cycleEnd && !named.getLsbD 1
  stockLow := c.stockLow && !named.getLsbD 2
  countAbandoned := c.countAbandoned && !named.getLsbD 3
  transferOverdue := c.transferOverdue && !named.getLsbD 4
  transitShortfall := c.transitShortfall && !named.getLsbD 5

/-- The device's causes less those named by a field (R172). -/
def deviceCausesLess (c : DeviceCauses) (named : Half) : DeviceCauses where
  settingsFault := c.settingsFault && !named.getLsbD 0
  backupLost := c.backupLost && !named.getLsbD 1
  poolWait := c.poolWait && !named.getLsbD 2
  arrears := c.arrears && !named.getLsbD 3

end Sys2Proof.Machine
end

