-- ==== Sys2Proof/Machine/Flags.lean ====
section
/-!
DEFINITION. The figures and conditions the rules compute from a record: the low mark (R20, R21), headroom (R56), effective
conditioning (R16), the allowance in force and what remains of it (R57, R117), the sums of the funds position (R95, R107, R132),
and the crossing of a reorder level (R138).
-/

namespace Sys2Proof.Machine

/-! ## Meters -/

/-- The headroom H = K - C, which may be negative (R56). -/
def Meter.headroom (m : Meter) : Int :=
  (m.ceiling : Int) - (m.credit : Int)

/-- A meter is below its mark when k is above 0 and 8 C < k K (R20). -/
def Meter.isBelow (m : Meter) : Bool :=
  decide (0 < m.markCode) && decide (8 * m.credit < m.markCode * m.ceiling)

/-- Whether an evaluation of the below-mark flag turns it from no to yes (R21). -/
def Meter.falls (m : Meter) : Bool :=
  m.isBelow && !m.belowMark

/-- The record after an evaluation of its below-mark flag: LOW_CREDIT is set where the flag turns from no to yes (R21). -/
def Meter.evaluated (m : Meter) : Meter :=
  { m with
    belowMark := m.isBelow
    causes := if m.falls then m.causes.with .lowCredit else m.causes }

/-- Writes a record whose credit, ceiling or low mark code has changed, evaluating its below-mark flag (R21). -/
def putEvaluated (slot : Nat) (m : Meter) (s : State) : State :=
  let s' := s.putMeter slot m.evaluated
  if m.falls then raiseAttention s' else s'

/-- The effective conditioning of a meter: the global one where it is not NONE, else the meter's own (R16). -/
def effective (s : State) (m : Meter) : Conditioning :=
  match s.inForce.conditioning with
  | .none => m.conditioning
  | c => c

/-- Whether an effective conditioning lets the board originate or serve a grant: NONE or FIXED (R47, R49, R87). -/
def mayOriginate : Conditioning → Bool
  | .none | .fixed => true
  | .hold | .trial => false

/-- The requested amount, or the standing amount under FIXED (R17, R55). -/
def substituted (c : Conditioning) (m : Meter) (requested : Nat) : Nat :=
  match c with
  | .fixed => m.standing
  | _ => requested

/-- Whether an amount added to the credit leaves it within the credit capacity (R68). -/
def Meter.holds (m : Meter) (amount : Nat) : Bool :=
  decide (m.credit + amount ≤ Config.amountMax)

/-- The record with its credit and loaded total raised by an amount (R69, R75, R76). -/
def Meter.loadedWith (m : Meter) (amount : Nat) : Meter :=
  { m with credit := m.credit + amount, loaded := m.loaded + amount }

/-! ## Branches -/

/-- The allowance is in force: the cycle is RUNNING or PAUSED and A is above 0 (R57, R117). -/
def Branch.allowanceInForce (b : Branch) : Bool :=
  decide (b.run ≠ .stopped) && decide (0 < b.allowance)

/-- The remaining allowance Q = max(0, A - W) (R57). -/
def Branch.remaining (b : Branch) : Nat :=
  b.allowance - b.spent

/-- The remaining allowance of a branch where it is in force; none where no allowance applies (R57). -/
def allowanceOf (s : State) (branch : Nat) : Option Nat :=
  match s.branch? branch with
  | none => none
  | some b => if b.allowanceInForce then some b.remaining else none

/-- Whether a decrease of a count from `before` to `after` crosses a reorder level r (R138). -/
def crossesLevel (r before after : Nat) : Bool :=
  decide (0 < r) && decide (r ≤ before) && decide (after < r)

/-! ## Sums of the funds position -/

/-- The credit a record adds to the sum of prepaid credit (R95). -/
def prepaidShare (m : Meter) : Nat :=
  if m.kind = .prepaid then m.credit else 0

/-- The sum of prepaid credit (R95). -/
def prepaidCredit (s : State) : Nat :=
  Table.sum (fun _ m => prepaidShare m) s.record.meters

/-- The value of figures at the face values of their slots (R132). -/
def figuresValue (s : State) (f : Figures) : Nat :=
  Table.sum (fun d n => n * s.face d) f

/-- The value of the stamps on hand at every branch (R132). -/
def onHandValue (s : State) : Nat :=
  Table.sum (fun _ b => figuresValue s b.onHand) s.record.branches

/-- The value in transit of one entry (R142). -/
def transferValue (s : State) (t : Transfer) : Nat :=
  t.count * s.face t.denomination

/-- The value of the stamps in transit (R142). -/
def transitValue (s : State) : Nat :=
  (s.record.transfers.map (transferValue s)).sum

/-- The stock value of the funds identity (R107). -/
def stockValue (s : State) : Nat :=
  onHandValue s + transitValue s

/-- The committed funds (R96). -/
def committedFunds (s : State) : Nat :=
  s.record.pool.balance + s.record.pool.reserved + prepaidCredit s

/-- The left side of the funds identity (R108, R109). -/
def leftSide (s : State) : Int :=
  (committedFunds s : Int) + s.record.pool.franked + stockValue s + s.record.pool.issued + s.record.pool.writtenOff

/-- The right side of the funds identity (R108, R109). -/
def rightSide (s : State) : Int :=
  (s.record.pool.deposits : Int) + s.record.pool.arrears

/-- A signed total lies within -(2^47 - 1) to 2^47 - 1 (R95, R153). -/
def signedTotalOk (x : Int) : Bool :=
  decide (-(Config.totalMax : Int) ≤ x) && decide (x ≤ (Config.totalMax : Int))

end Sys2Proof.Machine
end

