-- ==== Sys2Proof/WellFormed.lean ====
section
/-!
DEFINITION. When a command is well formed: its fields fit the record or the window that carries them (R167, R173, R175). A field's range is
not part of this: a well-formed record with a field out of its range is refused BAD_VALUE by its block (R175).
-/

namespace Sys2Proof

/-- A number fits a field of so many bytes. -/
def fits (bytes n : Nat) : Bool :=
  decide (n < 2 ^ (8 * bytes))

/-- A present number fits; an absent one does. -/
def fitsIf (bytes : Nat) : Option Nat → Bool
  | none => true
  | some n => fits bytes n

/-- The fields of ENROL METER fit its 48 bytes. -/
def Enrolment.fitsBody (e : Enrolment) : Bool :=
  fits 48 e.licence && fits 48 e.branch && fits 48 e.standing && fits 48 e.ceiling && fits 48 e.markCode
    && fits 48 e.interval && fits 48 e.ascending && fits 48 e.descending

/-- The changes of SET METER fit its 48 bytes. -/
def MeterChanges.fitsBody (c : MeterChanges) : Bool :=
  fitsIf 48 c.licence && fitsIf 48 c.standing && fitsIf 48 c.ceiling && fitsIf 48 c.markCode && fitsIf 48 c.interval

/-- The changes of SET BRANCH fit its 96 bytes. -/
def BranchChanges.fitsBody (c : BranchChanges) : Bool :=
  fitsIf 96 c.cycleLength && fitsIf 96 c.allowance
    && (match c.levels with
        | none => true
        | some l => decide (l.length ≤ 96) && l.all (fun e => fits 96 e.1 && fits 96 e.2))

/-- The first offset past the window (R167). -/
def windowBytes : Nat := 0x4000
/-- The first offset of the Request Ring (R167). -/
def requestRingStart : Nat := 0x1000
/-- The first offset of the Result Ring (R167). -/
def resultRingStart : Nat := 0x2000

/-- A 32-bit aligned write of a head word that the host writes: the two indices of the host and the enable word (R167). -/
def writesHeadWord (offset width : Nat) : Bool :=
  decide (width = 4) && (decide (offset = 0) || decide (offset = 0xC) || decide (offset = 0x10))

/-- A write of the window that has no row of its own: it lies in the window and is no 32-bit aligned write of a head word that the
host writes. R167 ignores it but where it lies in the Request Ring (log 41). -/
def otherWrite (offset width : Nat) : Bool :=
  decide (0 < width) && decide (offset + width ≤ windowBytes) && !writesHeadWord offset width

/-- Well-formed commands. -/
def Instr.wellFormed : Instr → Bool
  | .readStatus _ => true
  | .readAttention _ start => fits 4 start
  | .takeAttention _ subject slot _ => fits 1 subject && fits 2 slot
  | .setMode _ _ => true
  | .closeDay _ => true
  | .writeSettings _ _ => true
  | .readSettings _ => true
  | .restart _ => true
  | .clearTables _ => true
  | .enrolMeter _ e => e.fitsBody
  | .setMeter _ slot c => fits 48 slot && c.fitsBody
  | .reassignMeter _ slot branch => fits 4 slot && fits 4 branch
  | .closeMeter _ slot => fits 4 slot
  | .retireMeter _ slot => fits 4 slot
  | .readMeter _ slot _ => fits 4 slot
  | .meterReport _ slot _ a d => fits 2 slot && fits 8 a && fits 8 d
  | .resolveMeter _ slot a d => fits 24 slot && fits 24 a && fits 24 d
  | .refillRequest _ slot amount => fits 2 slot && fits 8 amount
  | .limitRequest _ slot amount => fits 2 slot && fits 8 amount
  | .loadConfirm _ slot number total => fits 16 slot && fits 16 number && fits 16 total
  | .cancelGrant _ slot number => fits 4 slot && fits 4 number
  | .cancelQueued _ slot => fits 4 slot
  | .readQueue _ start => fits 4 start
  | .deposit _ amount => fits 8 amount
  | .refund _ amount => fits 8 amount
  | .readPosition _ => true
  | .openBranch _ code => fits 4 code
  | .setBranch _ slot c => fits 96 slot && c.fitsBody
  | .closeBranch _ slot => fits 4 slot
  | .cycleStart _ slot _ => fits 4 slot
  | .cycleStop _ slot => fits 4 slot
  | .cyclePause _ slot => fits 4 slot
  | .cycleResume _ slot => fits 4 slot
  | .readBranch _ slot _ => fits 4 slot
  | .defineDenomination _ face => fits 4 face
  | .withdrawDenomination _ slot => fits 4 slot
  | .retireDenomination _ slot => fits 4 slot
  | .readDenominations _ => true
  | .purchaseStock _ branch d n => fits 8 branch && fits 8 d && fits 8 n
  | .issueStock _ branch d n => fits 8 branch && fits 8 d && fits 8 n
  | .writeOffStock _ branch d n => fits 8 branch && fits 8 d && fits 8 n
  | .surrenderStock _ branch d n => fits 8 branch && fits 8 d && fits 8 n
  | .dispatch _ o b d n => fits 12 o && fits 12 b && fits 12 d && fits 12 n
  | .receive _ number r => fits 8 number && fits 8 r
  | .cancelTransfer _ number => fits 4 number
  | .readTransfers _ start => fits 4 start
  | .beginCount _ branch => fits 4 branch
  | .enterCount _ branch d c => fits 8 branch && fits 8 d && fits 8 c
  | .closeCount _ branch => fits 4 branch
  | .abandonCount _ branch => fits 4 branch
  | .readCount _ branch => fits 4 branch
  | .badRequest _ kind length reservedSet => !Machine.headerPasses kind length reservedSet
  | .requestProducerIndexWrite _ => true
  | .resultConsumerIndexWrite _ => true
  | .interruptEnableWordWrite _ => true
  | .ignoredWindowWrite offset width value => otherWrite offset width && fits width value
  | .powerOn => true
  | .pcieReset => true
  | .loadSecondsTick => true
  | .loadTimerExpiry slot => decide (slot < Config.meterSlots)
  | .msiPermissionChange _ => true
  | .msiWrite => true
  | .powerLoss => true
  | .backupCellFailure => true

end Sys2Proof
end

