-- ==== Sys2Proof/Machine/Layout.lean ====
section
/-!
DEFINITION. The layouts of records in the rings: request records and result records as bytes (R173, R175), what stands in a slot of
either ring as 128 bytes, and the request that the bytes of a slot spell. Where the manual gives no layout the bytes, and the
reading of bytes, are free values (logs 4 and 7).
-/

namespace Sys2Proof.Config

/-- FREE VALUE (log 4). The byte at an offset of a slot that holds a request record whose body has no layout in the manual. -/
opaque recordByte : Instr → Nat → Byte

/-- FREE VALUE (log 4). The request that 128 bytes spell where their kind code's body has no layout in the manual; none where a byte
of the body that must be zero is not. -/
opaque bodyReading : List Byte → Option Instr

/-- FREE VALUE (log 7). The byte at a place of the outcome of a result whose outcome has no layout in the manual. -/
opaque outcomeByte : Machine.ResultRecord → Nat → Byte

end Sys2Proof.Config

namespace Sys2Proof.Machine

/-! ## Little-endian numbers -/

/-- A number as so many bytes, the least significant first (R175). -/
def leBytes : Nat → Nat → List Byte
  | 0, _ => []
  | size + 1, n => BitVec.ofNat 8 n :: leBytes size (n / 256)

/-- The number that bytes hold, the least significant first (R175). -/
def leValue : List Byte → Nat
  | [] => 0
  | b :: rest => b.toNat + 256 * leValue rest

/-- The field of a record at an offset, of so many bytes. -/
def field (bytes : List Byte) (offset size : Nat) : Nat :=
  leValue ((bytes.drop offset).take size)

/-! ## Request records -/

/-- The body of a request record whose layout the manual gives; none for the others (R173, R175). -/
def requestBody : Instr → Option (List Byte)
  | .readStatus _ | .closeDay _ | .readSettings _ | .restart _ | .clearTables _ | .readPosition _
  | .readDenominations _ => some []
  | .takeAttention _ subject slot causes =>
    some (leBytes 1 subject ++ leBytes 1 0 ++ leBytes 2 slot ++ leBytes 2 causes.toNat ++ leBytes 2 0)
  | .meterReport _ slot q a d =>
    some (leBytes 2 slot ++ leBytes 2 q.toNat ++ leBytes 4 0 ++ leBytes 8 a ++ leBytes 8 d)
  | .refillRequest _ slot amount => some (leBytes 2 slot ++ leBytes 6 0 ++ leBytes 8 amount)
  | .limitRequest _ slot amount => some (leBytes 2 slot ++ leBytes 6 0 ++ leBytes 8 amount)
  | .readAttention _ _ | .setMode _ _ | .writeSettings _ _ | .enrolMeter _ _ | .setMeter _ _ _
  | .reassignMeter _ _ _ | .closeMeter _ _ | .retireMeter _ _ | .readMeter _ _ _ | .resolveMeter _ _ _ _
  | .loadConfirm _ _ _ _ | .cancelGrant _ _ _ | .cancelQueued _ _ | .readQueue _ _ | .deposit _ _ | .refund _ _
  | .openBranch _ _ | .setBranch _ _ _ | .closeBranch _ _ | .cycleStart _ _ _ | .cycleStop _ _ | .cyclePause _ _
  | .cycleResume _ _ | .readBranch _ _ _ | .defineDenomination _ _ | .withdrawDenomination _ _
  | .retireDenomination _ _ | .purchaseStock _ _ _ _ | .issueStock _ _ _ _ | .writeOffStock _ _ _ _
  | .surrenderStock _ _ _ _ | .dispatch _ _ _ _ _ | .receive _ _ _ | .cancelTransfer _ _ | .readTransfers _ _
  | .beginCount _ _ | .enterCount _ _ _ _ | .closeCount _ _ | .abandonCount _ _ | .readCount _ _
  | .badRequest _ _ _ _ | .requestProducerIndexWrite _ | .resultConsumerIndexWrite _ | .interruptEnableWordWrite _
  | .ignoredWindowWrite _ _ _ | .powerOn | .pcieReset | .loadSecondsTick | .loadTimerExpiry _
  | .msiPermissionChange _ | .msiWrite | .powerLoss | .backupCellFailure => none

/-- The request header: kind code, tag, body length, zero (R175). -/
def requestHeader (kind tag : Half) (length : Nat) : List Byte :=
  leBytes 2 kind.toNat ++ leBytes 2 tag.toNat ++ leBytes 2 length ++ leBytes 2 0

/-- A request record as bytes, where the manual gives its layout (R175). -/
def requestBytes (i : Instr) : Option (List Byte) :=
  match header i, requestBody i with
  | some (kind, tag), some body => some (requestHeader kind tag body.length ++ body)
  | _, _ => none

/-- Whether a byte of a body that must be zero is not, for the kinds whose bodies have such bytes in the manual (R175). -/
def bodyReservedSet (kind : Half) (bytes : List Byte) : Bool :=
  match kind.toNat with
  | 0x03 => decide (field bytes 9 1 ≠ 0) || decide (field bytes 14 2 ≠ 0)
  | 0x30 => decide (field bytes 12 4 ≠ 0)
  | 0x40 | 0x41 => decide (field bytes 10 6 ≠ 0)
  | _ => false

/-- The request a record that passes the header check spells, for the kinds whose layout the manual gives (R173, R175). -/
def parseBody (kind tag : Half) (bytes : List Byte) : Option Instr :=
  match kind.toNat with
  | 0x01 => some (.readStatus tag)
  | 0x03 => some (.takeAttention tag (field bytes 8 1) (field bytes 10 2) (BitVec.ofNat 16 (field bytes 12 2)))
  | 0x11 => some (.closeDay tag)
  | 0x13 => some (.readSettings tag)
  | 0x14 => some (.restart tag)
  | 0x15 => some (.clearTables tag)
  | 0x30 =>
    some (.meterReport tag (field bytes 8 2) (BitVec.ofNat 16 (field bytes 10 2)) (field bytes 16 8) (field bytes 24 8))
  | 0x40 => some (.refillRequest tag (field bytes 8 2) (field bytes 16 8))
  | 0x41 => some (.limitRequest tag (field bytes 8 2) (field bytes 16 8))
  | 0x62 => some (.readPosition tag)
  | 0x83 => some (.readDenominations tag)
  | _ => none

/-- The request a slot of the Request Ring spells: a record that fails the header check is a BAD_REQUEST (R168); none where the
manual does not give the layout of its body. -/
def parseRequest (bytes : List Byte) : Option Instr :=
  let kind : Half := BitVec.ofNat 16 (field bytes 0 2)
  let tag : Half := BitVec.ofNat 16 (field bytes 2 2)
  let length : Half := BitVec.ofNat 16 (field bytes 4 2)
  let reservedSet := decide (field bytes 6 2 ≠ 0) || bodyReservedSet kind bytes
  if headerPasses kind length reservedSet then parseBody kind tag bytes else some (.badRequest tag kind length reservedSet)

/-- A slot's bytes, zero beyond the record (R168). -/
def padded (l : List Byte) : List Byte :=
  l ++ List.replicate (Config.slotBytes - l.length) 0

/-! ## A slot of the Request Ring -/

/-- The body length a request record's header gives (R173, R175). -/
def recordLength : Instr → Nat
  | .badRequest _ _ length _ => length.toNat
  | c => ((header c).bind (fun h => bodyLength h.1)).getD 0

/-- Whether a request record has a byte set that must be zero. -/
def recordReservedSet : Instr → Bool
  | .badRequest _ _ _ reservedSet => reservedSet
  | _ => false

/-- The byte at an offset of the slot of a request record whose body has no layout: its header, a free body, zeros (log 4). -/
def freeRecordByte (c : Instr) (offset : Nat) : Byte :=
  if offset < 6 then ((header c).bind (fun h => (requestHeader h.1 h.2 (recordLength c))[offset]?)).getD 0
  else if offset < Config.headerBytes && !recordReservedSet c then 0
  else if offset < Config.headerBytes + recordLength c then Config.recordByte c offset
  else 0

/-- A request record as the 128 bytes of its slot. -/
def recordBytes (c : Instr) : List Byte :=
  match requestBytes c with
  | some l => padded l
  | none => (List.range Config.slotBytes).map (freeRecordByte c)

/-- The 128 bytes of a slot of the Request Ring; of zeros where nothing is listed. -/
def slotBytes : Option RequestSlot → List Byte
  | none => padded []
  | some (.record c) => recordBytes c
  | some (.raw l) => l

/-- The request that 128 bytes spell (R168 step 1, R173, R175; log 4). A reading that is not of the kind code and tag in the header
is a BAD_REQUEST. -/
def readBytes (l : List Byte) : Instr :=
  match parseRequest l with
  | some c => c
  | none =>
    let kind : Half := BitVec.ofNat 16 (field l 0 2)
    let tag : Half := BitVec.ofNat 16 (field l 2 2)
    match Config.bodyReading l with
    | some c =>
      if header c = some (kind, tag) ∧ c.wellFormed = true then c
      else .badRequest tag kind (BitVec.ofNat 16 (field l 4 2)) true
    | none => .badRequest tag kind (BitVec.ofNat 16 (field l 4 2)) true

/-- The request that stands in a slot of the Request Ring (R168 step 1). -/
def readSlot : Option RequestSlot → Instr
  | some (.record c) => c
  | some (.raw l) => readBytes l
  | none => readBytes (padded [])

/-- The request whose record is exactly these 128 bytes, where the manual gives its layout. -/
def spelled (l : List Byte) : Option Instr :=
  (parseRequest l).filter (fun c => decide ((requestBytes c).map padded = some l))

/-- 128 bytes as a slot holds them: zeros are not listed, and a record with a layout is held as the request it spells, so that
equal bytes of this sort are equal data. -/
def slotOf (l : List Byte) : Option RequestSlot :=
  if l = padded [] then none
  else
    match spelled l with
    | some c => some (.record c)
    | none => some (.raw l)

/-- The Request Ring with a slot as given. -/
def setSlot (ring : Table RequestSlot) (i : Nat) : Option RequestSlot → Table RequestSlot
  | none => Table.erase ring i
  | some x => Table.put ring i x

/-- One byte written to the Request Ring, at an offset from its start (R167). A byte that already stands there leaves the ring as it
is. -/
def storeByte (ring : Table RequestSlot) (offset : Nat) (b : Byte) : Table RequestSlot :=
  let old := slotBytes (Table.find ring (offset / Config.slotBytes))
  if old[offset % Config.slotBytes]? = some b then ring
  else setSlot ring (offset / Config.slotBytes) (slotOf (old.set (offset % Config.slotBytes) b))

/-- The bytes of a window write, each stored where it falls into the Request Ring, 0x1000 to 0x1FFF (R167). -/
def storeBytes (ring : Table RequestSlot) (offset : Nat) : List Byte → Table RequestSlot
  | [] => ring
  | b :: rest =>
    storeBytes (if 0x1000 ≤ offset ∧ offset < 0x2000 then storeByte ring (offset - 0x1000) b else ring) (offset + 1) rest

/-! ## Result records -/

/-- The code of a grant kind (R175). -/
def grantKindCode : GrantKind → Nat
  | .refill => 0
  | .limit => 1

/-- The code of a reason (R175). -/
def reasonCode : Reason → Nat
  | .none => 0
  | .ceiling => 1
  | .allowance => 2
  | .pool => 3

/-- The four bytes of one subject in READ ATTENTION (R175). -/
def subjectBytes (e : Nat × Half) : List Byte :=
  leBytes 2 e.1 ++ leBytes 2 e.2.toNat

/-- An outcome as bytes, where the manual gives its layout (R174, R175). TAKE ATTENTION's is its 16-bit cause set alone (log 42). -/
def outcomeLayout : Outcome → Option (List Byte)
  | .none => some []
  | .grant number kind reason timeout slot amount expected =>
    some (leBytes 2 number ++ leBytes 1 (grantKindCode kind) ++ leBytes 1 (reasonCode reason) ++ leBytes 2 timeout
      ++ leBytes 2 slot ++ leBytes 8 amount ++ leBytes 8 expected)
  | .attention l next => some (leBytes 2 l.length ++ leBytes 2 next ++ l.flatMap subjectBytes)
  | .causesLeft causes => some (leBytes 2 causes.toNat)
  | _ => Option.none

/-- The result header: tag, kind code, status code, outcome length (R175). -/
def resultHeader (r : ResultRecord) : List Byte :=
  leBytes 2 r.tag.toNat ++ leBytes 2 r.kind.toNat ++ leBytes 2 (statusCode r.status) ++ leBytes 2 r.length

/-- A result record as bytes: its header and its outcome, whose bytes are free where the manual gives no layout (R168, R175;
log 7). -/
def resultBytes (r : ResultRecord) : List Byte :=
  resultHeader r ++
    match outcomeLayout r.outcome with
    | some o => o
    | none => (List.range r.length).map (Config.outcomeByte r)

/-- The 128 bytes of a slot of the Result Ring: the part of its result that stands there, zeros beyond it (R168). -/
def resultSlotBytes : Option ResultSlot → List Byte
  | none => padded []
  | some x => padded (((resultBytes x.result).drop (Config.slotBytes * x.part)).take Config.slotBytes)

end Sys2Proof.Machine
end

