-- ==== Sys2Proof/Machine/Rings.lean ====
section
/-!
DEFINITION. The Request Interface: the rings and their indices (R167), taking a request and posting its result as one act (R168),
the ring fault (R169) and the pending marks (R170).
-/

namespace Sys2Proof.Machine

/-- Slots of the Request Ring in use, (producer - consumer) mod 256 (R167). -/
def requestsInUse (s : State) : Nat :=
  (s.requestProducer - s.requestConsumer).toNat

/-- Slots of the Result Ring in use, (producer - consumer) mod 256 (R167). -/
def resultsInUse (s : State) : Nat :=
  (s.resultProducer - s.resultConsumer).toNat

/-- Free slots of the Result Ring (R168). -/
def resultsFree (s : State) : Nat :=
  Config.ringSlots - resultsInUse s

/-! ## The size of a result -/

/-- How many figures an outcome lists, each absent or present mark and each member of a set counted as one. -/
def figures : Outcome → Nat
  | .none => 0
  | .status _ => 36
  | .attention l _ => 2 + 2 * l.length
  | .causesLeft _ => 1
  | .modes _ _ => 2
  | .serviceEntry _ _ _ _ => 9
  | .day _ => 1
  | .applied l => 3 * l.length
  | .stored _ => 12
  | .started _ _ => 13
  | .cleared _ => 1
  | .enrolled _ _ _ => 3
  | .meterSet _ _ => 43
  | .reassigned _ _ => 2
  | .retired _ _ => 4
  | .emptySlot _ => 2
  | .meterRead _ _ _ _ _ => 46
  | .report _ => 15
  | .lastSequence _ => 1
  | .reportMismatch _ _ _ => 6
  | .lateShort _ _ => 2
  | .resolved _ => 10
  | .grant _ _ _ _ _ _ _ => 7
  | .joined _ _ => 2
  | .wouldRefuse _ f => 2 + figures f
  | .wouldQueue _ _ => 3
  | .wouldIssue _ _ _ _ => 5
  | .headroom _ _ => 2
  | .allowanceLeft _ => 1
  | .arrears _ => 1
  | .settled _ _ _ _ => 5
  | .declined => 1
  | .confirmMismatch _ _ => 2
  | .numberHeld _ => 2
  | .cancelled _ _ => 2
  | .entryRemoved _ _ => 5
  | .queue r => 6 + 6 * r.entries.length
  | .deposited _ _ _ _ _ _ _ => 7
  | .balance _ => 1
  | .refunded _ _ => 2
  | .position _ => 20
  | .slotChosen _ => 1
  | .branchSet _ _ _ _ _ _ _ _ => 23
  | .branchClosed _ _ => 2
  | .branchHeld _ => 2
  | .cycle _ _ _ _ _ => 5
  | .branch _ => 51
  | .withdrawn _ _ _ => 3
  | .denominationRetired _ _ => 2
  | .denominationHeld _ => 3
  | .denominations _ _ => 177
  | .slotState _ => 1
  | .onHand _ => 1
  | .purchaseShort _ _ => 2
  | .bound _ _ => 2
  | .purchased _ _ _ => 3
  | .stockIssued _ _ _ _ => 4
  | .stockWrittenOff _ _ _ _ => 4
  | .surrendered _ _ _ _ _ _ _ _ _ => 9
  | .dispatched _ _ _ _ _ => 5
  | .received _ _ _ _ _ _ => 13
  | .transferCancelled _ _ => 9
  | .transfers _ _ _ _ _ l => 5 + 10 * l.length
  | .countBegun _ _ => 17
  | .figureEntered _ _ _ _ _ => 5
  | .count _ _ _ => 98
  | .countAbandoned _ => 1
  | .countClosed l _ _ _ _ _ _ => 6 + 6 * l.length

/-- The outcome length where the manual gives the layout: none for the status alone (R174, log 28), the grant result, READ ATTENTION
(R175) and TAKE ATTENTION (R175, log 42). -/
def givenLength : Outcome → Option Nat
  | .none => some 0
  | .grant _ _ _ _ _ _ _ => some 24
  | .attention l _ => some (4 + 4 * l.length)
  | .causesLeft _ => some 2
  | _ => none

/-- The outcome length of a result. Where the manual gives no layout it is a free value, at most 8 bytes a figure, as wide as the
widest field of the layouts it does give (log 6). -/
def outcomeBytes (kind : Half) (r : Reply) : Nat :=
  match givenLength r.outcome with
  | some n => n
  | none => min (Config.outcomeLength kind.toNat (statusCode r.status) (figures r.outcome)) (8 * figures r.outcome)

/-- Slots taken by the 8-byte header and an outcome of so many bytes: one for each 128 bytes or part of them (R168). -/
def slotsFor (bytes : Nat) : Nat :=
  (Config.headerBytes + bytes + (Config.slotBytes - 1)) / Config.slotBytes

/-- The most slots a result can take (log 6). -/
def mostSlots (r : Reply) : Nat :=
  match givenLength r.outcome with
  | some n => slotsFor n
  | none => slotsFor (8 * figures r.outcome)

/-- The slots a result takes. An outcome of at most 15 figures fits the 120 bytes of the first slot (log 6). -/
def slotsTaken (kind : Half) (r : Reply) : Nat :=
  if mostSlots r ≤ 1 then 1 else slotsFor (outcomeBytes kind r)

/-- The Result Ring has as many free slots as a result takes (R168). The first comparison decides it where even the largest
size fits. -/
def resultFits (kind : Half) (r : Reply) (s : State) : Bool :=
  decide (mostSlots r ≤ resultsFree s) || decide (slotsTaken kind r ≤ resultsFree s)

/-! ## Posting -/

/-- The parts of a result in the slots from the result producer on (R168 step 3). -/
def writeParts (result : ResultRecord) (first : Byte) : Nat → Table ResultSlot → Table ResultSlot
  | 0, ring => ring
  | n + 1, ring =>
    Table.put (writeParts result first n ring) ((first.toNat + n) % Config.ringSlots) { result := result, part := n }

/-- Steps 3 to 5 of R168 but for the request consumer: the result record is written whole, the result producer advances by its
slots, and the result interrupt is raised where its enable in force is on (R170). -/
def postResult (kind tag : Half) (r : Reply) (s : State) : State :=
  let n := slotsTaken kind r
  let result : ResultRecord :=
    { tag := tag, kind := kind, status := r.status, length := outcomeBytes kind r, outcome := r.outcome }
  { s with
    resultRing := writeParts result s.resultProducer n s.resultRing
    resultProducer := s.resultProducer + BitVec.ofNat 8 n
    resultMark := s.resultMark || s.inForce.resultEnable }

/-- The whole of R168's posting: the result and the advance of the request consumer by one. -/
def post (kind tag : Half) (r : Reply) (s : State) : State :=
  postResult kind tag r { s with requestConsumer := s.requestConsumer + 1 }

/-! ## Sending and taking a request -/

/-- The host's sending of a request: its record is written into the slot named by the request producer, which then advances by one
(R167). Where more than 32 slots are then in use the ring fault is set (R169; log 2). -/
def send (c : Instr) (s : State) : State :=
  { s with
    requestRing := Table.put s.requestRing (s.requestProducer.toNat % Config.ringSlots) (.record c)
    requestProducer := s.requestProducer + 1
    ringFault := s.ringFault || decide (Config.ringSlots < (s.requestProducer + 1 - s.requestConsumer).toNat) }

/-- The request in the slot named by the request consumer (R168 step 1). -/
def firstRequest (s : State) : Instr :=
  readSlot (Table.find s.requestRing (s.requestConsumer.toNat % Config.ringSlots))

/-- R168's conditions on a record that stands first in the Request Ring: the ring fault is clear and the result fits. -/
def takes (kind : Half) (r : Reply) (s : State) : Bool :=
  !s.ringFault && resultFits kind r s

/-- A request command: the host sends the record, and the board takes it where no record stands before it and R168 lets it be taken;
otherwise it waits in its slot (log 2). `block` is the block that owns the request. No block reads or writes the Request Ring, so
its answer is the same before the record is sent; but for READ STATUS, which reports the indices. -/
def request (c : Instr) (block : State → State × Reply) (s : State) : State :=
  match header c with
  | none => s
  | some (kind, tag) =>
    if s.powered then
      if requestsInUse s = 0 ∧ takes kind (block s).2 s then post kind tag (block s).2 (send c (block s).1) else send c s
    else s

/-- A record that fails the header check is answered BAD_REQUEST and reaches no block (R168 step 1, R174). -/
def badRequestBlock (s : State) : State × Reply :=
  (s, refuse .badRequest)

/-- BAD_REQUEST (R168, R173, R174). A record that passes the header check is no such command and changes nothing (log 29). -/
def execBadRequest (tag kind length : Half) (reservedSet : Bool) (s : State) : Answer :=
  .next (if headerPasses kind length reservedSet then s
    else request (.badRequest tag kind length reservedSet) badRequestBlock s)

/-- Whether a command is RESTART. -/
def isRestart : Instr → Bool
  | .restart _ => true
  | _ => false

/-! ## Writes of the indices (R167, R169) -/

/-- REQUEST_PRODUCER_INDEX_WRITE: bits 0 to 7 are stored; the ring fault is set where more than 32 slots would be in use
(R169). -/
def execRequestProducerIndexWrite (value : Word) (s : State) : Answer :=
  .next (if s.powered then
    let s' := { s with requestProducer := value.setWidth 8 }
    if Config.ringSlots < requestsInUse s' then { s' with ringFault := true } else s'
  else s)

/-- RESULT_CONSUMER_INDEX_WRITE: bits 0 to 7 are stored; the ring fault is set where the host claims results the board has not
posted (R169). -/
def execResultConsumerIndexWrite (value : Word) (s : State) : Answer :=
  .next (if s.powered then
    let s' := { s with resultConsumer := value.setWidth 8 }
    if Config.ringSlots < resultsInUse s' then { s' with ringFault := true } else s'
  else s)

/-! ## Interrupts (R170) -/

/-- MSI_WRITE: while either mark is set and messages may be sent, one MSI is sent and both marks are cleared (R170). -/
def execMsiWrite (s : State) : Answer :=
  .next (if s.powered && (s.resultMark || s.attentionMark) && s.msiPermitted then
    { s with resultMark := false, attentionMark := false, msiSent := s.msiSent + 1 }
  else s)

/-- MSI_PERMISSION_CHANGE: the input takes its new value (R170). -/
def execMsiPermissionChange (allowed : Bool) (s : State) : Answer :=
  .next (if s.powered then { s with msiPermitted := allowed } else s)

end Sys2Proof.Machine
end

