-- ==== Sys2Proof/Machine/Pool.lean ====
section
/-!
DEFINITION. The Funds Pool's operations: the ordinary pool debit (R97), the postpaid usage charge (R98), the pool credit without its
serving (R99), and the three total additions (R101).
-/

namespace Sys2Proof.Machine

/-- Whether the ordinary pool debit of an amount is granted (R97). -/
def covers (s : State) (amount : Nat) : Bool :=
  decide (amount ≤ s.record.pool.balance)

/-- The ordinary pool debit of an amount that the pool covers: P falls by it (R97). -/
def debitPool (amount : Nat) (s : State) : State :=
  s.withPool { s.record.pool with balance := s.record.pool.balance - amount }

/-- The part of a postpaid usage that the pool pays, m = min(U, P) (R98). -/
def chargePaid (usage : Nat) (s : State) : Nat :=
  min usage s.record.pool.balance

/-- The postpaid usage charge of U: m = min(U, P) leaves P and U - m joins V. ARREARS is set where V rises from 0 (R98). -/
def chargeUsage (usage : Nat) (s : State) : State :=
  let p := s.record.pool
  let paid := chargePaid usage s
  let s' := s.withPool { p with balance := p.balance - paid, arrears := p.arrears + (usage - paid) }
  if p.arrears = 0 ∧ 0 < usage - paid then setDeviceCause .arrears s' else s'

/-- A pool credit of an amount, before its serving: arrears are paid first and the rest reaches P. ARREARS is removed where
this leaves V at 0 having been above 0 (R99). -/
def creditPool (amount : Nat) (s : State) : State :=
  let p := s.record.pool
  let paid := min p.arrears amount
  let s' := s.withPool { p with balance := p.balance + (amount - paid), arrears := p.arrears - paid }
  if 0 < p.arrears ∧ p.arrears - paid = 0 then clearDeviceCause .arrears s' else s'

/-- The franked addition (R101). -/
def addFranked (usage : Nat) (s : State) : State :=
  s.withPool { s.record.pool with franked := s.record.pool.franked + usage }

/-- The issued addition (R101). -/
def addIssued (value : Nat) (s : State) : State :=
  s.withPool { s.record.pool with issued := s.record.pool.issued + value }

/-- The written-off addition of a signed amount (R101). -/
def addWrittenOff (value : Int) (s : State) : State :=
  s.withPool { s.record.pool with writtenOff := s.record.pool.writtenOff + value }

/-- The totals check of a usage (R32): F + U, and for a POSTPAID meter V plus the part of U the pool cannot cover, stay within
2^47 - 1. -/
def usageFits (kind : MeterKind) (usage : Nat) (s : State) : Bool :=
  decide (s.record.pool.franked + usage ≤ Config.totalMax)
    && (decide (kind = .prepaid) || decide (s.record.pool.arrears + (usage - chargePaid usage s) ≤ Config.totalMax))

end Sys2Proof.Machine
end

