-- ==== Sys2Proof/Machine/Grants.lean ====
section
/-!
DEFINITION. The Grant Unit's shared operations: the amount computation (R55 to R59), placement (R60, R61), issue (R62, R63),
settlement (R69), void (R71, R72), late settlement (R75 to R77), and the spent total (R121, R122).
-/

namespace Sys2Proof.Machine

/-! ## The grant amount (3.2) -/

/-- What the amount computation reaches: an amount with its reason, or a refusal with its figures. -/
inductive Computation where
  | grant (amount : Nat) (reason : Reason)
  | refused (status : Status) (figures : Outcome)
deriving DecidableEq, Repr

/-- The largest multiple of the refill step not above an amount (R58). -/
def roundDown (step amount : Nat) : Nat :=
  amount / step * step

/-- The amount after the allowance step (R57). -/
def afterAllowance (allowance : Option Nat) (amount : Nat) : Nat :=
  match allowance with
  | none => amount
  | some q => min amount q

/-- The amount computation on an amount already substituted (R55 to R59). `allowance` is the remaining allowance where one is
in force. -/
def computeGrant (step : Nat) (allowance : Option Nat) (m : Meter) (requested : Nat) : Computation :=
  if !amountOk requested then .refused .badValue .none
  else if m.headroom < (step : Int) then .refused .atCeiling (.headroom m.headroom step)
  else
    let r1 := min requested m.headroom.toNat
    let r2 := afterAllowance allowance r1
    if roundDown step r2 = 0 then
      if r2 < r1 then .refused .allowanceSpent (.allowanceLeft (allowance.getD 0))
      else .refused .atCeiling (.headroom m.headroom step)
    else .grant (roundDown step r2) (if r2 < r1 then .allowance else if r1 < requested then .ceiling else .none)

/-! ## Placement (3.3) -/

/-- What is to become of a request: issued, joined to the Refill Queue with the amount its entry holds, or refused. -/
inductive Decision where
  | issue (amount : Nat) (reason : Reason)
  | join (amount : Nat)
  | refused (status : Status) (figures : Outcome)
deriving DecidableEq, Repr

/-- Whether the Refill Queue has room for a refill of an origin (R82, R83). -/
def queueRoom (s : State) : Origin → Bool
  | .host => decide (s.record.queue.length < Config.queuePlaces)
  | .auto => decide (s.inForce.margin < Config.queuePlaces - s.record.queue.length)

/-- The amount a queue entry holds: the one the request carried, or the standing amount substituted for it where the one carried
is out of range (R61). -/
def heldAmount (carried substitutedAmount : Nat) : Nat :=
  if amountOk carried then carried else substitutedAmount

/-- Joins the queue where it has room, else refuses QUEUE_FULL (R82, R83). -/
def joinOrFull (s : State) (origin : Origin) (held : Nat) : Decision :=
  if queueRoom s origin then .join held else .refused .queueFull .none

/-- What PARTIAL would grant of the pool balance: floor(P / S) S (R61, R89). -/
def partialAmount (s : State) : Nat :=
  roundDown s.inForce.refillStep s.record.pool.balance

/-- Whether PARTIAL grants of a pool that is short: the policy is PARTIAL and floor(P / S) S is at least S (R61, R89). -/
def partialServes (s : State) : Bool :=
  decide (s.inForce.shortage = .partly) && decide (s.inForce.refillStep ≤ partialAmount s)

/-- The placement of a refill that has reached an amount (R61). -/
def placeRefill (s : State) (origin : Origin) (held amount : Nat) (reason : Reason) : Decision :=
  if s.record.queue.isEmpty then
    if covers s amount then .issue amount reason
    else if partialServes s then .issue (partialAmount s) .pool
    else joinOrFull s origin held
  else joinOrFull s origin held

/-- The computation and placement of a refill: the amount carried, and the amount after substitution (R55, R61). -/
def decideRefill (s : State) (m : Meter) (origin : Origin) (carried amount : Nat) : Decision :=
  match computeGrant s.inForce.refillStep (allowanceOf s m.branch) m amount with
  | .refused st f => .refused st f
  | .grant g reason => placeRefill s origin (heldAmount carried amount) g reason

/-- The computation and placement of a limit grant: refused POOL_SHORT while arrears stand (R57, R60). -/
def decideLimit (s : State) (m : Meter) (amount : Nat) : Decision :=
  match computeGrant s.inForce.refillStep none m amount with
  | .refused st f => .refused st f
  | .grant g reason =>
    if 0 < s.record.pool.arrears then .refused .poolShort (.arrears s.record.pool.arrears) else .issue g reason

/-! ## The spent total (6.4) -/

/-- Adds a counted refill or a late settlement to a branch's spent total, which saturates; ALLOWANCE_SPENT is set where this
leaves A above 0 and A - W below the refill step (R121, R122). -/
def addSpent (branch amount : Nat) (s : State) : State :=
  match s.branch? branch with
  | none => s
  | some b =>
    let w := min (b.spent + amount) Config.totalMax
    let s' := s.putBranch branch { b with spent := w }
    if 0 < b.allowance ∧ b.allowance < w + s.inForce.refillStep then setBranchCause branch .allowanceSpent s' else s'

/-- Adds to the spent total where the branch's allowance is in force (R62, R75). -/
def countSpent (branch amount : Nat) (s : State) : State :=
  if (allowanceOf s branch).isSome then addSpent branch amount s else s

/-- The void of a counted grant lowers the spent total of the branch at issue while that branch holds the grant's cycle number
(R72). -/
def reduceSpent (g : GrantOut) (s : State) : State :=
  match s.branch? g.branch with
  | none => s
  | some b =>
    if g.counted ∧ b.cycle = g.cycle then s.putBranch g.branch { b with spent := b.spent - g.amount } else s

/-! ## Issue (3.5) -/

/-- The cycle number of a branch (R62). -/
def cycleOf (s : State) (branch : Nat) : Byte :=
  match s.branch? branch with
  | none => 0
  | some b => b.cycle

/-- The record with a new grant out and its next grant number advanced (R62 step 2, R63). -/
def Meter.withGrant (m : Meter) (kind : GrantKind) (amount : Nat) (counted : Bool) (cycle : Byte) (timeout : Nat) : Meter :=
  { m with
    grantOut := some
      { number := m.nextGrant, amount := amount, kind := kind, branch := m.branch, counted := counted, cycle := cycle,
        remaining := timeout }
    nextGrant := nextNumber m.nextGrant }

/-- The pool's part of issuing a refill: P falls by G and the reserved total rises by it (R62, R64). -/
def reserveFunds (amount : Nat) (s : State) : State :=
  s.withPool
    { s.record.pool with balance := s.record.pool.balance - amount, reserved := s.record.pool.reserved + amount }

/-- Issues a grant to the meter m of a slot (R62, R63). -/
def issueGrant (slot : Nat) (m : Meter) (kind : GrantKind) (amount : Nat) (s : State) : State :=
  match kind with
  | .limit => s.putMeter slot (m.withGrant .limit amount false (cycleOf s m.branch) s.inForce.loadTimeout)
  | .refill =>
    let counted := (allowanceOf s m.branch).isSome
    let s' := countSpent m.branch amount (reserveFunds amount s)
    s'.putMeter slot (m.withGrant .refill amount counted (cycleOf s m.branch) s.inForce.loadTimeout)

/-! ## Settlement, void and late settlement (3.7 to 3.9) -/

/-- Takes the amount of a refill out from the reserved total; a limit is no part of it (R64). -/
def unreserve (g : GrantOut) (s : State) : State :=
  match g.kind with
  | .limit => s
  | .refill => s.withPool { s.record.pool with reserved := s.record.pool.reserved - g.amount }

/-- Settles the grant out g of the meter m of a slot (R69). -/
def settleGrant (slot : Nat) (m : Meter) (g : GrantOut) (s : State) : State :=
  putEvaluated slot { m.loadedWith g.amount with grantOut := none } (unreserve g s)

/-- The record after a void of its grant out (R71 steps 3 to 5). -/
def Meter.voided (m : Meter) (g : GrantOut) : Meter :=
  { m with
    grantOut := none
    lastVoided := some { number := g.number, amount := g.amount, kind := g.kind }
    voids := countUp m.voids 1
    causes := m.causes.with .grantVoided }

/-- The void of the grant out g of the meter m of a slot, up to its pool credit (R71 steps 1 to 5). -/
def voidGrant (slot : Nat) (m : Meter) (g : GrantOut) (s : State) : State :=
  raiseAttention ((reduceSpent g (unreserve g s)).putMeter slot (m.voided g))

/-- The amount a void gives to the pool: G for a refill, nothing for a limit (R71 step 6). -/
def refillAmount (g : GrantOut) : Nat :=
  match g.kind with
  | .limit => 0
  | .refill => g.amount

/-- Late settlement of the last voided grant v of the meter m of a slot; none where the pool is short (R75 to R77). -/
def lateSettle (slot : Nat) (m : Meter) (v : Voided) (s : State) : Option State :=
  let m' := { m.loadedWith v.amount with lastVoided := none }
  match v.kind with
  | .limit => some (putEvaluated slot m' s)
  | .refill =>
    if covers s v.amount then some (putEvaluated slot m' (countSpent m.branch v.amount (debitPool v.amount s))) else none

/-- The meter m of a slot enters DISPUTE, or stays there, with the cause set (R41, R77). -/
def enterDispute (slot : Nat) (m : Meter) (s : State) : State :=
  raiseAttention (s.putMeter slot { m with state := .dispute, causes := m.causes.with .dispute })

/-- A refusal that counts adds one to the refused-refills counter; BAD_VALUE does not (R22, R52). -/
def Meter.refusedWith (m : Meter) (status : Status) : Meter :=
  if status = .badValue then m else { m with refused := countUp m.refused 1 }

end Sys2Proof.Machine
end

