-- ==== Sys2Proof/Machine/Queue.lean ====
section
/-!
DEFINITION. The Refill Queue: joining (R82 to R84), serving (R85 to R89), removal from outside (R90), the pool credit with its serving
(R99, R100), and the requests CANCEL QUEUED (R91) and READ QUEUE (R92, R93).
-/

namespace Sys2Proof.Machine

/-! ## Joining -/

/-- A refill joins the tail: the peak figure follows, and POOL_WAIT is set when the queue was empty (R82, R84, R93). -/
def joinQueue (slot amount : Nat) (origin : Origin) (s : State) : State :=
  let q := s.record.queue ++ [{ slot := slot, amount := amount, origin := origin, day := s.record.day }]
  let s' := { s with record.queue := q, record.queuePeak := max s.record.queuePeak q.length }
  if s.record.queue.isEmpty then setDeviceCause .poolWait s' else s'

/-! ## Serving -/

/-- A state reached by serving, with the grants issued and the entries removed without a grant. -/
structure Served where
  state : State
  issued : Nat
  removed : Nat
deriving DecidableEq, Repr

/-- What one round of serving comes to (R86). -/
inductive Round where
  | stop
  | issued (state : State)
  | removed (state : State)
deriving DecidableEq, Repr

/-- Whether the meter of a head entry is eligible: ACTIVE, no grant out, effective conditioning NONE or FIXED (R87). -/
def eligible (s : State) (m : Meter) : Bool :=
  decide (m.state = .active) && m.grantOut.isNone && mayOriginate (effective s m)

/-- The amount at which a head entry whose computation reached g is issued; none where it stays (R89). -/
def servedAmount (s : State) (g : Nat) : Option Nat :=
  if covers s g then some g else if partialServes s then some (partialAmount s) else none

/-- The head entry is issued an amount: it leaves the queue and GRANT_READY is set (R89). -/
def issueHead (e : QueueEntry) (rest : List QueueEntry) (m : Meter) (amount : Nat) (s : State) : State :=
  setMeterCause e.slot .grantReady (issueGrant e.slot m .refill amount (setQueueAfterRemoval rest s))

/-- The head entry is refused by its computation: it leaves the queue, REFILL_REFUSED is set, and the refusal counts but for
BAD_VALUE (R88). -/
def refuseHead (e : QueueEntry) (rest : List QueueEntry) (m : Meter) (status : Status) (s : State) : State :=
  setMeterCause e.slot .refillRefused ((setQueueAfterRemoval rest s).putMeter e.slot (m.refusedWith status))

/-- One round of serving on the head entry (R86 to R89). -/
def serveRound (s : State) : Round :=
  match s.record.queue with
  | [] => .stop
  | e :: rest =>
    if s.record.pool.balance = 0 then .stop
    else
      match s.meter? e.slot with
      | none => .removed (setQueueAfterRemoval rest s)
      | some m =>
        if eligible s m then
          match computeGrant s.inForce.refillStep (allowanceOf s m.branch) m (substituted (effective s m) m e.amount) with
          | .refused st _ => .removed (refuseHead e rest m st s)
          | .grant g _ =>
            match servedAmount s g with
            | none => .stop
            | some a => .issued (issueHead e rest m a s)
        else .removed (setMeterCause e.slot .queueDropped (setQueueAfterRemoval rest s))

/-- Rounds of serving until one stops, at most `rounds` of them (R86). -/
def serveRounds : Nat → State → Served
  | 0, s => { state := s, issued := 0, removed := 0 }
  | rounds + 1, s =>
    match serveRound s with
    | .stop => { state := s, issued := 0, removed := 0 }
    | .issued t => let r := serveRounds rounds t; { r with issued := r.issued + 1 }
    | .removed t => let r := serveRounds rounds t; { r with removed := r.removed + 1 }

/-- The Refill Queue is asked to serve: it does so in SERVICE (R85). Each round but the last removes an entry, so the rounds are
no more than the entries. -/
def serveQueue (s : State) : Served :=
  if serves s.record.mode then serveRounds s.record.queue.length s else { state := s, issued := 0, removed := 0 }

/-- A pool credit with the serving it asks for (R99, R100). A credit of 0 is none. -/
def creditAndServe (amount : Nat) (s : State) : Served :=
  if amount = 0 then { state := s, issued := 0, removed := 0 } else serveQueue (creditPool amount s)

/-- A void with its pool credit, which serves (R71). -/
def voidAndCredit (slot : Nat) (m : Meter) (g : GrantOut) (s : State) : State :=
  (creditAndServe (refillAmount g) (voidGrant slot m g s)).state

/-! ## Removal from outside -/

/-- Whether the entry at the head of the queue is of a meter slot (R85). -/
def headIs (s : State) (slot : Nat) : Bool :=
  match s.record.queue with
  | [] => false
  | e :: _ => e.slot == slot

/-- Removes a meter slot's entry, if it has one (R90, R91). -/
def removeEntry (slot : Nat) (s : State) : State :=
  if s.queued slot then setQueueAfterRemoval (s.record.queue.filter (fun e => e.slot != slot)) s else s

/-- A meter slot becomes EMPTY and its queue entry is removed in the same step (R6, R90). -/
def emptySlot (slot : Nat) (s : State) : State :=
  removeEntry slot (s.dropMeter slot)

/-! ## CANCEL QUEUED and READ QUEUE -/

/-- The position and entry of a meter slot, counting from a position (R91). -/
def findEntry (slot : Nat) : Nat → List QueueEntry → Option (Nat × QueueEntry)
  | _, [] => none
  | i, e :: rest => if e.slot = slot then some (i, e) else findEntry slot (i + 1) rest

/-- CANCEL QUEUED (R91). DESIGN CHOICE (log 47): the result carries the entry whole, and so the meter slot too, which R91 does not list. -/
def cancelQueued (slot : Nat) (s : State) : State × Reply :=
  if !serves s.record.mode then (s, refuse .wrongMode)
  else if !meterSlotOk slot then (s, refuse .badValue)
  else if (s.meter? slot).isNone then (s, refuse .unknownMeter)
  else
    match findEntry slot 0 s.record.queue with
    | none => (s, refuse .notQueued)
    | some (i, e) =>
      let s' := removeEntry slot s
      (if i = 0 then (serveQueue s').state else s', done (.entryRemoved i e))

/-- Entries of a page with their positions (R92, R148). -/
def numbered {α : Type} : Nat → List α → List (Nat × α)
  | _, [] => []
  | i, a :: rest => (i, a) :: numbered (i + 1) rest

/-- Up to 8 entries from a start position (R92, R148). -/
def page {α : Type} (start : Nat) (l : List α) : List (Nat × α) :=
  ((numbered 0 l).drop start).take Config.entryPage

/-- The depth indicator (R93). -/
def depthOf (s : State) : Nat :=
  match s.inForce.depth with
  | .live => s.record.queue.length
  | .peak => s.record.queuePeak

/-- READ QUEUE: the result, after which the peak figure restarts at the number of entries (R92, R93). -/
def readQueue (start : Nat) (s : State) : State × Reply :=
  if !unlocked s.record.mode then (s, refuse .wrongMode)
  else if !decide (start < Config.queuePlaces) then (s, refuse .badValue)
  else
    ({ s with record.queuePeak := s.record.queue.length },
     done (.queue
      { count := s.record.queue.length
        depth := depthOf s
        indicator := s.inForce.depth
        shortage := s.inForce.shortage
        margin := s.inForce.margin
        day := s.record.day
        entries := (page start s.record.queue).map
          (fun e => { position := e.1, entry := e.2, age := daysBetween s.record.day e.2.day }) }))

/-- The command CANCEL_QUEUED. -/
def execCancelQueued (tag : Half) (slot : Nat) (s : State) : Answer :=
  .next (request (.cancelQueued tag slot) (cancelQueued slot) s)

/-- The command READ_QUEUE. -/
def execReadQueue (tag : Half) (start : Nat) (s : State) : Answer :=
  .next (request (.readQueue tag start) (readQueue start) s)

end Sys2Proof.Machine
end

