-- ==== Sys2Proof/Machine/Meters.lean ====
section
/-!
DEFINITION. The Account Table's requests: ENROL METER (R7, R8), SET METER (R9, R10), REASSIGN METER (R11), CLOSE METER (R12), RETIRE METER
(R14, R15) and READ METER (R23, R24).
-/

namespace Sys2Proof.Machine

/-! ## ENROL METER -/

/-- Whether a non-empty record other than the slot's own holds a licence number (R7, R9). -/
def licenceHeld (s : State) (licence : Nat) (own : Option Nat) : Bool :=
  s.record.meters.any (fun e => decide (e.2.licence = licence) && decide (some e.1 ≠ own))

/-- The record of an enrolment, its below-mark flag not yet evaluated (R8). -/
def enrolled (s : State) (e : Enrolment) (kind : MeterKind) (sub : SubMode) (cond : Conditioning) : Meter where
  state := .active
  licence := e.licence
  branch := e.branch
  kind := kind
  subMode := sub
  conditioning := cond
  standing := e.standing
  ceiling := e.ceiling
  markCode := e.markCode
  interval := if e.interval = 0 then s.inForce.reportInterval else e.interval
  daysSince := 0
  credit := e.descending
  loaded := e.ascending + e.descending
  ascending := e.ascending
  lastSequence := none
  belowMark := false
  grantOut := none
  lastVoided := none
  nextGrant := 1
  refused := 0
  stale := 0
  mismatches := 0
  missed := 0
  voids := 0
  causes := {}

/-- The opening-credit debit: d for a PREPAID meter, nothing for a POSTPAID one (R7 check 7). -/
def openingDebit (kind : MeterKind) (descending : Nat) : Nat :=
  match kind with
  | .prepaid => descending
  | .postpaid => 0

/-- ENROL METER: the checks of R7 in their order, then the record of R8 in the lowest EMPTY slot. -/
def enrolMeter (e : Enrolment) (s : State) : State × Reply :=
  if !builds s.record.mode then (s, refuse .wrongMode)
  else if !enrolmentOk e then (s, refuse .badValue)
  else if e.ceiling < e.descending then (s, refuse .badValue)
  else if (s.branch? e.branch).isNone then (s, refuse .unknownBranch)
  else if licenceHeld s e.licence none then (s, refuse .duplicate)
  else
    match Table.lowestEmpty s.record.meters Config.meterSlots, e.kind, e.subMode, e.conditioning with
    | none, _, _, _ => (s, refuse .tableFull)
    | some slot, .value kind, .value sub, .value cond =>
      let debit := openingDebit kind e.descending
      if !covers s debit then (s, refuse .poolShort)
      else
        (putEvaluated slot (enrolled s e kind sub cond) (debitPool debit s),
         done (.enrolled slot (e.ascending + e.descending) debit))
    | some _, _, _, _ => (s, refuse .badValue)

/-! ## SET METER -/

/-- Check 2 of R9: a present licence number is held by another non-empty record. -/
def licenceClash (s : State) (slot : Nat) (c : MeterChanges) : Bool :=
  match c.licence with
  | none => false
  | some l => licenceHeld s l (some slot)

/-- Check 3 of R9: a present ceiling is not below C + G while a refill is out. -/
def ceilingAllows (m : Meter) (c : MeterChanges) : Bool :=
  match c.ceiling, m.grantOut with
  | some k, some g =>
    match g.kind with
    | .refill => decide (m.credit + g.amount ≤ k)
    | .limit => true
  | _, _ => true

/-- The record with every present change made (R9). A kind change clears the last voided grant (R10). -/
def Meter.changed (m : Meter) (c : MeterChanges) : Meter :=
  { m with
    licence := c.licence.getD m.licence
    kind := codedOr m.kind c.kind
    subMode := codedOr m.subMode c.subMode
    conditioning := codedOr m.conditioning c.conditioning
    standing := c.standing.getD m.standing
    ceiling := c.ceiling.getD m.ceiling
    markCode := c.markCode.getD m.markCode
    interval := c.interval.getD m.interval
    lastVoided := if codedOr m.kind c.kind = m.kind then m.lastVoided else none }

/-- Writes the changed record; a change of ceiling or low mark code re-evaluates the below-mark flag (R9, R21). -/
def putChanged (slot : Nat) (m : Meter) (c : MeterChanges) (s : State) : State :=
  if c.ceiling.isSome || c.markCode.isSome then putEvaluated slot (m.changed c) s else s.putMeter slot (m.changed c)

/-- The checks of a kind change that come before its pool movement, in R10's order. -/
def kindChangeRefusal (s : State) (slot : Nat) (m : Meter) : Option Status :=
  if m.state = .dispute then some .disputed
  else if m.state = .closing then some .wrongState
  else if m.grantOut.isSome then some .grantOut
  else if s.queued slot then some .alreadyQueued
  else none

/-- The DONE result of a SET METER: the record's new values and the amount moved (R9, R10). DEDUCED (log 46): the new values are every field of
the record as the act leaves it. -/
def meterSetReply (slot : Nat) (m : Meter) (moved : Int) (s : State) : Reply :=
  done (.meterSet ((s.meter? slot).getD m) moved)

/-- SET METER on the record m of a slot, after the checks 1 to 3 of R9. -/
def applyChanges (slot : Nat) (m : Meter) (c : MeterChanges) (s : State) : State × Reply :=
  let kind := codedOr m.kind c.kind
  if kind = m.kind then
    let s' := putChanged slot m c s
    (s', meterSetReply slot m 0 s')
  else
    match kindChangeRefusal s slot m with
    | some st => (s, refuse st)
    | none =>
      match kind with
      | .postpaid =>
        let s' := (creditAndServe m.credit (putChanged slot m c s)).state
        (s', meterSetReply slot m m.credit s')
      | .prepaid =>
        if !covers s m.credit then (s, refuse .poolShort)
        else
          let s' := putChanged slot m c (debitPool m.credit s)
          (s', meterSetReply slot m (-(m.credit : Int)) s')

/-- SET METER (R9, R10). -/
def setMeter (slot : Nat) (c : MeterChanges) (s : State) : State × Reply :=
  if !builds s.record.mode then (s, refuse .wrongMode)
  else if !meterSlotOk slot then (s, refuse .badValue)
  else
    match s.meter? slot with
    | none => (s, refuse .unknownMeter)
    | some m =>
      if !meterChangesOk c then (s, refuse .badValue)
      else if licenceClash s slot c then (s, refuse .duplicate)
      else if !ceilingAllows m c then (s, refuse .badValue)
      else applyChanges slot m c s

/-! ## REASSIGN METER, CLOSE METER -/

/-- REASSIGN METER (R11). DESIGN CHOICE (log 40): one that names the branch already linked carries that branch as old and new, where R11
lists figures only for a change. -/
def reassignMeter (slot branch : Nat) (s : State) : State × Reply :=
  if !builds s.record.mode then (s, refuse .wrongMode)
  else if !meterSlotOk slot then (s, refuse .badValue)
  else
    match s.meter? slot with
    | none => (s, refuse .unknownMeter)
    | some m =>
      if !branchSlotOk branch then (s, refuse .badValue)
      else if (s.branch? branch).isNone then (s, refuse .unknownBranch)
      else if m.branch = branch then (s, done (.reassigned branch branch))
      else (s.putMeter slot { m with branch := branch }, done (.reassigned m.branch branch))

/-- CLOSE METER (R12). -/
def closeMeter (slot : Nat) (s : State) : State × Reply :=
  if !serves s.record.mode then (s, refuse .wrongMode)
  else if !meterSlotOk slot then (s, refuse .badValue)
  else
    match s.meter? slot with
    | none => (s, refuse .unknownMeter)
    | some m =>
      match m.state with
      | .dispute => (s, refuse .disputed)
      | .closing => (s, refuse .wrongState)
      | .active | .overdue =>
        if m.grantOut.isSome then (s, refuse .grantOut)
        else (s.putMeter slot { m with state := .closing }, done .none)

/-! ## RETIRE METER -/

/-- The number and amount of a grant, as results carry them. -/
def grantFigures (g : GrantOut) : Nat × Nat :=
  (g.number, g.amount)

/-- Step 1 of R15: the grant out, where there is one, is voided exactly as on expiry. -/
def retireVoid (slot : Nat) (m : Meter) (s : State) : State :=
  match m.grantOut with
  | none => s
  | some g => voidAndCredit slot m g s

/-- Step 1 of R15 made a pool credit, so that its serving is the one for both (R85). -/
def retireServed (m : Meter) : Bool :=
  match m.grantOut with
  | none => false
  | some g => decide (0 < refillAmount g)

/-- RETIRE METER on the record m of a slot: the four steps of R15, and the serving of R85 where its entry stood at the head. -/
def retire (slot : Nat) (m : Meter) (s : State) : State :=
  let s1 := retireVoid slot m s
  let s2 := addWrittenOff (prepaidShare m) s1
  let s3 := emptySlot slot s2
  if headIs s2 slot && !retireServed m then (serveQueue s3).state else s3

/-- RETIRE METER: the checks of R14, the range check of R96, then R15. -/
def retireMeter (slot : Nat) (s : State) : State × Reply :=
  if !serves s.record.mode then (s, refuse .wrongMode)
  else if !meterSlotOk slot then (s, refuse .badValue)
  else
    match s.meter? slot with
    | none => (s, refuse .unknownMeter)
    | some m =>
      if m.kind = .prepaid ∧ (Config.totalMax : Int) < s.record.pool.writtenOff + m.credit then (s, refuse .badValue)
      else (retire slot m s, done (.retired (m.grantOut.map grantFigures) (prepaidShare m)))

/-! ## READ METER -/

/-- The record with its five counters taken (R24). -/
def Meter.countersTaken (m : Meter) : Meter :=
  { m with refused := 0, stale := 0, mismatches := 0, missed := 0, voids := 0 }

/-- READ METER (R23), taking the counters where the take indication is yes (R24). DEDUCED (log 33): an EMPTY slot is answered DONE with
its state, as R23 says, where R6 and R40 have UNKNOWN_METER for every request that names it. -/
def readMeter (slot : Nat) (take : Coded Bool) (s : State) : State × Reply :=
  if !unlocked s.record.mode then (s, refuse .wrongMode)
  else if !meterSlotOk slot then (s, refuse .badValue)
  else
    match take with
    | .unknown => (s, refuse .badValue)
    | .value takes =>
      match s.meter? slot with
      | none => (s, done (.emptySlot slot))
      | some m =>
        (if takes then s.putMeter slot m.countersTaken else s,
         done (.meterRead slot m (effective s m) m.headroom (s.queued slot)))

/-! ## The commands -/

/-- The command ENROL_METER. -/
def execEnrolMeter (tag : Half) (fields : Enrolment) (s : State) : Answer :=
  .next (request (.enrolMeter tag fields) (enrolMeter fields) s)

/-- The command SET_METER. -/
def execSetMeter (tag : Half) (slot : Nat) (changes : MeterChanges) (s : State) : Answer :=
  .next (request (.setMeter tag slot changes) (setMeter slot changes) s)

/-- The command REASSIGN_METER. -/
def execReassignMeter (tag : Half) (slot branch : Nat) (s : State) : Answer :=
  .next (request (.reassignMeter tag slot branch) (reassignMeter slot branch) s)

/-- The command CLOSE_METER. -/
def execCloseMeter (tag : Half) (slot : Nat) (s : State) : Answer :=
  .next (request (.closeMeter tag slot) (closeMeter slot) s)

/-- The command RETIRE_METER. -/
def execRetireMeter (tag : Half) (slot : Nat) (s : State) : Answer :=
  .next (request (.retireMeter tag slot) (retireMeter slot) s)

/-- The command READ_METER. -/
def execReadMeter (tag : Half) (slot : Nat) (take : Coded Bool) (s : State) : Answer :=
  .next (request (.readMeter tag slot take) (readMeter slot take) s)

end Sys2Proof.Machine
end

