-- ==== Sys2Proof/Machine/Refills.lean ====
section
/-!
DEFINITION. The Grant Unit's requests: REFILL REQUEST and LIMIT REQUEST (R51 to R61), LOAD CONFIRM (R68 to R70), CANCEL GRANT (R73), and the
load timer (R66, R71).
-/

namespace Sys2Proof.Machine

/-! ## REFILL REQUEST and LIMIT REQUEST -/

/-- The meter kind a request is for (R52 check 8). -/
def kindFor : GrantKind → MeterKind
  | .refill => .prepaid
  | .limit => .postpaid

/-- Checks 4 and 6 to 8 of R52 with check 5 among them; `held` says whether HOLD is in effect. -/
def requestRefusal (s : State) (slot : Nat) (m : Meter) (kind : GrantKind) (held : Bool) : Option Status :=
  match m.state with
  | .overdue => some .overdue
  | .dispute => some .disputed
  | .closing => some .wrongState
  | .active =>
    if held then some .held
    else if m.grantOut.isSome then some .grantOut
    else if s.queued slot then some .alreadyQueued
    else if m.kind ≠ kindFor kind then some .wrongState
    else none

/-- The computation and placement of a host request (R55 to R61). -/
def decideHost (s : State) (m : Meter) (kind : GrantKind) (carried amount : Nat) : Decision :=
  match kind with
  | .refill => decideRefill s m .host carried amount
  | .limit => decideLimit s m amount

/-- What a host request comes to: a refusal by R52's checks, or the decision of 3.2 and 3.3. -/
def hostDecision (s : State) (slot : Nat) (m : Meter) (kind : GrantKind) (held : Bool) (carried amount : Nat) : Decision :=
  match requestRefusal s slot m kind held with
  | some st => .refused st .none
  | none => decideHost s m kind carried amount

/-- The TRIAL result: the would-be outcome (R54). -/
def trialOutcome (s : State) (m : Meter) : Decision → Outcome
  | .refused st f => .wouldRefuse st f
  | .join amount => .wouldQueue amount s.record.queue.length
  | .issue amount reason => .wouldIssue amount reason m.nextGrant (m.loaded + amount)

/-- The DONE result of a grant issued to the meter m (R51, R175). -/
def grantReply (s : State) (slot : Nat) (m : Meter) (kind : GrantKind) (amount : Nat) (reason : Reason) : Reply :=
  done (.grant m.nextGrant kind reason s.inForce.loadTimeout slot amount (m.loaded + amount))

/-- Carries out the decision on a host request, not under TRIAL (R51, R52, R62, R82). -/
def actOnRequest (slot : Nat) (m : Meter) (kind : GrantKind) (d : Decision) (s : State) : State × Reply :=
  match d with
  | .refused st f => (s.putMeter slot (m.refusedWith st), refuseWith st f)
  | .join amount =>
    (joinQueue slot amount .host s, { status := .queued, outcome := .joined amount s.record.queue.length })
  | .issue amount reason => (issueGrant slot m kind amount s, grantReply s slot m kind amount reason)

/-- A host request once its slot, its meter and the mode have passed (R52 checks 4 on, R54). -/
def answerRequest (slot : Nat) (m : Meter) (kind : GrantKind) (amount : Nat) (s : State) : State × Reply :=
  match effective s m with
  | .trial =>
    (s, { status := .trial, outcome := trialOutcome s m (hostDecision s slot m kind false amount amount) })
  | c => actOnRequest slot m kind (hostDecision s slot m kind (decide (c = .hold)) amount (substituted c m amount)) s

/-- REFILL REQUEST or LIMIT REQUEST: the checks of R52 in their order. -/
def grantRequest (kind : GrantKind) (slot amount : Nat) (s : State) : State × Reply :=
  if !meterSlotOk slot then (s, refuse .badValue)
  else
    match s.meter? slot with
    | none => (s, refuse .unknownMeter)
    | some m =>
      if !serves s.record.mode then (s, refuse .wrongMode)
      else answerRequest slot m kind amount s

/-! ## LOAD CONFIRM and CANCEL GRANT -/

/-- The number a NO_GRANT answer carries (R68). -/
def numberHeld (m : Meter) : Option Nat :=
  match m.grantOut with
  | some g => some g.number
  | none => m.lastVoided.map (·.number)

/-- LOAD CONFIRM that names the grant out g (R68 to R70). -/
def confirmOut (slot : Nat) (m : Meter) (g : GrantOut) (total : Nat) (s : State) : State × Reply :=
  if total = m.loaded + g.amount ∧ m.holds g.amount then
    (settleGrant slot m g s, done (.settled g.number g.amount (m.credit + g.amount) (m.loaded + g.amount)))
  else if total = m.loaded then (voidAndCredit slot m g s, done .declined)
  else
    (s.putMeter slot { m with mismatches := countUp m.mismatches 1 },
     refuseWith .controlMismatch (.confirmMismatch m.loaded g.amount))

/-- LOAD CONFIRM that names the last voided grant v, with no grant out (R68, R75 to R77). -/
def confirmVoided (slot : Nat) (m : Meter) (v : Voided) (total : Nat) (s : State) : State × Reply :=
  if total = m.loaded + v.amount ∧ m.holds v.amount then
    match lateSettle slot m v s with
    | some s' =>
      (s', { status := .settledLate, outcome := .settled v.number v.amount (m.credit + v.amount) (m.loaded + v.amount) })
    | none => (enterDispute slot m s, refuseWith .poolShort (.lateShort v.amount s.record.pool.balance))
  else (s, refuseWith .noGrant (.numberHeld (numberHeld m)))

/-- LOAD CONFIRM on the record m of a slot (R68). -/
def confirm (slot : Nat) (m : Meter) (number total : Nat) (s : State) : State × Reply :=
  match m.grantOut, m.lastVoided with
  | some g, _ =>
    if g.number = number then confirmOut slot m g total s else (s, refuseWith .noGrant (.numberHeld (numberHeld m)))
  | none, some v =>
    if v.number = number then confirmVoided slot m v total s else (s, refuseWith .noGrant (.numberHeld (numberHeld m)))
  | none, none => (s, refuseWith .noGrant (.numberHeld (numberHeld m)))

/-- LOAD CONFIRM (R68). -/
def loadConfirm (slot number total : Nat) (s : State) : State × Reply :=
  if !unlocked s.record.mode then (s, refuse .wrongMode)
  else if !meterSlotOk slot || !numberOk number || !controlTotalOk total then (s, refuse .badValue)
  else
    match s.meter? slot with
    | none => (s, refuse .unknownMeter)
    | some m => confirm slot m number total s

/-- CANCEL GRANT (R73). -/
def cancelGrant (slot number : Nat) (s : State) : State × Reply :=
  if !unlocked s.record.mode then (s, refuse .wrongMode)
  else if !meterSlotOk slot || !numberOk number then (s, refuse .badValue)
  else
    match s.meter? slot with
    | none => (s, refuse .unknownMeter)
    | some m =>
      match m.grantOut with
      | none => (s, refuse .noGrant)
      | some g =>
        if g.number = number then (voidAndCredit slot m g s, done (.cancelled g.number g.amount))
        else (s, refuse .noGrant)

/-! ## The load timer -/

/-- A record one second later: the remaining load seconds of a grant out fall by one (R66). -/
def Meter.secondLater (m : Meter) : Meter :=
  { m with grantOut := m.grantOut.map (fun g => { g with remaining := g.remaining - 1 }) }

/-- LOAD_SECONDS_TICK: a second of the board's seconds count, in every mode (R66). -/
def execLoadSecondsTick (s : State) : Answer :=
  .next (if s.powered then
    { s with
      seconds := s.seconds + 1
      record.meters := Table.mapRecords (fun _ m => m.secondLater) s.record.meters }
  else s)

/-- The expiry of the load timer of the meter of a slot, where its remaining load seconds are 0 (R66, R71). -/
def expire (slot : Nat) (s : State) : State :=
  match s.meter? slot with
  | none => s
  | some m =>
    match m.grantOut with
    | none => s
    | some g => if g.remaining = 0 then voidAndCredit slot m g s else s

/-- LOAD_TIMER_EXPIRY (R66, R71). Where no timer of the slot stands at 0 nothing expires (log 13). -/
def execLoadTimerExpiry (slot : Nat) (s : State) : Answer :=
  .next (if s.powered then expire slot s else s)

/-! ## The commands -/

/-- The command REFILL_REQUEST. -/
def execRefillRequest (tag : Half) (slot amount : Nat) (s : State) : Answer :=
  .next (request (.refillRequest tag slot amount) (grantRequest .refill slot amount) s)

/-- The command LIMIT_REQUEST. -/
def execLimitRequest (tag : Half) (slot amount : Nat) (s : State) : Answer :=
  .next (request (.limitRequest tag slot amount) (grantRequest .limit slot amount) s)

/-- The command LOAD_CONFIRM. -/
def execLoadConfirm (tag : Half) (slot number total : Nat) (s : State) : Answer :=
  .next (request (.loadConfirm tag slot number total) (loadConfirm slot number total) s)

/-- The command CANCEL_GRANT. -/
def execCancelGrant (tag : Half) (slot number : Nat) (s : State) : Answer :=
  .next (request (.cancelGrant tag slot number) (cancelGrant slot number) s)

end Sys2Proof.Machine
end

