-- ==== Sys2Proof/Machine/Reports.lean ====
section
/-!
DEFINITION. The Report Checker: METER REPORT with its sequence window, totals check, control check, settlement, closing retirement and
top-up (R27 to R40, R47, R48), and RESOLVE METER (R43 to R46).
-/

namespace Sys2Proof.Machine

/-! ## The sequence window -/

/-- How far a report's sequence is ahead of the last accepted one, where there is one (R30). -/
def ahead (m : Meter) (q : Half) : Option Nat :=
  m.lastSequence.map (fun last => (q - last).toNat)

/-- Whether a sequence passes the window: 1 to 64 ahead, or no last sequence (R30). -/
def inWindow (m : Meter) (q : Half) : Bool :=
  match ahead m q with
  | none => true
  | some delta => within 1 Config.sequenceWindow delta

/-- The reports a sequence shows were skipped (R31). -/
def skipped (m : Meter) (q : Half) : Nat :=
  match ahead m q with
  | none => 0
  | some delta => delta - 1

/-! ## The control check -/

/-- What the control check's steps 1 and 2 come to (R33). -/
inductive Settlement where
  | none
  | grant (g : GrantOut)
  | late (v : Voided)
deriving DecidableEq, Repr

/-- Step 1 applies: a grant is out and the total is L + G within the credit capacity (R33, R68). -/
def stepOneApplies (m : Meter) (total : Nat) : Option GrantOut :=
  match m.grantOut with
  | none => none
  | some g => if total = m.loaded + g.amount ∧ m.holds g.amount then some g else none

/-- Step 2 applies: a last voided grant is present and the total is L + Gv within the credit capacity (R33, R68). -/
def stepTwoApplies (m : Meter) (total : Nat) : Option Voided :=
  match m.lastVoided with
  | none => none
  | some v => if total = m.loaded + v.amount ∧ m.holds v.amount then some v else none

/-- Which settlement a total calls for (R33). -/
def settlementFor (m : Meter) (total : Nat) : Settlement :=
  match stepOneApplies m total with
  | some g => .grant g
  | none =>
    match stepTwoApplies m total with
    | some v => .late v
    | none => .none

/-- The settled-first field of the result (R29). -/
def settledFirst : Settlement → SettledFirst
  | .none => .none
  | .grant g => .grant g.number g.amount
  | .late v => .late v.number v.amount

/-- Steps 1 and 2: the state after the settlement a total calls for; none where a late settlement fails (R34, R35). -/
def settleFor (slot : Nat) (m : Meter) (s : State) : Settlement → Option State
  | .none => some s
  | .grant g => some (settleGrant slot m g s)
  | .late v => lateSettle slot m v s

/-- Step 3: the total equals L, a has not gone back, and d does not exceed C (R36). -/
def stepThreePasses (m : Meter) (ascending descending : Nat) : Bool :=
  decide (ascending + descending = m.loaded) && decide (m.ascending ≤ ascending) && decide (descending ≤ m.credit)

/-- A report that fails step 3: the mismatch is counted and the meter enters DISPUTE (R36, R41). -/
def mismatchReport (slot : Nat) (m : Meter) (s : State) : State :=
  enterDispute slot { m with mismatches := countUp m.mismatches 1 } s

/-! ## Settlement of an accepted report -/

/-- The record after the changes R37 makes to it. -/
def Meter.reported (m : Meter) (q : Half) (ascending descending : Nat) : Meter :=
  { m with
    credit := descending
    ascending := ascending
    lastSequence := some q
    missed := countUp m.missed (skipped m q)
    daysSince := 0
    state := if m.state = .overdue then .active else m.state }

/-- The postpaid part of a settlement: a POSTPAID meter's usage is charged to the pool (R38, R39). -/
def chargeFor (kind : MeterKind) (usage : Nat) (s : State) : State :=
  match kind with
  | .prepaid => s
  | .postpaid => chargeUsage usage s

/-- The part of a usage that is charged to the pool, and the part added to the arrears (R29, R39). -/
def chargeFigures (kind : MeterKind) (usage : Nat) (s : State) : Nat × Nat :=
  match kind with
  | .prepaid => (0, 0)
  | .postpaid => (chargePaid usage s, usage - chargePaid usage s)

/-- The retirement of a closing meter whose report was accepted: the slot becomes EMPTY, then a PREPAID meter's credit goes to
the pool; the queue serves once for the credit and the removal of its head (R40, R85). -/
def retireClosing (slot credit : Nat) (kind : MeterKind) (s : State) : State :=
  let s' := emptySlot slot s
  match kind with
  | .postpaid => if headIs s slot then (serveQueue s').state else s'
  | .prepaid =>
    if credit = 0 then if headIs s slot then (serveQueue s').state else s'
    else (creditAndServe credit s').state

/-! ## The top-up -/

/-- The conditions under which an accepted report originates a refill (R47). -/
def topUpDue (s : State) (slot : Nat) (m : Meter) : Bool :=
  decide (m.kind = .prepaid) && decide (m.subMode = .second) && decide (m.state = .active) && m.belowMark
    && m.grantOut.isNone && !s.queued slot && mayOriginate (effective s m)

/-- The decision on an originated refill of K - C (R47, R48). -/
def topUpDecision (s : State) (m : Meter) : Decision :=
  decideRefill s m .auto m.headroom.toNat (substituted (effective s m) m m.headroom.toNat)

/-- The cause and the result field of a refused top-up (R48). -/
def refusedTopUp (slot : Nat) (m : Meter) (st : Status) (s : State) : State × TopUp :=
  let s' := s.putMeter slot (m.refusedWith st)
  if st = .queueFull then (setMeterCause slot .topupDeferred s', .deferred st)
  else (setMeterCause slot .refillRefused s', .refused st)

/-- Carries out the decision on a top-up (R48). -/
def actOnTopUp (slot : Nat) (m : Meter) (s : State) : Decision → State × TopUp
  | .refused st _ => refusedTopUp slot m st s
  | .join amount => (joinQueue slot amount .auto s, .queued)
  | .issue amount reason =>
    (setMeterCause slot .grantReady (issueGrant slot m .refill amount s), .issued m.nextGrant amount reason)

/-- The top-up after an accepted report (R47, R48). -/
def topUp (slot : Nat) (s : State) : State × TopUp :=
  match s.meter? slot with
  | none => (s, .notOriginated)
  | some m => if topUpDue s slot m then actOnTopUp slot m s (topUpDecision s m) else (s, .notOriginated)

/-! ## METER REPORT -/

/-- The record changes, the franked addition and the charge of an accepted report (R37 to R39). -/
def settleReport (slot : Nat) (m : Meter) (q : Half) (ascending descending : Nat) (s : State) : State :=
  let usage := ascending - m.ascending
  chargeFor m.kind usage (addFranked usage (putEvaluated slot (m.reported q ascending descending) s))

/-- An accepted report: settlement, then the retirement of a closing meter or the consideration of a top-up (R37 to R40, R47).
`m` is the record as the control check left it. DESIGN CHOICE (log 43): for a meter that retired, whose record is gone after the report, the C
and L after the report that R29 lists are the reported d and the L that the record held when its slot was emptied. -/
def acceptReport (slot : Nat) (m : Meter) (first : SettledFirst) (q : Half) (ascending descending : Nat) (s : State) :
    State × Reply :=
  let usage := ascending - m.ascending
  let charge := chargeFigures m.kind usage s
  let s1 := settleReport slot m q ascending descending s
  let closing := decide (m.state = .closing)
  let ended := if closing then (retireClosing slot descending m.kind s1, TopUp.notOriginated) else topUp slot s1
  (ended.1,
   done (.report
    { settledFirst := first
      usage := usage
      missed := skipped m q
      credit := descending
      loaded := m.loaded
      charged := charge.1
      arrearsAdded := charge.2
      retired := closing
      credited := if closing ∧ m.kind = .prepaid then descending else 0
      topUp := ended.2 }))

/-- Step 3 of the control check, on the record as steps 1 and 2 left it, and what follows it (R36, R37). -/
def judgeReport (slot : Nat) (first : SettledFirst) (q : Half) (ascending descending : Nat) (s : State) : State × Reply :=
  match s.meter? slot with
  | none => (s, refuse .unknownMeter)
  | some m =>
    if stepThreePasses m ascending descending then acceptReport slot m first q ascending descending s
    else
      (mismatchReport slot m s,
       refuseWith .controlMismatch (.reportMismatch m.loaded (m.grantOut.map (·.amount)) first))

/-- Checks 5 to 7 of R27 on the record m of a slot, and what follows them. -/
def reportOn (slot : Nat) (m : Meter) (q : Half) (ascending descending : Nat) (s : State) : State × Reply :=
  match m.lastSequence, inWindow m q with
  | some last, false =>
    (s.putMeter slot { m with stale := countUp m.stale 1 }, refuseWith .staleReport (.lastSequence last))
  | _, _ =>
    if m.ascending ≤ ascending ∧ usageFits m.kind (ascending - m.ascending) s = false then (s, refuse .badValue)
    else
      let settlement := settlementFor m (ascending + descending)
      match settleFor slot m s settlement with
      | some s' => judgeReport slot (settledFirst settlement) q ascending descending s'
      | none =>
        (enterDispute slot m s,
         refuseWith .poolShort (.lateShort ((m.lastVoided.map (·.amount)).getD 0) s.record.pool.balance))

/-- METER REPORT: the checks of R27 in their order. -/
def meterReport (slot : Nat) (q : Half) (ascending descending : Nat) (s : State) : State × Reply :=
  if !serves s.record.mode then (s, refuse .wrongMode)
  else if !meterSlotOk slot || !ascendingOk ascending || !registerOk descending then (s, refuse .badValue)
  else
    match s.meter? slot with
    | none => (s, refuse .unknownMeter)
    | some m =>
      if m.state = .dispute then (s, refuse .disputed)
      else reportOn slot m q ascending descending s

/-! ## RESOLVE METER -/

/-- The amount of a REFILL grant out, 0 where none is out (R44). -/
def refillOut (m : Meter) : Nat :=
  match m.grantOut with
  | none => 0
  | some g => refillAmount g

/-- The change in the loaded total, (a + d) - L (R44). -/
def loadedChange (m : Meter) (ascending descending : Nat) : Int :=
  ((ascending + descending : Nat) : Int) - (m.loaded : Int)

/-- Check 7 of R43: the pool can cover the resolution of a PREPAID meter (R44). -/
def coversResolution (s : State) (m : Meter) (ascending descending : Nat) : Bool :=
  decide (loadedChange m ascending descending
    ≤ (s.record.pool.balance : Int) + max 0 ((refillOut m : Int) - (s.record.pool.arrears : Int)))

/-- The void of a resolution, whose pool movement is left to it (R44, R45, R71). -/
def resolveVoid (slot : Nat) (m : Meter) (s : State) : State :=
  match m.grantOut with
  | none => s
  | some g => voidGrant slot m g s

/-- The record a resolution leaves, its below-mark flag not yet evaluated (R44 to R46). -/
def Meter.resolved (m : Meter) (ascending descending : Nat) : Meter :=
  { m with
    credit := descending
    ascending := ascending
    loaded := ascending + descending
    lastVoided := none
    lastSequence := none
    daysSince := 0
    state := .active }

/-- The record of a slot as the void of a resolution left it. -/
def afterVoid (slot : Nat) (m : Meter) (s : State) : Meter :=
  ((resolveVoid slot m s).meter? slot).getD m

/-- A resolution up to its pool movement: the void, the franked addition, the record (R44 to R46). -/
def resolveRecord (slot : Nat) (m : Meter) (ascending descending : Nat) (s : State) : State :=
  putEvaluated slot ((afterVoid slot m s).resolved ascending descending)
    (addFranked (ascending - m.ascending) (resolveVoid slot m s))

/-- The pool movement of a resolution: the net of a PREPAID meter's release and change, or the charge of a POSTPAID meter's
usage (R44, R45). -/
def resolveFunds (m : Meter) (ascending descending : Nat) (s : State) : State :=
  match m.kind with
  | .postpaid => chargeUsage (ascending - m.ascending) s
  | .prepaid =>
    let net := (refillOut m : Int) - loadedChange m ascending descending
    if 0 < net then (creditAndServe net.toNat s).state else debitPool (-net).toNat s

/-- The net pool movement a resolution reports: the charge paid counts as a debit (R46, log 23). -/
def resolveNet (m : Meter) (ascending descending : Nat) (s : State) : Int :=
  match m.kind with
  | .postpaid => -(chargePaid (ascending - m.ascending) s : Int)
  | .prepaid => (refillOut m : Int) - loadedChange m ascending descending

/-- RESOLVE METER on the record m of a slot once every check has passed (R44 to R46). -/
def resolve (slot : Nat) (m : Meter) (ascending descending : Nat) (s : State) : State × Reply :=
  let charge := chargeFigures m.kind (ascending - m.ascending) s
  (resolveFunds m ascending descending (resolveRecord slot m ascending descending s),
   done (.resolved
    { change := loadedChange m ascending descending
      net := resolveNet m ascending descending s
      charged := charge.1
      arrearsAdded := charge.2
      voided := m.grantOut.map grantFigures
      credit := descending
      ascending := ascending
      loaded := ascending + descending }))

/-- RESOLVE METER: the checks of R43 in their order. -/
def resolveMeter (slot ascending descending : Nat) (s : State) : State × Reply :=
  if !serves s.record.mode then (s, refuse .wrongMode)
  else if !meterSlotOk slot || !ascendingOk ascending || !registerOk descending then (s, refuse .badValue)
  else
    match s.meter? slot with
    | none => (s, refuse .unknownMeter)
    | some m =>
      if m.state ≠ .dispute then (s, refuse .wrongState)
      else if ascending < m.ascending then (s, refuse .badValue)
      else if !usageFits m.kind (ascending - m.ascending) s then (s, refuse .badValue)
      else if m.kind = .prepaid ∧ coversResolution s m ascending descending = false then (s, refuse .poolShort)
      else resolve slot m ascending descending s

/-! ## The commands -/

/-- The command METER_REPORT. -/
def execMeterReport (tag : Half) (slot : Nat) (sequence : Half) (ascending descending : Nat) (s : State) : Answer :=
  .next (request (.meterReport tag slot sequence ascending descending) (meterReport slot sequence ascending descending) s)

/-- The command RESOLVE_METER. -/
def execResolveMeter (tag : Half) (slot ascending descending : Nat) (s : State) : Answer :=
  .next (request (.resolveMeter tag slot ascending descending) (resolveMeter slot ascending descending) s)

end Sys2Proof.Machine
end

