-- ==== Sys2Proof/Machine/Funds.lean ====
section
/-!
DEFINITION. The Funds Pool's requests: DEPOSIT (R104), REFUND (R105) and READ POSITION (R106 to R109).
-/

namespace Sys2Proof.Machine

/-- Net deposits raised by an amount (R104). -/
def addDeposits (amount : Nat) (s : State) : State :=
  s.withPool { s.record.pool with deposits := s.record.pool.deposits + amount }

/-- The committed funds after a pool credit of an amount stay within 2^47 - 1 (R96, R104, R137). -/
def creditFits (s : State) (amount : Nat) : Bool :=
  decide (committedFunds s + (amount - min s.record.pool.arrears amount) ≤ Config.totalMax)

/-- DEPOSIT: the checks of R104 in their order, then D rises and the pool credit is made. -/
def deposit (amount : Nat) (s : State) : State × Reply :=
  if !builds s.record.mode then (s, refuse .wrongMode)
  else if !amountOk amount then (s, refuse .badValue)
  else if Config.totalMax < s.record.pool.deposits + amount then (s, refuse .badValue)
  else if !creditFits s amount then (s, refuse .badValue)
  else
    let toArrears := min s.record.pool.arrears amount
    let r := creditAndServe amount (addDeposits amount s)
    (r.state,
     done (.deposited toArrears (amount - toArrears) r.issued r.removed r.state.record.pool.balance
      r.state.record.pool.arrears r.state.record.pool.deposits))

/-- The pool after a refund: the ordinary pool debit, and D lower by the amount, in one act (R105). -/
def refundPool (amount : Nat) (s : State) : State :=
  s.withPool
    { s.record.pool with balance := s.record.pool.balance - amount, deposits := s.record.pool.deposits - amount }

/-- REFUND: the checks of R105 in their order. -/
def refund (amount : Nat) (s : State) : State × Reply :=
  if !builds s.record.mode then (s, refuse .wrongMode)
  else if !amountOk amount then (s, refuse .badValue)
  else if !covers s amount then (s, refuseWith .poolShort (.balance s.record.pool.balance))
  else if s.record.pool.deposits < amount then (s, refuse .badValue)
  else
    (refundPool amount s,
     done (.refunded (s.record.pool.balance - amount) (s.record.pool.deposits - amount)))

/-- The credit a record adds to the sum of postpaid credit (R106). -/
def postpaidShare (m : Meter) : Nat :=
  if m.kind = .postpaid then m.credit else 0

/-- Whether a record's grant out is a refill (R64, R106). -/
def hasRefillOut (m : Meter) : Bool :=
  match m.grantOut with
  | none => false
  | some g => decide (g.kind = .refill)

/-- The outcome of the check of the funds identity (R109). -/
def identityOf (left right : Int) : Identity :=
  if left = right then .holds else .broken (left - right)

/-- The snapshot of READ POSITION (R106, R107, R109). -/
def positionOf (s : State) : Position where
  pool := s.record.pool
  refillsOut := Table.count (fun _ m => hasRefillOut m) s.record.meters
  prepaidCredit := prepaidCredit s
  prepaidMeters := Table.count (fun _ m => decide (m.kind = .prepaid)) s.record.meters
  onHandValue := onHandValue s
  transitValue := transitValue s
  stockValue := stockValue s
  postpaidCredit := Table.sum (fun _ m => postpaidShare m) s.record.meters
  leftSide := leftSide s
  rightSide := rightSide s
  identity := identityOf (leftSide s) (rightSide s)
  day := s.record.day
  queued := s.record.queue.length

/-- READ POSITION (R106). -/
def readPosition (s : State) : State × Reply :=
  if !unlocked s.record.mode then (s, refuse .wrongMode)
  else (s, done (.position (positionOf s)))

/-! ## The commands -/

/-- The command DEPOSIT. -/
def execDeposit (tag : Half) (amount : Nat) (s : State) : Answer :=
  .next (request (.deposit tag amount) (deposit amount) s)

/-- The command REFUND. -/
def execRefund (tag : Half) (amount : Nat) (s : State) : Answer :=
  .next (request (.refund tag amount) (refund amount) s)

/-- The command READ_POSITION. -/
def execReadPosition (tag : Half) (s : State) : Answer :=
  .next (request (.readPosition tag) readPosition s)

end Sys2Proof.Machine
end

