-- ==== Sys2Proof/Machine/Branches.lean ====
section
/-!
DEFINITION. The Branch Table's requests: OPEN BRANCH (R113), SET BRANCH (R114), CLOSE BRANCH (R115), READ BRANCH (R116) and CYCLE CONTROL
(R117 to R119).
-/

namespace Sys2Proof.Machine

/-! ## OPEN BRANCH -/

/-- A branch as it is opened (R113). -/
def openedBranch (code : Nat) : Branch where
  code := code
  levels := []
  variance := 0
  run := .stopped
  cycleLength := 0
  allowance := 0
  dayCount := 0
  spent := 0
  cycle := 0
  causes := {}
  onHand := []
  latch := none

/-- Whether a non-empty branch record holds a branch code (R113). -/
def codeHeld (s : State) (code : Nat) : Bool :=
  s.record.branches.any (fun e => decide (e.2.code = code))

/-- OPEN BRANCH: the checks of R113 in their order. -/
def openBranch (code : Nat) (s : State) : State × Reply :=
  if !builds s.record.mode then (s, refuse .wrongMode)
  else if !within 1 Config.branchCodeMax code then (s, refuse .badValue)
  else if codeHeld s code then (s, refuse .duplicate)
  else
    match Table.lowestEmpty s.record.branches Config.branchSlots with
    | none => (s, refuse .tableFull)
    | some slot => (s.putBranch slot (openedBranch code), done (.slotChosen slot))

/-! ## SET BRANCH -/

/-- The reorder levels with each one of a list set (R114). -/
def setLevels (levels : Figures) : List (Nat × Nat) → Figures
  | [] => levels
  | (d, n) :: rest => setLevels (Figures.set levels d n) rest

/-- The branch with every present change made (R114). -/
def Branch.changed (b : Branch) (c : BranchChanges) : Branch :=
  { b with
    cycleLength := c.cycleLength.getD b.cycleLength
    allowance := c.allowance.getD b.allowance
    levels := setLevels b.levels (c.levels.getD []) }

/-- SET BRANCH (R114). -/
def setBranch (slot : Nat) (c : BranchChanges) (s : State) : State × Reply :=
  if !builds s.record.mode then (s, refuse .wrongMode)
  else if !branchSlotOk slot then (s, refuse .badValue)
  else
    match s.branch? slot with
    | none => (s, refuse .unknownBranch)
    | some b =>
      if !branchChangesOk c then (s, refuse .badValue)
      else
        let b' := b.changed c
        (s.putBranch slot b',
         done (.branchSet b'.cycleLength b'.allowance b'.levels b'.run b'.dayCount b'.spent b'.cycle b'.remaining))

/-! ## CLOSE BRANCH -/

/-- Meters linked to a branch slot (R115, R116). -/
def metersLinked (s : State) (slot : Nat) : Nat :=
  Table.count (fun _ m => decide (m.branch = slot)) s.record.meters

/-- Transfer List entries with a branch slot as origin (R116). -/
def transfersFrom (s : State) (slot : Nat) : Nat :=
  s.record.transfers.countP (fun t => decide (t.origin = slot))

/-- Transfer List entries with a branch slot as destination (R116). -/
def transfersTo (s : State) (slot : Nat) : Nat :=
  s.record.transfers.countP (fun t => decide (t.destination = slot))

/-- Transfer List entries that name a branch slot (R115). -/
def transfersNaming (s : State) (slot : Nat) : Nat :=
  s.record.transfers.countP (fun t => decide (t.origin = slot) || decide (t.destination = slot))

/-- The first condition of R115 that a branch fails, in the order of its table. -/
def branchObstacle (s : State) (slot : Nat) (b : Branch) : Option BranchObstacle :=
  if b.counting then some .counting
  else if 0 < metersLinked s slot then some (.metersLinked (metersLinked s slot))
  else
    match Table.firstSlot (fun _ n => decide (0 < n)) b.onHand with
    | some d => some (.stockOnHand d)
    | none => if 0 < transfersNaming s slot then some (.transfers (transfersNaming s slot)) else none

/-- The record with its grant out no longer counted, where the grant is bound to a branch slot (R65, R115 step 1). -/
def Meter.uncounted (m : Meter) (slot : Nat) : Meter :=
  { m with grantOut := m.grantOut.map (fun g => if g.branch = slot then { g with counted := false } else g) }

/-- CLOSE BRANCH made: the three steps of R115. -/
def discardBranch (slot : Nat) (s : State) : State :=
  { s with
    record.meters := Table.mapRecords (fun _ m => m.uncounted slot) s.record.meters
    record.branches := Table.erase s.record.branches slot }

/-- CLOSE BRANCH (R115). -/
def closeBranch (slot : Nat) (s : State) : State × Reply :=
  if !builds s.record.mode then (s, refuse .wrongMode)
  else if !branchSlotOk slot then (s, refuse .badValue)
  else
    match s.branch? slot with
    | none => (s, refuse .unknownBranch)
    | some b =>
      match branchObstacle s slot b with
      | some o => (s, refuseWith .notEmpty (.branchHeld o))
      | none => (discardBranch slot s, done (.branchClosed b.variance b.spent))

/-! ## READ BRANCH -/

/-- What READ BRANCH gives of a non-empty slot (R116). -/
def branchReadOf (s : State) (slot : Nat) (b : Branch) : BranchRead where
  slot := slot
  branch := b
  state := b.state
  remaining := b.remaining
  inForce := b.allowanceInForce
  latchPresent := b.latch.isSome
  metersLinked := metersLinked s slot
  transfersFrom := transfersFrom s slot
  transfersTo := transfersTo s slot

/-- READ BRANCH, taking the variance total where the take indication is yes (R116). DEDUCED (log 33): an EMPTY slot is answered DONE with
its state, as R116 says, where R112 has UNKNOWN_BRANCH for every request that names it. -/
def readBranch (slot : Nat) (take : Coded Bool) (s : State) : State × Reply :=
  if !unlocked s.record.mode then (s, refuse .wrongMode)
  else if !branchSlotOk slot then (s, refuse .badValue)
  else
    match take with
    | .unknown => (s, refuse .badValue)
    | .value takes =>
      match s.branch? slot with
      | none => (s, done (.emptySlot slot))
      | some b =>
        (if takes then s.putBranch slot { b with variance := 0 } else s, done (.branch (branchReadOf s slot b)))

/-! ## CYCLE CONTROL -/

/-- The branch with a new cycle begun: Dc and W at 0, the cycle number one higher, RUNNING (R118). -/
def Branch.started (b : Branch) : Branch :=
  { b with dayCount := 0, spent := 0, cycle := b.cycle + 1, run := .running }

/-- The effect of START; none where it is refused WRONG_STATE (R118). -/
def startAction (b : Branch) : Option Branch :=
  match b.run with
  | .stopped => some b.started
  | .running | .paused => none

/-- The effect of STOP (R119). -/
def stopAction (b : Branch) : Option Branch :=
  match b.run with
  | .running | .paused => some { b with run := .stopped }
  | .stopped => none

/-- The effect of PAUSE (R119). -/
def pauseAction (b : Branch) : Option Branch :=
  match b.run with
  | .running => some { b with run := .paused }
  | .paused | .stopped => none

/-- The effect of RESUME (R119). -/
def resumeAction (b : Branch) : Option Branch :=
  match b.run with
  | .paused => some { b with run := .running }
  | .running | .stopped => none

/-- CYCLE CONTROL with an action on a branch slot (R118, R119). `known` says whether the action code names an action. DEDUCED (log 28): a
refused one carries its status alone, though R118 speaks of 'the result of every CYCLE CONTROL'. -/
def cycleControl (action : Branch → Option Branch) (known : Bool) (slot : Nat) (s : State) : State × Reply :=
  if !serves s.record.mode then (s, refuse .wrongMode)
  else if !branchSlotOk slot || !known then (s, refuse .badValue)
  else
    match s.branch? slot with
    | none => (s, refuse .unknownBranch)
    | some b =>
      match action b with
      | none => (s, refuse .wrongState)
      | some b' => (s.putBranch slot b', done (.cycle b'.run b'.dayCount b'.spent b'.cycle b'.remaining))

/-! ## The commands -/

/-- The command OPEN_BRANCH. -/
def execOpenBranch (tag : Half) (code : Nat) (s : State) : Answer :=
  .next (request (.openBranch tag code) (openBranch code) s)

/-- The command SET_BRANCH. -/
def execSetBranch (tag : Half) (slot : Nat) (changes : BranchChanges) (s : State) : Answer :=
  .next (request (.setBranch tag slot changes) (setBranch slot changes) s)

/-- The command CLOSE_BRANCH. -/
def execCloseBranch (tag : Half) (slot : Nat) (s : State) : Answer :=
  .next (request (.closeBranch tag slot) (closeBranch slot) s)

/-- The command CYCLE_START. -/
def execCycleStart (tag : Half) (slot : Nat) (actionKnown : Bool) (s : State) : Answer :=
  .next (request (.cycleStart tag slot actionKnown) (cycleControl startAction actionKnown slot) s)

/-- The command CYCLE_STOP. -/
def execCycleStop (tag : Half) (slot : Nat) (s : State) : Answer :=
  .next (request (.cycleStop tag slot) (cycleControl stopAction true slot) s)

/-- The command CYCLE_PAUSE. -/
def execCyclePause (tag : Half) (slot : Nat) (s : State) : Answer :=
  .next (request (.cyclePause tag slot) (cycleControl pauseAction true slot) s)

/-- The command CYCLE_RESUME. -/
def execCycleResume (tag : Half) (slot : Nat) (s : State) : Answer :=
  .next (request (.cycleResume tag slot) (cycleControl resumeAction true slot) s)

/-- The command READ_BRANCH. -/
def execReadBranch (tag : Half) (slot : Nat) (take : Coded Bool) (s : State) : Answer :=
  .next (request (.readBranch tag slot take) (readBranch slot take) s)

end Sys2Proof.Machine
end

