-- ==== Sys2Proof/Machine/Stock.lean ====
section
/-!
DEFINITION. The Stock Unit: the Denomination Table's requests (R125 to R130), the four stock movements (R131 to R137) and the reorder
levels (R138).
-/

namespace Sys2Proof.Machine

/-! ## The Denomination Table -/

/-- Whether a slot ON SALE holds a face value (R127). -/
def faceOnSale (s : State) (face : Nat) : Bool :=
  s.record.denominations.any (fun e => decide (e.2.face = face) && decide (e.2.state = .onSale))

/-- The state with a denomination slot holding a record. -/
def State.putDenomination (s : State) (slot : Nat) (d : Denomination) : State :=
  { s with record.denominations := Table.put s.record.denominations slot d }

/-- DEFINE DENOMINATION: the checks of R127 in their order. -/
def defineDenomination (face : Nat) (s : State) : State × Reply :=
  if !builds s.record.mode then (s, refuse .wrongMode)
  else if !within 1 Config.faceMax face then (s, refuse .badValue)
  else if faceOnSale s face then (s, refuse .duplicate)
  else
    match Table.lowestEmpty s.record.denominations Config.denominationSlots with
    | none => (s, refuse .tableFull)
    | some slot => (s.putDenomination slot { face := face, withdrawn := none }, done (.slotChosen slot))

/-- The on-hand count of a denomination slot at a branch (R131). -/
def Branch.count (b : Branch) (denomination : Nat) : Nat :=
  Figures.at' b.onHand denomination

/-- The on-hand count of a denomination slot over all branches (R128, R130). -/
def onHandTotal (s : State) (denomination : Nat) : Nat :=
  Table.sum (fun _ b => b.count denomination) s.record.branches

/-- Branches that hold stamps of a denomination slot (R129, R130). -/
def branchesHolding (s : State) (denomination : Nat) : Nat :=
  Table.count (fun _ b => decide (0 < b.count denomination)) s.record.branches

/-- Transfer List entries for a denomination slot. -/
def transfersOf (s : State) (denomination : Nat) : List Transfer :=
  s.record.transfers.filter (fun t => decide (t.denomination = denomination))

/-- Stamps of a denomination slot in transit (R128, R130). -/
def inTransitTotal (s : State) (denomination : Nat) : Nat :=
  ((transfersOf s denomination).map (·.count)).sum

/-- WITHDRAW DENOMINATION (R128). -/
def withdrawDenomination (slot : Nat) (s : State) : State × Reply :=
  if !serves s.record.mode then (s, refuse .wrongMode)
  else if !denominationSlotOk slot then (s, refuse .badValue)
  else
    match s.denomination? slot with
    | none => (s, refuse .unknownSlot)
    | some d =>
      match d.state with
      | .withdrawn => (s, refuse .wrongState)
      | .onSale =>
        (s.putDenomination slot { d with withdrawn := some s.record.day },
         done (.withdrawn s.record.day (onHandTotal s slot) (inTransitTotal s slot)))

/-- The first condition of R129 that fails, in the order of its table. -/
def denominationObstacle (s : State) (slot : Nat) : Option DenominationObstacle :=
  match Table.firstSlot (fun _ b => decide (0 < b.count slot)) s.record.branches with
  | some lowest => some (.stockOnHand lowest (branchesHolding s slot))
  | none =>
    if 0 < (transfersOf s slot).length then some (.transfers (transfersOf s slot).length)
    else (Table.firstSlot (fun _ b => b.counting) s.record.branches).map .countOpen

/-- RETIRE DENOMINATION (R129). -/
def retireDenomination (slot : Nat) (s : State) : State × Reply :=
  if !serves s.record.mode then (s, refuse .wrongMode)
  else if !denominationSlotOk slot then (s, refuse .badValue)
  else
    match s.denomination? slot with
    | none => (s, refuse .unknownSlot)
    | some d =>
      match d.withdrawn with
      | none => (s, refuse .wrongState)
      | some day =>
        match denominationObstacle s slot with
        | some o => (s, refuseWith .notEmpty (.denominationHeld o))
        | none =>
          ({ s with record.denominations := Table.erase s.record.denominations slot },
           done (.denominationRetired d.face (daysBetween s.record.day day)))

/-- What READ DENOMINATIONS gives of one slot (R130). -/
def denominationEntry (s : State) (slot : Nat) : DenominationEntry :=
  match s.denomination? slot with
  | none => .empty slot
  | some d =>
    .present
      { slot := slot
        state := d.state
        face := d.face
        withdrawn := d.withdrawn
        daysWithdrawn := d.withdrawn.map (daysBetween s.record.day)
        onHand := onHandTotal s slot
        branches := branchesHolding s slot
        inTransit := inTransitTotal s slot
        transfers := (transfersOf s slot).length
        value := d.face * (onHandTotal s slot + inTransitTotal s slot) }

/-- READ DENOMINATIONS (R130). -/
def readDenominations (s : State) : State × Reply :=
  if !unlocked s.record.mode then (s, refuse .wrongMode)
  else (s, done (.denominations s.record.day ((List.range Config.denominationSlots).map (denominationEntry s))))

/-! ## On-hand counts -/

/-- The branch with the on-hand count of a denomination slot at n (R131). -/
def Branch.withCount (b : Branch) (denomination n : Nat) : Branch :=
  { b with onHand := Figures.set b.onHand denomination n }

/-- Whether a decrease of a branch's on-hand count to n crosses its reorder level (R138). -/
def Branch.crossesTo (b : Branch) (denomination n : Nat) : Bool :=
  crossesLevel (Figures.at' b.levels denomination) (b.count denomination) n

/-- The branch after an on-hand count falls to n: STOCK_LOW is set where the decrease crosses the level (R138). -/
def Branch.lowered (b : Branch) (denomination n : Nat) : Branch :=
  { b.withCount denomination n with
    causes := if b.crossesTo denomination n then b.causes.with .stockLow else b.causes }

/-- Takes n stamps off the branch b of a slot, with the comparison of R138. -/
def takeStamps (slot : Nat) (b : Branch) (denomination n : Nat) (s : State) : State :=
  let after := b.count denomination - n
  let s' := s.putBranch slot (b.lowered denomination after)
  if b.crossesTo denomination after then raiseAttention s' else s'

/-- Adds n stamps to the branch b of a slot (R131). -/
def addStamps (slot : Nat) (b : Branch) (denomination n : Nat) (s : State) : State :=
  s.putBranch slot (b.withCount denomination (b.count denomination + n))

/-! ## The four movements -/

/-- Checks 1 to 6 of R133 in their order; the movement's own checks and its changes are `act`, given the branch, its on-hand count
before and the value v. -/
def stockMovement (admits : DenominationState → Bool) (act : Branch → Nat → Nat → State → State × Reply)
    (branch denomination n : Nat) (s : State) : State × Reply :=
  if !serves s.record.mode then (s, refuse .wrongMode)
  else if !branchSlotOk branch || !denominationSlotOk denomination || !stampsOk n then (s, refuse .badValue)
  else
    match s.branch? branch, s.denomination? denomination with
    | none, _ => (s, refuse .unknownBranch)
    | some _, none => (s, refuse .unknownSlot)
    | some b, some d =>
      if !admits d.state then (s, refuseWith .wrongState (.slotState d.state))
      else if b.counting then (s, refuse .branchCounting)
      else act b (b.count denomination) (n * d.face) s

/-- PURCHASE STOCK admits an ON SALE slot (R126). -/
def admitsPurchase : DenominationState → Bool
  | .onSale => true
  | .withdrawn => false

/-- ISSUE STOCK and WRITE OFF STOCK admit either state (R126). -/
def admitsEither : DenominationState → Bool
  | .onSale | .withdrawn => true

/-- SURRENDER STOCK admits a WITHDRAWN slot (R126). -/
def admitsSurrender : DenominationState → Bool
  | .onSale => false
  | .withdrawn => true

/-- Checks 7 to 9 of PURCHASE STOCK and its changes (R134). -/
def purchaseAct (branch denomination n : Nat) (b : Branch) (held v : Nat) (s : State) : State × Reply :=
  if Config.stampMax < held + n then (s, refuseWith .badValue (.bound .onHand held))
  else if Config.totalMax < stockValue s + v then (s, refuseWith .badValue (.bound .stockValue (stockValue s)))
  else if !covers s v then (s, refuseWith .poolShort (.purchaseShort s.record.pool.balance v))
  else
    (addStamps branch b denomination n (debitPool v s),
     done (.purchased (held + n) v (s.record.pool.balance - v)))

/-- Checks 7 and 8 of ISSUE STOCK and its changes (R135). -/
def issueAct (branch denomination n : Nat) (b : Branch) (held v : Nat) (s : State) : State × Reply :=
  if held < n then (s, refuseWith .shortStock (.onHand held))
  else if Config.totalMax < s.record.pool.issued + v then
    (s, refuseWith .badValue (.bound .issued s.record.pool.issued))
  else
    (takeStamps branch b denomination n (addIssued v s),
     done (.stockIssued (held - n) v (s.record.pool.issued + v) (b.crossesTo denomination (held - n))))

/-- Checks 7 and 8 of WRITE OFF STOCK and its changes (R136). -/
def writeOffAct (branch denomination n : Nat) (b : Branch) (held v : Nat) (s : State) : State × Reply :=
  if held < n then (s, refuseWith .shortStock (.onHand held))
  else if (Config.totalMax : Int) < s.record.pool.writtenOff + v then
    (s, refuseWith .badValue (.bound .writtenOff s.record.pool.writtenOff))
  else
    (takeStamps branch b denomination n (addWrittenOff v s),
     done (.stockWrittenOff (held - n) v (s.record.pool.writtenOff + v) (b.crossesTo denomination (held - n))))

/-- Checks 7 and 8 of SURRENDER STOCK and its changes: the count falls, then the pool credit is made and serves (R137). -/
def surrenderAct (branch denomination n : Nat) (b : Branch) (held v : Nat) (s : State) : State × Reply :=
  if held < n then (s, refuseWith .shortStock (.onHand held))
  else if !creditFits s v then (s, refuseWith .badValue (.bound .committedFunds (committedFunds s)))
  else
    let toArrears := min s.record.pool.arrears v
    let r := creditAndServe v (takeStamps branch b denomination n s)
    (r.state,
     done (.surrendered (held - n) v toArrears (v - toArrears) r.issued r.removed r.state.record.pool.balance
      r.state.record.pool.arrears (b.crossesTo denomination (held - n))))

/-- PURCHASE STOCK (R133, R134). -/
def purchaseStock (branch denomination n : Nat) : State → State × Reply :=
  stockMovement admitsPurchase (purchaseAct branch denomination n) branch denomination n

/-- ISSUE STOCK (R133, R135). -/
def issueStock (branch denomination n : Nat) : State → State × Reply :=
  stockMovement admitsEither (issueAct branch denomination n) branch denomination n

/-- WRITE OFF STOCK (R133, R136). -/
def writeOffStock (branch denomination n : Nat) : State → State × Reply :=
  stockMovement admitsEither (writeOffAct branch denomination n) branch denomination n

/-- SURRENDER STOCK (R133, R137). -/
def surrenderStock (branch denomination n : Nat) : State → State × Reply :=
  stockMovement admitsSurrender (surrenderAct branch denomination n) branch denomination n

/-! ## The commands -/

/-- The command DEFINE_DENOMINATION. -/
def execDefineDenomination (tag : Half) (face : Nat) (s : State) : Answer :=
  .next (request (.defineDenomination tag face) (defineDenomination face) s)

/-- The command WITHDRAW_DENOMINATION. -/
def execWithdrawDenomination (tag : Half) (slot : Nat) (s : State) : Answer :=
  .next (request (.withdrawDenomination tag slot) (withdrawDenomination slot) s)

/-- The command RETIRE_DENOMINATION. -/
def execRetireDenomination (tag : Half) (slot : Nat) (s : State) : Answer :=
  .next (request (.retireDenomination tag slot) (retireDenomination slot) s)

/-- The command READ_DENOMINATIONS. -/
def execReadDenominations (tag : Half) (s : State) : Answer :=
  .next (request (.readDenominations tag) readDenominations s)

/-- The command PURCHASE_STOCK. -/
def execPurchaseStock (tag : Half) (branch denomination count : Nat) (s : State) : Answer :=
  .next (request (.purchaseStock tag branch denomination count) (purchaseStock branch denomination count) s)

/-- The command ISSUE_STOCK. -/
def execIssueStock (tag : Half) (branch denomination count : Nat) (s : State) : Answer :=
  .next (request (.issueStock tag branch denomination count) (issueStock branch denomination count) s)

/-- The command WRITE_OFF_STOCK. -/
def execWriteOffStock (tag : Half) (branch denomination count : Nat) (s : State) : Answer :=
  .next (request (.writeOffStock tag branch denomination count) (writeOffStock branch denomination count) s)

/-- The command SURRENDER_STOCK. -/
def execSurrenderStock (tag : Half) (branch denomination count : Nat) (s : State) : Answer :=
  .next (request (.surrenderStock tag branch denomination count) (surrenderStock branch denomination count) s)

end Sys2Proof.Machine
end

