-- ==== Sys2Proof/Machine/Transfers.lean ====
section
/-!
DEFINITION. The Transfer List (R142 to R148): DISPATCH, RECEIVE, CANCEL TRANSFER, READ TRANSFERS; and the stock counts (R149 to R153): BEGIN,
ENTER, READ, ABANDON and CLOSE COUNT.
-/

namespace Sys2Proof.Machine

/-! ## Transfer numbers -/

/-- Whether an entry of a list holds a transfer number (R143). -/
def numberListed (l : List Transfer) (n : Nat) : Bool :=
  l.any (fun t => decide (t.number = n))

/-- The first number from n on that no entry holds, passing over at most `tries` of them (R143). -/
def freeNumber (l : List Transfer) : Nat → Nat → Nat
  | 0, n => n
  | tries + 1, n => if numberListed l n then freeNumber l tries (nextNumber n) else n

/-- The number a taken DISPATCH gives (R143). Each entry can be passed over once. -/
def numberGiven (s : State) : Nat :=
  freeNumber s.record.transfers s.record.transfers.length s.record.nextTransfer

/-! ## DISPATCH -/

/-- The entry a taken DISPATCH adds (R144). -/
def dispatchedEntry (s : State) (origin destination denomination n : Nat) : Transfer where
  number := numberGiven s
  origin := origin
  destination := destination
  denomination := denomination
  count := n
  day := s.record.day
  age := 0
  state := .inTransit

/-- The list with an entry at its tail, and the next transfer number after the number given (R143, R144). -/
def listTransfer (t : Transfer) (s : State) : State :=
  { s with record.transfers := s.record.transfers ++ [t], record.nextTransfer := nextNumber t.number }

/-- Checks 6 to 8 of R144 on the origin's branch b, and the dispatch. -/
def dispatchFrom (origin destination denomination n : Nat) (b : Branch) (s : State) : State × Reply :=
  let held := b.count denomination
  if b.counting then (s, refuse .branchCounting)
  else if held < n then (s, refuseWith .shortStock (.onHand held))
  else if Config.transferPlaces ≤ s.record.transfers.length then (s, refuse .tableFull)
  else
    let t := dispatchedEntry s origin destination denomination n
    (listTransfer t (takeStamps origin b denomination n s),
     done (.dispatched t.number s.record.transfers.length (held - n) (transferValue s t)
      (b.crossesTo denomination (held - n))))

/-- DISPATCH: the checks of R144 in their order. -/
def dispatch (origin destination denomination n : Nat) (s : State) : State × Reply :=
  if !serves s.record.mode then (s, refuse .wrongMode)
  else if !branchSlotOk origin || !branchSlotOk destination || !denominationSlotOk denomination || !stampsOk n then
    (s, refuse .badValue)
  else if origin = destination then (s, refuse .badValue)
  else
    match s.branch? origin, s.branch? destination, s.denomination? denomination with
    | none, _, _ => (s, refuse .unknownBranch)
    | some _, none, _ => (s, refuse .unknownBranch)
    | some _, some _, none => (s, refuse .unknownSlot)
    | some b, some _, some _ => dispatchFrom origin destination denomination n b s

/-! ## RECEIVE and CANCEL TRANSFER -/

/-- The entry that holds a transfer number (R145, R146). -/
def State.transfer? (s : State) (number : Nat) : Option Transfer :=
  s.record.transfers.find? (fun t => decide (t.number = number))

/-- The list without the entry that holds a number (R142). -/
def unlistTransfer (number : Nat) (s : State) : State :=
  { s with record.transfers := s.record.transfers.filter (fun t => decide (t.number ≠ number)) }

/-- The destination's record after a receipt: the count risen by r, and TRANSIT_SHORTFALL where stamps are short (R145). -/
def Branch.receiving (b : Branch) (t : Transfer) (r : Nat) : Branch :=
  { b.withCount t.denomination (b.count t.denomination + r) with
    causes := if r < t.count then b.causes.with .transitShortfall else b.causes }

/-- A taken RECEIVE: the three steps of R145. -/
def receiveStamps (t : Transfer) (r : Nat) (b : Branch) (s : State) : State :=
  let s1 := s.putBranch t.destination (b.receiving t r)
  let s2 := if r < t.count then raiseAttention (addWrittenOff (((t.count - r) * s.face t.denomination : Nat) : Int) s1) else s1
  unlistTransfer t.number s2

/-- Checks 4 to 7 of R145 on the entry t and the destination's branch b, and the receipt. DESIGN CHOICE (log 45): the result carries the entry
whole, and so the transfer number and the day dispatched too, which R145 does not list. -/
def receiveInto (t : Transfer) (r : Nat) (b : Branch) (s : State) : State × Reply :=
  let held := b.count t.denomination
  let value := (t.count - r) * s.face t.denomination
  if t.count < r then (s, refuse .badValue)
  else if b.counting then (s, refuse .branchCounting)
  else if Config.stampMax < held + r then (s, refuse .badValue)
  else if (Config.totalMax : Int) < s.record.pool.writtenOff + value then (s, refuse .badValue)
  else (receiveStamps t r b s, done (.received t r (t.count - r) value (held + r) (decide (r < t.count))))

/-- RECEIVE: the checks of R145 in their order. The destination and the slot of an entry are non-empty (R142); where they are
not, the answers of R112 and R126 are given (log 24). -/
def receive (number r : Nat) (s : State) : State × Reply :=
  if !serves s.record.mode then (s, refuse .wrongMode)
  else if !numberOk number || !figureOk r then (s, refuse .badValue)
  else
    match s.transfer? number with
    | none => (s, refuse .unknownTransfer)
    | some t =>
      match s.branch? t.destination, s.denomination? t.denomination with
      | none, _ => (s, refuse .unknownBranch)
      | some _, none => (s, refuse .unknownSlot)
      | some b, some _ => receiveInto t r b s

/-- The checks of R146 on the entry t and the origin's branch b, and the cancel. -/
def cancelInto (t : Transfer) (b : Branch) (s : State) : State × Reply :=
  let held := b.count t.denomination
  if b.counting then (s, refuse .branchCounting)
  else if Config.stampMax < held + t.count then (s, refuse .badValue)
  else
    (unlistTransfer t.number (addStamps t.origin b t.denomination t.count s),
     done (.transferCancelled t (held + t.count)))

/-- CANCEL TRANSFER (R146). The origin and the slot of an entry are non-empty (R142); where they are not, the answers of R112
and R126 are given (log 24). -/
def cancelTransfer (number : Nat) (s : State) : State × Reply :=
  if !serves s.record.mode then (s, refuse .wrongMode)
  else if !numberOk number then (s, refuse .badValue)
  else
    match s.transfer? number with
    | none => (s, refuse .unknownTransfer)
    | some t =>
      match s.branch? t.origin, s.denomination? t.denomination with
      | none, _ => (s, refuse .unknownBranch)
      | some _, none => (s, refuse .unknownSlot)
      | some b, some _ => cancelInto t b s

/-! ## READ TRANSFERS -/

/-- READ TRANSFERS (R148). -/
def readTransfers (start : Nat) (s : State) : State × Reply :=
  if !unlocked s.record.mode then (s, refuse .wrongMode)
  else if !decide (start < Config.transferPlaces) then (s, refuse .badValue)
  else
    (s,
     done (.transfers s.record.transfers.length s.record.nextTransfer s.record.day s.inForce.overdueDays (transitValue s)
      ((page start s.record.transfers).map
        (fun e => { position := e.1, entry := e.2, value := transferValue s e.2 }))))

/-! ## Stock counts -/

/-- The latch BEGIN COUNT makes: the on-hand counts as they stand (R149). -/
def Branch.latchOn (b : Branch) (day : Half) : CountLatch where
  day := day
  latched := b.onHand
  counted := []

/-- BEGIN COUNT (R149). -/
def beginCount (slot : Nat) (s : State) : State × Reply :=
  if !serves s.record.mode then (s, refuse .wrongMode)
  else if !branchSlotOk slot then (s, refuse .badValue)
  else
    match s.branch? slot with
    | none => (s, refuse .unknownBranch)
    | some b =>
      if b.counting then (s, refuse .wrongState)
      else
        (s.putBranch slot { b with latch := some (b.latchOn s.record.day) },
         done (.countBegun s.record.day (Figures.row b.onHand)))

/-- The difference of a counted figure and a latched one (R150, R153). -/
def countDifference (latched counted : Nat) : Int :=
  (counted : Int) - (latched : Int)

/-- A taken ENTER COUNT on the branch b and its latch l (R150). -/
def enterFigure (slot denomination figure : Nat) (b : Branch) (l : CountLatch) (s : State) : State × Reply :=
  let latched := Figures.at' l.latched denomination
  let difference := countDifference latched figure
  (s.putBranch slot { b with latch := some { l with counted := Table.put l.counted denomination figure } },
   done (.figureEntered latched figure (Table.find l.counted denomination).isSome difference
    (difference * (s.face denomination : Int))))

/-- ENTER COUNT (R150). -/
def enterCount (slot denomination figure : Nat) (s : State) : State × Reply :=
  if !serves s.record.mode then (s, refuse .wrongMode)
  else if !branchSlotOk slot || !denominationSlotOk denomination || !figureOk figure then (s, refuse .badValue)
  else
    match s.branch? slot with
    | none => (s, refuse .unknownBranch)
    | some b =>
      match b.latch with
      | none => (s, refuse .wrongState)
      | some l =>
        match s.denomination? denomination with
        | none => (s, refuse .unknownSlot)
        | some _ => enterFigure slot denomination figure b l s

/-- One slot of an open count (R151). -/
def countLine (s : State) (l : CountLatch) (denomination : Nat) : CountLine :=
  let latched := Figures.at' l.latched denomination
  let counted := Table.find l.counted denomination
  let difference := counted.map (countDifference latched)
  { denomination := denomination
    latched := latched
    counted := counted
    difference := difference
    value := difference.map (· * (s.face denomination : Int)) }

/-- The net value of an open count, N (R151, R153). -/
def countNet (s : State) (l : CountLatch) : Int :=
  Table.sumInt (fun d c => countDifference (Figures.at' l.latched d) c * (s.face d : Int)) l.counted

/-- READ COUNT (R151). -/
def readCount (slot : Nat) (s : State) : State × Reply :=
  if !unlocked s.record.mode then (s, refuse .wrongMode)
  else if !branchSlotOk slot then (s, refuse .badValue)
  else
    match s.branch? slot with
    | none => (s, refuse .unknownBranch)
    | some b =>
      match b.latch with
      | none => (s, refuse .wrongState)
      | some l =>
        (s, done (.count l.day ((List.range Config.denominationSlots).map (countLine s l)) (countNet s l)))

/-- The branch with its latch discarded, OPEN again (R152, R153). -/
def Branch.unlatched (b : Branch) : Branch :=
  { b with latch := none }

/-- ABANDON COUNT (R152). -/
def abandonCount (slot : Nat) (s : State) : State × Reply :=
  if !serves s.record.mode then (s, refuse .wrongMode)
  else if !branchSlotOk slot then (s, refuse .badValue)
  else
    match s.branch? slot with
    | none => (s, refuse .unknownBranch)
    | some b =>
      match b.latch with
      | none => (s, refuse .wrongState)
      | some l => (s.putBranch slot b.unlatched, done (.countAbandoned l.counted.length))

/-- The branch with each counted figure brought into its on-hand counts, STOCK_LOW set where a lowered count crosses its level
(R153 step 1). -/
def applyFigures (b : Branch) : Table Nat → Branch
  | [] => b
  | (d, c) :: rest => applyFigures (b.lowered d c) rest

/-- Whether the close of a count crosses a reorder level (R138, R153). -/
def closeCrosses (b : Branch) (counted : Table Nat) : Bool :=
  counted.any (fun e => b.crossesTo e.1 e.2)

/-- The branch after a close: counted figures applied, N in the variance total, the latch gone (R153 steps 1, 3 and 4). -/
def Branch.closed (b : Branch) (l : CountLatch) (net : Int) : Branch :=
  { applyFigures b l.counted with variance := b.variance + net, latch := none }

/-- The checks of R153 on the net value. -/
def closeFits (s : State) (b : Branch) (net : Int) : Bool :=
  (decide (net ≤ 0) || decide ((stockValue s : Int) + net ≤ (Config.totalMax : Int)))
    && signedTotalOk (s.record.pool.writtenOff - net) && signedTotalOk (b.variance + net)

/-- The lines of a close: one for each slot with an entered figure (R153). -/
def closeLines (s : State) (l : CountLatch) : List CountLine :=
  l.counted.map (fun e => countLine s l e.1)

/-- Slots whose counted figure is above the latched one (R153). -/
def countSurpluses (l : CountLatch) : Nat :=
  Table.count (fun d c => decide (Figures.at' l.latched d < c)) l.counted

/-- Slots whose counted figure is below the latched one (R153). -/
def countLosses (l : CountLatch) : Nat :=
  Table.count (fun d c => decide (c < Figures.at' l.latched d)) l.counted

/-- A close that passes: the four steps of R153. -/
def closeInto (slot : Nat) (b : Branch) (l : CountLatch) (net : Int) (s : State) : State :=
  let s' := addWrittenOff (-net) (s.putBranch slot (b.closed l net))
  if closeCrosses b l.counted then raiseAttention s' else s'

/-- CLOSE COUNT (R153). -/
def closeCount (slot : Nat) (s : State) : State × Reply :=
  if !serves s.record.mode then (s, refuse .wrongMode)
  else if !branchSlotOk slot then (s, refuse .badValue)
  else
    match s.branch? slot with
    | none => (s, refuse .unknownBranch)
    | some b =>
      match b.latch with
      | none => (s, refuse .wrongState)
      | some l =>
        let net := countNet s l
        if !closeFits s b net then (s, refuse .badValue)
        else
          (closeInto slot b l net s,
           done (.countClosed (closeLines s l) net (countSurpluses l) (countLosses l) (s.record.pool.writtenOff - net)
            (b.variance + net) (closeCrosses b l.counted)))

/-! ## The commands -/

/-- The command DISPATCH. -/
def execDispatch (tag : Half) (origin destination denomination count : Nat) (s : State) : Answer :=
  .next (request (.dispatch tag origin destination denomination count) (dispatch origin destination denomination count) s)

/-- The command RECEIVE. -/
def execReceive (tag : Half) (number count : Nat) (s : State) : Answer :=
  .next (request (.receive tag number count) (receive number count) s)

/-- The command CANCEL_TRANSFER. -/
def execCancelTransfer (tag : Half) (number : Nat) (s : State) : Answer :=
  .next (request (.cancelTransfer tag number) (cancelTransfer number) s)

/-- The command READ_TRANSFERS. -/
def execReadTransfers (tag : Half) (start : Nat) (s : State) : Answer :=
  .next (request (.readTransfers tag start) (readTransfers start) s)

/-- The command BEGIN_COUNT. -/
def execBeginCount (tag : Half) (branch : Nat) (s : State) : Answer :=
  .next (request (.beginCount tag branch) (beginCount branch) s)

/-- The command ENTER_COUNT. -/
def execEnterCount (tag : Half) (branch denomination figure : Nat) (s : State) : Answer :=
  .next (request (.enterCount tag branch denomination figure) (enterCount branch denomination figure) s)

/-- The command CLOSE_COUNT. -/
def execCloseCount (tag : Half) (branch : Nat) (s : State) : Answer :=
  .next (request (.closeCount tag branch) (closeCount branch) s)

/-- The command ABANDON_COUNT. -/
def execAbandonCount (tag : Half) (branch : Nat) (s : State) : Answer :=
  .next (request (.abandonCount tag branch) (abandonCount branch) s)

/-- The command READ_COUNT. -/
def execReadCount (tag : Half) (branch : Nat) (s : State) : Answer :=
  .next (request (.readCount tag branch) (readCount branch) s)

end Sys2Proof.Machine
end

