-- ==== Sys2Proof/Machine/Settings.lean ====
section
/-!
DEFINITION. The stored settings and the settings in force: the ranges and defaults of R159's table, the application of a class (R160), WRITE
SETTINGS, READ SETTINGS and the interrupt-enable word (R159, R167).
-/

namespace Sys2Proof.Machine

/-! ## The values of the fields (R159) -/

/-- 0 SETUP, 1 SERVICE, 2 RESUME. -/
def startModeOf (w : Word) : Option StartMode :=
  if w = 0 then some .setup else if w = 1 then some .service else if w = 2 then some .resume else none

/-- 0 FATAL, 1 CLEAR. -/
def lossPolicyOf (w : Word) : Option LossPolicy :=
  if w = 0 then some .fatal else if w = 1 then some .clear else none

/-- 0 WAIT, 1 PARTIAL. -/
def shortageOf (w : Word) : Option Shortage :=
  if w = 0 then some .wait else if w = 1 then some .partly else none

/-- 0 NONE, 1 FIXED, 2 HOLD, 3 TRIAL. -/
def conditioningOf (w : Word) : Option Conditioning :=
  if w = 0 then some .none else if w = 1 then some .fixed else if w = 2 then some .hold
  else if w = 3 then some .trial else none

/-- 0 LIVE, 1 PEAK. -/
def depthIndicatorOf (w : Word) : Option DepthIndicator :=
  if w = 0 then some .live else if w = 1 then some .peak else none

/-- 0 off, 1 on. -/
def enableOf (w : Word) : Option Bool :=
  if w = 0 then some false else if w = 1 then some true else none

/-- A whole number from lo to hi. -/
def numberFrom (lo hi : Nat) (w : Word) : Option Nat :=
  if within lo hi w.toNat then some w.toNat else none

/-- 1, 10, 100, 1,000 or 10,000 units. -/
def refillStepOf (w : Word) : Option Nat :=
  if w.toNat ∈ [1, 10, 100, 1000, 10000] then some w.toNat else none

/-- Whether the stored value of a field is within its range (R159). -/
def inRange (st : StoredSettings) : SettingField → Bool
  | .startMode => (startModeOf st.startMode).isSome
  | .backupLoss => (lossPolicyOf st.backupLoss).isSome
  | .refillStep => (refillStepOf st.refillStep).isSome
  | .loadTimeout => (numberFrom 10 600 st.loadTimeout).isSome
  | .shortage => (shortageOf st.shortage).isSome
  | .overdueDays => (numberFrom 1 30 st.overdueDays).isSome
  | .margin => (numberFrom 0 8 st.margin).isSome
  | .reportInterval => (numberFrom 1 60 st.reportInterval).isSome
  | .conditioning => (conditioningOf st.conditioning).isSome
  | .depth => (depthIndicatorOf st.depth).isSome
  | .resultEnable => (enableOf st.resultEnable).isSome
  | .attentionEnable => (enableOf st.attentionEnable).isSome

/-- The settings in force with one field taken from its stored value, or from its default where that is out of range (R160). -/
def settle (st : StoredSettings) (cur : Settings) : SettingField → Settings
  | .startMode => { cur with startMode := (startModeOf st.startMode).getD .setup }
  | .backupLoss => { cur with backupLoss := (lossPolicyOf st.backupLoss).getD .fatal }
  | .refillStep => { cur with refillStep := (refillStepOf st.refillStep).getD 100 }
  | .loadTimeout => { cur with loadTimeout := (numberFrom 10 600 st.loadTimeout).getD 120 }
  | .shortage => { cur with shortage := (shortageOf st.shortage).getD .wait }
  | .overdueDays => { cur with overdueDays := (numberFrom 1 30 st.overdueDays).getD 5 }
  | .margin => { cur with margin := (numberFrom 0 8 st.margin).getD 4 }
  | .reportInterval => { cur with reportInterval := (numberFrom 1 60 st.reportInterval).getD 7 }
  | .conditioning => { cur with conditioning := (conditioningOf st.conditioning).getD .none }
  | .depth => { cur with depth := (depthIndicatorOf st.depth).getD .live }
  | .resultEnable => { cur with resultEnable := (enableOf st.resultEnable).getD false }
  | .attentionEnable => { cur with attentionEnable := (enableOf st.attentionEnable).getD false }

/-- The code R159 gives the value in force of a field. -/
def valueCode (cur : Settings) : SettingField → Nat
  | .startMode => match cur.startMode with | .setup => 0 | .service => 1 | .resume => 2
  | .backupLoss => match cur.backupLoss with | .fatal => 0 | .clear => 1
  | .refillStep => cur.refillStep
  | .loadTimeout => cur.loadTimeout
  | .shortage => match cur.shortage with | .wait => 0 | .partly => 1
  | .overdueDays => cur.overdueDays
  | .margin => cur.margin
  | .reportInterval => cur.reportInterval
  | .conditioning => match cur.conditioning with | .none => 0 | .fixed => 1 | .hold => 2 | .trial => 3
  | .depth => match cur.depth with | .live => 0 | .peak => 1
  | .resultEnable => if cur.resultEnable then 1 else 0
  | .attentionEnable => if cur.attentionEnable then 1 else 0

/-! ## The classes (R159) -/

/-- The RESTART class. -/
def restartClass : List SettingField :=
  [.startMode, .backupLoss]

/-- The SERVICE ENTRY class. -/
def serviceEntryClass : List SettingField :=
  [.refillStep, .loadTimeout, .shortage, .overdueDays, .margin, .reportInterval]

/-- The IMMEDIATE class. -/
def immediateClass : List SettingField :=
  [.conditioning, .depth, .resultEnable, .attentionEnable]

/-- The twelve fields in the order of R159's table. -/
def allFields : List SettingField :=
  restartClass ++ serviceEntryClass ++ immediateClass

/-! ## The application of a class (R160) -/

/-- Turning an enable off clears its pending mark (R170). -/
def dropMarks (before : Settings) (s : State) : State :=
  { s with
    resultMark := s.resultMark && !(before.resultEnable && !s.inForce.resultEnable)
    attentionMark := s.attentionMark && !(before.attentionEnable && !s.inForce.attentionEnable) }

/-- The fallen-back set with one more field, in the order of R159's table. -/
def joinFallen (f : SettingField) (l : List SettingField) : List SettingField :=
  allFields.filter (fun g => decide (g = f) || l.contains g)

/-- A class is applied to one field (R160). -/
def applyField (f : SettingField) (s : State) : State :=
  let s' := dropMarks s.inForce { s with inForce := settle s.stored s.inForce f }
  if inRange s.stored f then { s' with fallenBack := s.fallenBack.filter (fun g => decide (g ≠ f)) }
  else setDeviceCause .settingsFault { s' with fallenBack := joinFallen f s.fallenBack }

/-- A class is applied to each of a list of fields (R160). -/
def applyFields : List SettingField → State → State
  | [], s => s
  | f :: rest, s => applyFields rest (applyField f s)

/-- The fields of a list whose stored value falls back (R157, R160). -/
def fallers (st : StoredSettings) (l : List SettingField) : List SettingField :=
  l.filter (fun f => !inRange st f)

/-! ## WRITE SETTINGS and READ SETTINGS (R159) -/

/-- The settings store with every present value written. -/
def storePatch (p : SettingsPatch) (st : StoredSettings) : StoredSettings where
  startMode := p.startMode.getD st.startMode
  backupLoss := p.backupLoss.getD st.backupLoss
  refillStep := p.refillStep.getD st.refillStep
  loadTimeout := p.loadTimeout.getD st.loadTimeout
  shortage := p.shortage.getD st.shortage
  overdueDays := p.overdueDays.getD st.overdueDays
  margin := p.margin.getD st.margin
  reportInterval := p.reportInterval.getD st.reportInterval
  conditioning := p.conditioning.getD st.conditioning
  depth := p.depth.getD st.depth
  resultEnable := p.resultEnable.getD st.resultEnable
  attentionEnable := p.attentionEnable.getD st.attentionEnable

/-- The IMMEDIATE fields that are present, in the order of R159's table. -/
def presentImmediate (p : SettingsPatch) : List SettingField :=
  (if p.conditioning.isSome then [.conditioning] else []) ++ (if p.depth.isSome then [.depth] else [])
    ++ (if p.resultEnable.isSome then [.resultEnable] else [])
    ++ (if p.attentionEnable.isSome then [.attentionEnable] else [])

/-- The order in which the present IMMEDIATE fields are applied. Only the place of the attention-interrupt enable among them
can be told, by whether a fall-back of another field raises the attention interrupt, and the manual leaves it open (log 9). -/
def applicationOrder (first : Bool) (p : SettingsPatch) : List SettingField :=
  if p.attentionEnable.isSome && first then .attentionEnable :: presentImmediate { p with attentionEnable := none }
  else presentImmediate p

/-- The values are stored and the IMMEDIATE class is applied to the fields that are present (R159). -/
def writeStored (p : SettingsPatch) (s : State) : State :=
  let s1 := { s with stored := storePatch p s.stored, choices := s.choices + 1 }
  applyFields (applicationOrder (Config.enableBeforeFault s.choices) p) s1

/-- WRITE SETTINGS (R159). -/
def writeSettings (p : SettingsPatch) (s : State) : State × Reply :=
  if !writesSettings s.record.mode then (s, refuse .wrongMode)
  else
    let s' := writeStored p s
    (s',
     done (.applied ((presentImmediate p).map (fun f => (f, valueCode s'.inForce f, !inRange s'.stored f)))))

/-- READ SETTINGS: the stored values as written (R159). -/
def readSettings (s : State) : State × Reply :=
  (s, done (.stored s.stored))

/-- The WRITE SETTINGS that a write of the interrupt-enable word stands for: bits 0 and 1 alone (R159, R167). -/
def enablePatch (value : Word) : SettingsPatch where
  resultEnable := some (if value.getLsbD 0 then 1 else 0)
  attentionEnable := some (if value.getLsbD 1 then 1 else 0)

/-! ## The commands -/

/-- The command WRITE_SETTINGS. -/
def execWriteSettings (tag : Half) (patch : SettingsPatch) (s : State) : Answer :=
  .next (request (.writeSettings tag patch) (writeSettings patch) s)

/-- The command READ_SETTINGS. -/
def execReadSettings (tag : Half) (s : State) : Answer :=
  .next (request (.readSettings tag) readSettings s)

/-- INTERRUPT_ENABLE_WORD_WRITE: a WRITE SETTINGS of the two enables that posts no result, ignored in FROZEN (R167). -/
def execInterruptEnableWordWrite (value : Word) (s : State) : Answer :=
  .next (if s.powered && writesSettings s.record.mode then writeStored (enablePatch value) s else s)

end Sys2Proof.Machine
end

