-- ==== Sys2Proof/Machine/Modes.lean ====
section
/-!
DEFINITION. The Mode Controller: SET MODE (R157), CLOSE DAY with the four day effects (R158, R19, R49, R50, R120, R147, R152), start-up
(R161, R162) by RESTART, POWER_ON and PCIE_RESET, CLEAR TABLES (R163), READ STATUS (R165), POWER_LOSS and BACKUP_CELL_FAILURE.
-/

namespace Sys2Proof.Machine

/-- The state in a mode. -/
def State.withMode (s : State) (m : Mode) : State :=
  { s with record.mode := m }

/-! ## SET MODE -/

/-- An entry to SERVICE: the mode, the SERVICE ENTRY class, the serving (R157). -/
def enterService (s : State) : Served :=
  serveQueue (applyFields serviceEntryClass (s.withMode .service))

/-- SET MODE (R157). -/
def setMode (target : Coded Mode) (s : State) : State × Reply :=
  if !unlocked s.record.mode then (s, refuse .wrongMode)
  else
    match target with
    | .unknown | .value .locked => (s, refuse .badValue)
    | .value m =>
      if m = s.record.mode then (s, done .none)
      else if m = .service then
        let r := enterService s
        (r.state, done (.serviceEntry s.record.mode m (fallers s.stored serviceEntryClass) r.issued))
      else (s.withMode m, done (.modes s.record.mode m))

/-! ## The day effect of the Account Table -/

/-- Whether a day advance makes a meter OVERDUE (R19). -/
def Meter.goesOverdue (m : Meter) : Bool :=
  decide (m.state = .active) && decide (m.interval < ageUp m.daysSince)

/-- The record after its ageing (R19). -/
def Meter.aged (m : Meter) : Meter :=
  { m with
    daysSince := ageUp m.daysSince
    state := if m.goesOverdue then .overdue else m.state
    causes := if m.goesOverdue then m.causes.with .overdue else m.causes }

/-- Whether a daily limit is originated (R49). -/
def limitDue (s : State) (m : Meter) : Bool :=
  decide (m.kind = .postpaid) && decide (m.subMode = .second) && decide (m.state = .active) && m.grantOut.isNone
    && mayOriginate (effective s m) && decide (m.credit < m.standing)

/-- The decision on a daily limit: the standing amount less C, or the standing amount itself under FIXED (R49, R50). -/
def limitDecision (s : State) (m : Meter) : Decision :=
  decideLimit s m (substituted (effective s m) m (m.standing - m.credit))

/-- The record after its daily limit was originated, the grant stamped with a cycle number (R50). A limit never joins the
queue (R60). -/
def Meter.limited (m : Meter) (cycle : Byte) (timeout : Nat) : Decision → Meter
  | .issue amount _ =>
    { m.withGrant .limit amount false cycle timeout with causes := m.causes.with .grantReady }
  | .refused st _ => { m.refusedWith st with causes := m.causes.with .refillRefused }
  | .join _ => m

/-- The record after the Account Table's day effect (R19, R49, R50). -/
def Meter.dayEffect (s : State) (cycle : Byte) (m : Meter) : Meter :=
  if limitDue s m.aged then m.aged.limited cycle s.inForce.loadTimeout (limitDecision s m.aged) else m.aged

/-- Whether the day effect sets a cause on a meter. -/
def meterDayRaises (s : State) (m : Meter) : Bool :=
  m.goesOverdue || limitDue s m.aged

/-! ## The day effects of the Branch Table, the Stock Unit and the Transfer List -/

/-- Whether a branch's cycle ends at a day advance (R120). -/
def Branch.cycleEnds (b : Branch) : Bool :=
  decide (b.run = .running) && decide (0 < b.cycleLength) && decide (b.cycleLength ≤ ageUp b.dayCount)

/-- The branch after the Branch Table's day effect (R120). -/
def Branch.dayCounted (b : Branch) : Branch :=
  match b.run with
  | .stopped | .paused => b
  | .running =>
    if b.cycleEnds then
      { b with dayCount := 0, spent := 0, cycle := b.cycle + 1, causes := b.causes.with .cycleEnd }
    else { b with dayCount := ageUp b.dayCount }

/-- The branch after the abandonment of its open count (R152). -/
def Branch.countDropped (b : Branch) : Branch :=
  if b.counting then { b.unlatched with causes := b.causes.with .countAbandoned } else b

/-- Whether a transfer becomes OVERDUE at a day advance (R147). -/
def Transfer.goesOverdue (limit : Nat) (t : Transfer) : Bool :=
  decide (t.state = .inTransit) && decide (limit < ageUp t.age)

/-- The entry after its ageing (R147). -/
def Transfer.aged (limit : Nat) (t : Transfer) : Transfer :=
  { t with age := ageUp t.age, state := if t.goesOverdue limit then .overdue else t.state }

/-- Whether a transfer from a branch slot becomes OVERDUE at a day advance (R147). -/
def originOverdue (s : State) (slot : Nat) : Bool :=
  s.record.transfers.any (fun t => decide (t.origin = slot) && t.goesOverdue s.inForce.overdueDays)

/-- The branch after a transfer from it went OVERDUE (R147). -/
def Branch.transferLate (b : Branch) (late : Bool) : Branch :=
  if late then { b with causes := b.causes.with .transferOverdue } else b

/-- The branch after the three day effects that reach it. They touch different state (R158). -/
def Branch.dayEffect (s : State) (slot : Nat) (b : Branch) : Branch :=
  b.dayCounted.countDropped.transferLate (originOverdue s slot)

/-- Whether the day effects set a cause on a branch. -/
def branchDayRaises (s : State) (slot : Nat) (b : Branch) : Bool :=
  b.cycleEnds || b.counting || originOverdue s slot

/-! ## CLOSE DAY -/

/-- The cycle number a daily limit of a meter slot is stamped with: the branch's, as it stands before or after the Branch Table's
day effect, which the manual applies in no order against the Account Table's (R158; log 8). -/
def limitCycle (s : State) (slot : Nat) (m : Meter) : Byte :=
  match s.branch? m.branch with
  | none => 0
  | some b => if Config.limitSeesOldCycle s.choices slot then b.cycle else b.dayCounted.cycle

/-- Whether a day advance sets a cause anywhere. -/
def dayRaises (s : State) : Bool :=
  s.record.meters.any (fun e => meterDayRaises s e.2) || s.record.branches.any (fun e => branchDayRaises s e.1 e.2)

/-- A taken CLOSE DAY: the day, then the four day effects (R158). -/
def dayAdvance (s : State) : State :=
  let s' :=
    { s with
      choices := s.choices + 1
      record.day := s.record.day + 1
      record.meters := Table.mapRecords (fun slot m => m.dayEffect s (limitCycle s slot m)) s.record.meters
      record.branches := Table.mapRecords (fun slot b => b.dayEffect s slot) s.record.branches
      record.transfers := s.record.transfers.map (Transfer.aged s.inForce.overdueDays) }
  if dayRaises s then raiseAttention s' else s'

/-- CLOSE DAY (R158). -/
def closeDay (s : State) : State × Reply :=
  if !serves s.record.mode then (s, refuse .wrongMode)
  else (dayAdvance s, done (.day (s.record.day + 1)))

/-! ## Start-up (R161, R162) -/

/-- Step 1: the rings, the indices, the ring fault and the marks; the enables are off until step 5, and the fallen-back set starts
empty. -/
def forgetRings (s : State) : State :=
  { s with
    requestRing := []
    resultRing := []
    requestProducer := 0
    requestConsumer := 0
    resultProducer := 0
    resultConsumer := 0
    ringFault := false
    resultMark := false
    attentionMark := false
    inForce := { s.inForce with resultEnable := false, attentionEnable := false }
    fallenBack := [] }

/-- Whether a start-up finds retention lost (R162). -/
def findsLost (kind : StartKind) (s : State) : Bool :=
  match kind with
  | .powerOn => !s.record.retentionMarker
  | .pcieReset | .restart => false

/-- Record memory after retention was found lost: the state CLEAR TABLES leaves, but for the mode and the device causes, which
the backup-loss policy decides (R162). SETTINGS_FAULT is set again where step 2 let a field fall back. -/
def lostRecord (s : State) : RecordMemory :=
  match s.inForce.backupLoss with
  | .fatal => { mode := .locked, deviceCauses := { settingsFault := !s.fallenBack.isEmpty } }
  | .clear => { mode := .setup, deviceCauses := { settingsFault := !s.fallenBack.isEmpty, backupLost := true } }

/-- The mode a start-up gives where retention was not lost (R161 step 4). -/
def startedMode (s : State) : Mode :=
  match s.inForce.startMode with
  | .setup => .setup
  | .service => .service
  | .resume => s.record.mode

/-- Steps 3 and 4: the retention check and the mode. -/
def checkRetention (lost : Bool) (s : State) : State :=
  if lost then { s with record := lostRecord s } else s.withMode (startedMode s)

/-- The retention outcome a start-up records (R161). DEDUCED (log 48): it is that of the last start-up, so a RESTART or a PCI Express reset
leaves none, also where an earlier power-on had one. -/
def retentionOutcome (kind : StartKind) (lost : Bool) : Option Retention :=
  match kind with
  | .powerOn => some (if lost then .lost else .kept)
  | .pcieReset | .restart => none

/-- Whether a device cause was set at steps 2 to 5: a field fell back, or BACKUP_LOST was set (R161). -/
def startRaises (lost : Bool) (s : State) : Bool :=
  !s.fallenBack.isEmpty || (lost && decide (s.inForce.backupLoss = .clear))

/-- Steps 1 to 5. -/
def startSettings (lost : Bool) (s : State) : State :=
  let s5 :=
    applyFields (serviceEntryClass ++ immediateClass) (checkRetention lost (applyFields restartClass (forgetRings s)))
  if startRaises lost s5 then raiseAttention s5 else s5

/-- A record whose grant out has its whole load window again (R67). -/
def Meter.renewed (timeout : Nat) (m : Meter) : Meter :=
  { m with grantOut := m.grantOut.map (fun g => { g with remaining := timeout }) }

/-- Step 6: the timers of the grants out (R67). -/
def renewTimers (s : State) : State :=
  { s with record.meters := Table.mapRecords (fun _ m => m.renewed s.inForce.loadTimeout) s.record.meters }

/-- A start-up: the seven steps of R161. -/
def startUp (kind : StartKind) (s : State) : State :=
  let lost := findsLost kind s
  let s' := (serveQueue (renewTimers (startSettings lost s))).state
  { s' with lastStart := kind, retention := retentionOutcome kind lost }

/-- The host's sending of a RESTART. While the ring fault is set and the Request Ring is not empty by its indices, the host writes it
into the slot named by the request consumer and leaves the indices as they stand (R169; log 5). -/
def sendRestart (tag : Half) (s : State) : State :=
  if s.ringFault ∧ 0 < requestsInUse s then
    { s with requestRing := Table.put s.requestRing (s.requestConsumer.toNat % Config.ringSlots) (.record (.restart tag)) }
  else send (.restart tag) s

/-- Whether a RESTART that stands in the slot named by the request consumer is taken: under the ring fault wherever the Request Ring
is not empty (R169), otherwise where its result finds a free slot (R168). -/
def takesRestart (s : State) : Bool :=
  decide (0 < requestsInUse s) && isRestart (firstRequest s) && (s.ringFault || decide (1 ≤ resultsFree s))

/-- The result of RESTART (R161). -/
def restartReply (s : State) : Reply :=
  done (.started s.record.mode s.fallenBack)

/-- A RESTART that is taken: the start-up, then its result as the first record of the emptied Result Ring (R161, R168). -/
def restarted (tag : Half) (s : State) : State :=
  let s' := startUp .restart s
  postResult 0x14 tag (restartReply s') s'

/-- The board's taking of a RESTART that stands in the slot named by the request consumer, with its own tag (R168, R169). -/
def takeRestart (s : State) : State :=
  match firstRequest s with
  | .restart tag => if takesRestart s then restarted tag s else s
  | _ => s

/-! ## CLEAR TABLES, READ STATUS -/

/-- CLEAR TABLES (R163). -/
def clearTables (s : State) : State × Reply :=
  if !clears s.record.mode then (s, refuse .wrongMode)
  else ({ s with record := {} }, done (.cleared s.record.mode))

/-- The report of READ STATUS (R165). -/
def statusOf (s : State) : StatusOutcome where
  mode := s.record.mode
  day := s.record.day
  inForce := s.inForce
  fallenBack := s.fallenBack
  lastStart := s.lastStart
  retention := s.retention
  causes := s.record.deviceCauses
  queued := s.record.queue.length
  depth := depthOf s
  ringFault := s.ringFault
  requestProducer := s.requestProducer
  requestConsumer := s.requestConsumer
  resultProducer := s.resultProducer
  resultConsumer := s.resultConsumer

/-- READ STATUS (R165). -/
def readStatus (s : State) : State × Reply :=
  (s, done (.status (statusOf s)))

/-- READ STATUS of a record that is being sent: the indices it reports are those with the record in the ring (R165; log 20). -/
def readStatusSent (tag : Half) (s : State) : State × Reply :=
  (s, (readStatus (send (.readStatus tag) s)).2)

/-! ## The commands -/

/-- The command READ_STATUS. -/
def execReadStatus (tag : Half) (s : State) : Answer :=
  .next (request (.readStatus tag) (readStatusSent tag) s)

/-- The command SET_MODE. -/
def execSetMode (tag : Half) (target : Coded Mode) (s : State) : Answer :=
  .next (request (.setMode tag target) (setMode target) s)

/-- The command CLOSE_DAY. -/
def execCloseDay (tag : Half) (s : State) : Answer :=
  .next (request (.closeDay tag) closeDay s)

/-- The command RESTART (R161, R168, R169): the host sends it, and it is taken where no record stands before it, or under the ring
fault from the slot named by the request consumer. -/
def execRestart (tag : Half) (s : State) : Answer :=
  .next (if s.powered then
    let sent := sendRestart tag s
    if requestsInUse s = 0 ∨ sent.ringFault then takeRestart sent else sent
  else s)

/-- The command CLEAR_TABLES. -/
def execClearTables (tag : Half) (s : State) : Answer :=
  .next (request (.clearTables tag) clearTables s)

/-- POWER_ON: the power-on start-up (R161, R162). Messages may not be sent until the host allows them (R170). -/
def execPowerOn (s : State) : Answer :=
  .next (startUp .powerOn { s with powered := true, msiPermitted := false })

/-- PCIE_RESET: a start-up that leaves record memory powered (R161). Messages may not be sent until the host allows them (R170). -/
def execPcieReset (s : State) : Answer :=
  .next (if s.powered then startUp .pcieReset { s with msiPermitted := false } else s)

/-- POWER_LOSS: the board stops, and the backup cell holds record memory as it stands (R162). -/
def execPowerLoss (s : State) : Answer :=
  .next { s with powered := false }

/-- BACKUP_CELL_FAILURE: while the server is without power, record memory and its retention marker are lost (R162). What the lost
memory holds until the next power-on clears it, nothing reads (log 16). -/
def execBackupCellFailure (s : State) : Answer :=
  .next (if s.powered then s else { s with record := { retentionMarker := false } })

end Sys2Proof.Machine
end

