-- ==== Sys2Proof/Machine/Attention.lean ====
section
/-!
DEFINITION. Attention as the Request Interface gives it: the 641 subjects (10.4), READ ATTENTION (R171) and TAKE ATTENTION (R172).
-/

namespace Sys2Proof.Machine

/-- Every subject with its cause set, in rising subject number (10.4). -/
def subjects (s : State) : List (Nat × Half) :=
  s.record.meters.map (fun e => (e.1, meterBits e.2.causes))
    ++ s.record.branches.map (fun e => (Config.branchSubject + e.1, branchBits e.2.causes))
    ++ [(Config.deviceSubject, deviceBits s.record.deviceCauses)]

/-- The subjects from a start position on whose cause sets are not empty (R171). -/
def raisedFrom (s : State) (start : Nat) : List (Nat × Half) :=
  (subjects s).filter (fun e => decide (start ≤ e.1) && decide (e.2 ≠ 0))

/-- The next position: after the last subject returned where 24 were returned and another one follows, else 641 (R171). -/
def nextPosition (l : List (Nat × Half)) : Nat :=
  if l.length ≤ Config.attentionPage then Config.passEnd
  else
    match (l.take Config.attentionPage).getLast? with
    | none => Config.passEnd
    | some e => e.1 + 1

/-- READ ATTENTION (R171). -/
def readAttention (start : Nat) (s : State) : State × Reply :=
  if !unlocked s.record.mode then (s, refuse .wrongMode)
  else if Config.deviceSubject < start then (s, refuse .badValue)
  else
    let l := raisedFrom s start
    (s, done (.attention (l.take Config.attentionPage) (nextPosition l)))

/-- TAKE ATTENTION of a meter (R172). -/
def takeFromMeter (slot : Nat) (causes : Half) (s : State) : State × Reply :=
  if !meterSlotOk slot || decide (256 ≤ causes.toNat) then (s, refuse .badValue)
  else
    match s.meter? slot with
    | none => (s, refuse .unknownMeter)
    | some m =>
      let left := meterCausesLess m.causes causes
      (s.putMeter slot { m with causes := left }, done (.causesLeft (meterBits left)))

/-- TAKE ATTENTION of a branch (R123, R172). -/
def takeFromBranch (slot : Nat) (causes : Half) (s : State) : State × Reply :=
  if !branchSlotOk slot || decide (64 ≤ causes.toNat) then (s, refuse .badValue)
  else
    match s.branch? slot with
    | none => (s, refuse .unknownBranch)
    | some b =>
      let left := branchCausesLess b.causes causes
      (s.putBranch slot { b with causes := left }, done (.causesLeft (branchBits left)))

/-- TAKE ATTENTION of the device (R172). -/
def takeFromDevice (slot : Nat) (causes : Half) (s : State) : State × Reply :=
  if decide (slot ≠ 0) || decide (16 ≤ causes.toNat) then (s, refuse .badValue)
  else
    let left := deviceCausesLess s.record.deviceCauses causes
    ({ s with record.deviceCauses := left }, done (.causesLeft (deviceBits left)))

/-- TAKE ATTENTION (R172). -/
def takeAttention (subject slot : Nat) (causes : Half) (s : State) : State × Reply :=
  if !unlocked s.record.mode then (s, refuse .wrongMode)
  else
    match subject with
    | 0 => takeFromMeter slot causes s
    | 1 => takeFromBranch slot causes s
    | 2 => takeFromDevice slot causes s
    | _ => (s, refuse .badValue)

/-! ## The commands -/

/-- The command READ_ATTENTION. -/
def execReadAttention (tag : Half) (start : Nat) (s : State) : Answer :=
  .next (request (.readAttention tag start) (readAttention start) s)

/-- The command TAKE_ATTENTION. -/
def execTakeAttention (tag : Half) (subject slot : Nat) (causes : Half) (s : State) : Answer :=
  .next (request (.takeAttention tag subject slot causes) (takeAttention subject slot causes) s)

end Sys2Proof.Machine
end

