-- ==== Sys2Proof/Machine/Window.lean ====
section
/-!
DEFINITION. The board's memory window as the host reaches it (R167): reads of the head words and of both rings, and the writes that have
no row of their own, of which those into the Request Ring are stored.
-/

namespace Sys2Proof.Machine

/-! ## Reads -/

/-- The word of an index (R167). -/
def indexWord (i : Byte) : Word :=
  i.setWidth 32

/-- The request consumer word, whose bit 31 shows the ring fault (R167, R169). -/
def requestConsumerWord (s : State) : Word :=
  indexWord s.requestConsumer ||| (if s.ringFault then 0x80000000 else 0)

/-- The interrupt-enable word: the two enables in force (R167). -/
def enableWord (s : State) : Word :=
  (if s.inForce.resultEnable then 1 else 0) ||| (if s.inForce.attentionEnable then 2 else 0)

/-- What a 32-bit aligned read of a head word gives (R167). -/
def headWord (s : State) (offset : Nat) : Word :=
  match offset with
  | 0x00 => indexWord s.requestProducer
  | 0x04 => requestConsumerWord s
  | 0x08 => indexWord s.resultProducer
  | 0x0C => indexWord s.resultConsumer
  | 0x10 => enableWord s
  | _ => 0

/-- The byte at an offset of the Request Ring (R167). -/
def requestByte (ring : Table RequestSlot) (offset : Nat) : Byte :=
  (slotBytes (Table.find ring (offset / Config.slotBytes)))[offset % Config.slotBytes]?.getD 0

/-- The byte at an offset of the Result Ring (R167). -/
def resultByte (ring : Table ResultSlot) (offset : Nat) : Byte :=
  (resultSlotBytes (Table.find ring (offset / Config.slotBytes)))[offset % Config.slotBytes]?.getD 0

/-- The byte a read of other than a head word finds at an offset: the rings' bytes, and 0 elsewhere (R167). -/
def windowByte (s : State) (offset : Nat) : Byte :=
  if 0x1000 ≤ offset ∧ offset < 0x2000 then requestByte s.requestRing (offset - 0x1000)
  else if 0x2000 ≤ offset ∧ offset < 0x3000 then resultByte s.resultRing (offset - 0x2000)
  else 0

/-- What a read of so many bytes of the window gives. A head word is read 32 bits wide and aligned; reads of other widths there give
0, and the ring slots are read at any width (R167). DEDUCED (log 49): a 32-bit read there that is not aligned gives 0 too, and of a read
that reaches over a ring's bound every byte is that of its own place, 0 outside the rings. -/
def windowRead (s : State) (offset width : Nat) : Nat :=
  if width = 4 ∧ offset % 4 = 0 ∧ offset < 0x14 then (headWord s offset).toNat
  else leValue ((List.range width).map (fun i => windowByte s (offset + i)))

/-! ## Writes -/

/-- IGNORED_WINDOW_WRITE: a write that has no behaviour is ignored; the bytes of one that lie in the Request Ring are stored (R167;
log 41). -/
def execIgnoredWindowWrite (offset width value : Nat) (s : State) : Answer :=
  .next (if s.powered then { s with requestRing := storeBytes s.requestRing offset (leBytes width value) } else s)

end Sys2Proof.Machine
end

