-- ==== Sys2Proof/Machine/Requests.lean ====
section
/-!
DEFINITION. The block that owns each request, and the board's own taking of the record that stands first in its Request Ring (R168, R169).
-/

namespace Sys2Proof.Machine

/-- The answer of the block that owns a request: the state with its changes, and its status and outcome (R168 step 2, R173). A
record that fails the header check reaches no block and is answered BAD_REQUEST; a RESTART makes a start-up (`takeFirst`), and no
other command is a request. -/
def blockOf : Instr → State → State × Reply
  | .readStatus _ => readStatus
  | .readAttention _ start => readAttention start
  | .takeAttention _ subject slot causes => takeAttention subject slot causes
  | .setMode _ target => setMode target
  | .closeDay _ => closeDay
  | .writeSettings _ patch => writeSettings patch
  | .readSettings _ => readSettings
  | .clearTables _ => clearTables
  | .enrolMeter _ fields => enrolMeter fields
  | .setMeter _ slot changes => setMeter slot changes
  | .reassignMeter _ slot branch => reassignMeter slot branch
  | .closeMeter _ slot => closeMeter slot
  | .retireMeter _ slot => retireMeter slot
  | .readMeter _ slot take => readMeter slot take
  | .meterReport _ slot sequence ascending descending => meterReport slot sequence ascending descending
  | .resolveMeter _ slot ascending descending => resolveMeter slot ascending descending
  | .refillRequest _ slot amount => grantRequest .refill slot amount
  | .limitRequest _ slot amount => grantRequest .limit slot amount
  | .loadConfirm _ slot number total => loadConfirm slot number total
  | .cancelGrant _ slot number => cancelGrant slot number
  | .cancelQueued _ slot => cancelQueued slot
  | .readQueue _ start => readQueue start
  | .deposit _ amount => deposit amount
  | .refund _ amount => refund amount
  | .readPosition _ => readPosition
  | .openBranch _ code => openBranch code
  | .setBranch _ slot changes => setBranch slot changes
  | .closeBranch _ slot => closeBranch slot
  | .cycleStart _ slot actionKnown => cycleControl startAction actionKnown slot
  | .cycleStop _ slot => cycleControl stopAction true slot
  | .cyclePause _ slot => cycleControl pauseAction true slot
  | .cycleResume _ slot => cycleControl resumeAction true slot
  | .readBranch _ slot take => readBranch slot take
  | .defineDenomination _ face => defineDenomination face
  | .withdrawDenomination _ slot => withdrawDenomination slot
  | .retireDenomination _ slot => retireDenomination slot
  | .readDenominations _ => readDenominations
  | .purchaseStock _ branch denomination count => purchaseStock branch denomination count
  | .issueStock _ branch denomination count => issueStock branch denomination count
  | .writeOffStock _ branch denomination count => writeOffStock branch denomination count
  | .surrenderStock _ branch denomination count => surrenderStock branch denomination count
  | .dispatch _ origin destination denomination count => dispatch origin destination denomination count
  | .receive _ number count => receive number count
  | .cancelTransfer _ number => cancelTransfer number
  | .readTransfers _ start => readTransfers start
  | .beginCount _ branch => beginCount branch
  | .enterCount _ branch denomination figure => enterCount branch denomination figure
  | .closeCount _ branch => closeCount branch
  | .abandonCount _ branch => abandonCount branch
  | .readCount _ branch => readCount branch
  | .restart _ | .requestProducerIndexWrite _ | .resultConsumerIndexWrite _ | .interruptEnableWordWrite _ |
  .ignoredWindowWrite _ _ _ | .powerOn | .pcieReset | .loadSecondsTick | .loadTimerExpiry _ | .msiPermissionChange _ |
  .msiWrite | .powerLoss | .backupCellFailure => fun s => (s, refuse .badRequest)
  | .badRequest _ _ _ _ => badRequestBlock

/-- The answer of the owning block to a request that is being sent. It is `blockOf` on the state before the record is in the ring, but
for READ STATUS, whose indices include it. -/
def sentBlock (c : Instr) (s : State) : State × Reply :=
  match c with
  | .readStatus tag => readStatusSent tag s
  | c => blockOf c s

/-- The board's own taking of the record in the slot named by the request consumer: where the Request Ring holds one by its indices,
the ring fault is clear and the result fits, its block answers and the result is posted (R168); a RESTART is taken under the ring
fault too (R169). Otherwise nothing happens. -/
def takeFirst (s : State) : State :=
  if s.powered ∧ 0 < requestsInUse s then
    match firstRequest s with
    | .restart tag => if takesRestart s then restarted tag s else s
    | c =>
      match header c with
      | none => s
      | some (kind, tag) => if takes kind (blockOf c s).2 s then post kind tag (blockOf c s).2 (blockOf c s).1 else s
  else s

end Sys2Proof.Machine
end

