-- ==== Sys2Proof/Machine/Dispatch.lean ====
section
/-! DEFINITION. What each command does: one arm per command of the table, each a call of the command's own meaning. -/

namespace Sys2Proof.Machine

def exec (i : Instr) (s : State) : Host.Outcome State Fault Refusal :=
  match i with
  | .readStatus tag => Sys2Proof.Machine.execReadStatus tag s
  | .readAttention tag start => Sys2Proof.Machine.execReadAttention tag start s
  | .takeAttention tag subject slot causes => Sys2Proof.Machine.execTakeAttention tag subject slot causes s
  | .setMode tag target => Sys2Proof.Machine.execSetMode tag target s
  | .closeDay tag => Sys2Proof.Machine.execCloseDay tag s
  | .writeSettings tag patch => Sys2Proof.Machine.execWriteSettings tag patch s
  | .readSettings tag => Sys2Proof.Machine.execReadSettings tag s
  | .restart tag => Sys2Proof.Machine.execRestart tag s
  | .clearTables tag => Sys2Proof.Machine.execClearTables tag s
  | .enrolMeter tag fields => Sys2Proof.Machine.execEnrolMeter tag fields s
  | .setMeter tag slot changes => Sys2Proof.Machine.execSetMeter tag slot changes s
  | .reassignMeter tag slot branch => Sys2Proof.Machine.execReassignMeter tag slot branch s
  | .closeMeter tag slot => Sys2Proof.Machine.execCloseMeter tag slot s
  | .retireMeter tag slot => Sys2Proof.Machine.execRetireMeter tag slot s
  | .readMeter tag slot take => Sys2Proof.Machine.execReadMeter tag slot take s
  | .meterReport tag slot sequence ascending descending => Sys2Proof.Machine.execMeterReport tag slot sequence ascending descending s
  | .resolveMeter tag slot ascending descending => Sys2Proof.Machine.execResolveMeter tag slot ascending descending s
  | .refillRequest tag slot amount => Sys2Proof.Machine.execRefillRequest tag slot amount s
  | .limitRequest tag slot amount => Sys2Proof.Machine.execLimitRequest tag slot amount s
  | .loadConfirm tag slot number total => Sys2Proof.Machine.execLoadConfirm tag slot number total s
  | .cancelGrant tag slot number => Sys2Proof.Machine.execCancelGrant tag slot number s
  | .cancelQueued tag slot => Sys2Proof.Machine.execCancelQueued tag slot s
  | .readQueue tag start => Sys2Proof.Machine.execReadQueue tag start s
  | .deposit tag amount => Sys2Proof.Machine.execDeposit tag amount s
  | .refund tag amount => Sys2Proof.Machine.execRefund tag amount s
  | .readPosition tag => Sys2Proof.Machine.execReadPosition tag s
  | .openBranch tag code => Sys2Proof.Machine.execOpenBranch tag code s
  | .setBranch tag slot changes => Sys2Proof.Machine.execSetBranch tag slot changes s
  | .closeBranch tag slot => Sys2Proof.Machine.execCloseBranch tag slot s
  | .cycleStart tag slot actionKnown => Sys2Proof.Machine.execCycleStart tag slot actionKnown s
  | .cycleStop tag slot => Sys2Proof.Machine.execCycleStop tag slot s
  | .cyclePause tag slot => Sys2Proof.Machine.execCyclePause tag slot s
  | .cycleResume tag slot => Sys2Proof.Machine.execCycleResume tag slot s
  | .readBranch tag slot take => Sys2Proof.Machine.execReadBranch tag slot take s
  | .defineDenomination tag face => Sys2Proof.Machine.execDefineDenomination tag face s
  | .withdrawDenomination tag slot => Sys2Proof.Machine.execWithdrawDenomination tag slot s
  | .retireDenomination tag slot => Sys2Proof.Machine.execRetireDenomination tag slot s
  | .readDenominations tag => Sys2Proof.Machine.execReadDenominations tag s
  | .purchaseStock tag branch denomination count => Sys2Proof.Machine.execPurchaseStock tag branch denomination count s
  | .issueStock tag branch denomination count => Sys2Proof.Machine.execIssueStock tag branch denomination count s
  | .writeOffStock tag branch denomination count => Sys2Proof.Machine.execWriteOffStock tag branch denomination count s
  | .surrenderStock tag branch denomination count => Sys2Proof.Machine.execSurrenderStock tag branch denomination count s
  | .dispatch tag origin destination denomination count => Sys2Proof.Machine.execDispatch tag origin destination denomination count s
  | .receive tag number count => Sys2Proof.Machine.execReceive tag number count s
  | .cancelTransfer tag number => Sys2Proof.Machine.execCancelTransfer tag number s
  | .readTransfers tag start => Sys2Proof.Machine.execReadTransfers tag start s
  | .beginCount tag branch => Sys2Proof.Machine.execBeginCount tag branch s
  | .enterCount tag branch denomination figure => Sys2Proof.Machine.execEnterCount tag branch denomination figure s
  | .closeCount tag branch => Sys2Proof.Machine.execCloseCount tag branch s
  | .abandonCount tag branch => Sys2Proof.Machine.execAbandonCount tag branch s
  | .readCount tag branch => Sys2Proof.Machine.execReadCount tag branch s
  | .badRequest tag kind length reservedSet => Sys2Proof.Machine.execBadRequest tag kind length reservedSet s
  | .requestProducerIndexWrite value => Sys2Proof.Machine.execRequestProducerIndexWrite value s
  | .resultConsumerIndexWrite value => Sys2Proof.Machine.execResultConsumerIndexWrite value s
  | .interruptEnableWordWrite value => Sys2Proof.Machine.execInterruptEnableWordWrite value s
  | .ignoredWindowWrite offset width value => Sys2Proof.Machine.execIgnoredWindowWrite offset width value s
  | .powerOn => Sys2Proof.Machine.execPowerOn s
  | .pcieReset => Sys2Proof.Machine.execPcieReset s
  | .loadSecondsTick => Sys2Proof.Machine.execLoadSecondsTick s
  | .loadTimerExpiry slot => Sys2Proof.Machine.execLoadTimerExpiry slot s
  | .msiPermissionChange allowed => Sys2Proof.Machine.execMsiPermissionChange allowed s
  | .msiWrite => Sys2Proof.Machine.execMsiWrite s
  | .powerLoss => Sys2Proof.Machine.execPowerLoss s
  | .backupCellFailure => Sys2Proof.Machine.execBackupCellFailure s

end Sys2Proof.Machine
end

