-- ==== Sys2Proof/Safety.lean ====
section
/-!
DEFINITION. What counts as a sound state: the canonical form of the tables, and the laws the manual says hold at every moment (R3, R8,
R64, R80, R95, R102, R108, R113, R129, R131, R132, R142, R149, R167). Claims use these names.
-/

namespace Sys2Proof.Machine

/-! ## The canonical form of the tables -/

/-- A count latch is in canonical form. -/
abbrev CountLatch.Canonical (l : CountLatch) : Prop :=
  Figures.Canonical l.latched ∧ Table.Sorted l.counted

/-- The figures of a branch are in canonical form. -/
abbrev Branch.Canonical (b : Branch) : Prop :=
  Figures.Canonical b.onHand ∧ Figures.Canonical b.levels ∧ ∀ l ∈ b.latch, l.Canonical

/-- A slot of the Request Ring is in canonical form: 128 bytes where it is held as bytes, and not all of them 0. -/
def RequestSlot.canonical : RequestSlot → Bool
  | .record _ => true
  | .raw l => decide (l.length = Config.slotBytes ∧ l ≠ padded [])

/-- Every table of the state is in canonical form: slots strictly rising, no figure of 0 listed, and the rings' slots among their 32. -/
abbrev TablesCanonical (s : State) : Prop :=
  Table.Sorted s.record.meters ∧ Table.Sorted s.record.branches ∧ Table.Sorted s.record.denominations
    ∧ Table.Sorted s.requestRing ∧ (∀ e ∈ s.requestRing, e.1 < Config.ringSlots ∧ e.2.canonical)
    ∧ Table.Sorted s.resultRing ∧ (∀ e ∈ s.resultRing, e.1 < Config.ringSlots) ∧ ∀ e ∈ s.record.branches, e.2.Canonical

/-! ## The laws of the records -/

/-- R102: at most one of P and V is above 0. -/
abbrev PoolLaw (s : State) : Prop :=
  s.record.pool.balance = 0 ∨ s.record.pool.arrears = 0

/-- R3: the loaded total of every meter is its last ascending register plus its credit. -/
abbrev LoadedLaw (s : State) : Prop :=
  ∀ e ∈ s.record.meters, e.2.loaded = e.2.ascending + e.2.credit

/-- R8: licence numbers are unique among non-empty meter records. -/
abbrev LicenceLaw (s : State) : Prop :=
  (s.record.meters.map (·.2.licence)).Nodup

/-- R8: every non-empty meter record names a branch that is not EMPTY. -/
abbrev MeterBranchLaw (s : State) : Prop :=
  ∀ e ∈ s.record.meters, (s.branch? e.2.branch).isSome

/-- R113: branch codes are unique among non-empty branch records. -/
abbrev BranchCodeLaw (s : State) : Prop :=
  (s.record.branches.map (·.2.code)).Nodup

/-- R64: the reserved total is the sum of the amounts of all REFILL grants out. -/
abbrev ReservedLaw (s : State) : Prop :=
  s.record.pool.reserved = Table.sum (fun _ m => refillOut m) s.record.meters

/-- R80, R94: at most 32 entries, at most one of a meter, each of a PREPAID meter with no grant out. -/
abbrev QueueLaw (s : State) : Prop :=
  s.record.queue.length ≤ Config.queuePlaces ∧ (s.record.queue.map (·.slot)).Nodup
    ∧ ∀ e ∈ s.record.queue, ∃ m ∈ s.meter? e.slot, m.grantOut = none ∧ m.kind = .prepaid

/-- R62, R10: a grant out, and a last voided grant, of a PREPAID meter is a REFILL and one of a POSTPAID meter a LIMIT. -/
abbrev GrantKindLaw (s : State) : Prop :=
  ∀ e ∈ s.record.meters,
    (∀ g ∈ e.2.grantOut, e.2.kind = kindFor g.kind) ∧ ∀ v ∈ e.2.lastVoided, e.2.kind = kindFor v.kind

/-- R40: a closing meter has no grant out. -/
abbrev ClosingLaw (s : State) : Prop :=
  ∀ e ∈ s.record.meters, e.2.state = .closing → e.2.grantOut = none

/-- R149: while a branch is COUNTING its on-hand counts are the latched figures. -/
abbrev CountLaw (s : State) : Prop :=
  ∀ e ∈ s.record.branches, ∀ l ∈ e.2.latch, l.latched = e.2.onHand

/-- R129: an EMPTY denomination slot holds no stock, is named by no transfer and has no counted figure. -/
abbrev EmptySlotLaw (s : State) : Prop :=
  (∀ e ∈ s.record.branches, ∀ f ∈ e.2.onHand, (s.denomination? f.1).isSome)
    ∧ (∀ t ∈ s.record.transfers, (s.denomination? t.denomination).isSome)
    ∧ ∀ e ∈ s.record.branches, ∀ l ∈ e.2.latch, ∀ f ∈ l.counted, (s.denomination? f.1).isSome

/-- R142, R143: at most 64 transfers, their numbers distinct and from 1 to 65,535, between two different non-empty branches. -/
abbrev TransferLaw (s : State) : Prop :=
  s.record.transfers.length ≤ Config.transferPlaces ∧ (s.record.transfers.map (·.number)).Nodup
    ∧ (∀ t ∈ s.record.transfers,
        numberOk t.number ∧ t.origin ≠ t.destination ∧ (s.branch? t.origin).isSome ∧ (s.branch? t.destination).isSome)
    ∧ numberOk s.record.nextTransfer

/-- R132: the stock value stays within 0 to 2^47 - 1. -/
abbrev StockValueLaw (s : State) : Prop :=
  stockValue s ≤ Config.totalMax

/-- R108: the two sides of the funds identity are equal. -/
abbrev FundsIdentity (s : State) : Prop :=
  leftSide s = rightSide s

/-- R95, R96: the figures of the pool, and the committed funds, are within their ranges. -/
abbrev FundsInRange (s : State) : Prop :=
  committedFunds s ≤ Config.totalMax ∧ s.record.pool.arrears ≤ Config.totalMax
    ∧ s.record.pool.deposits ≤ Config.totalMax ∧ s.record.pool.franked ≤ Config.totalMax
    ∧ s.record.pool.issued ≤ Config.totalMax ∧ signedTotalOk s.record.pool.writtenOff

/-- The settings in force are within their ranges (R160). -/
abbrev SettingsInRange (s : State) : Prop :=
  s.inForce.refillStep ∈ [1, 10, 100, 1000, 10000] ∧ within 10 600 s.inForce.loadTimeout
    ∧ within 1 30 s.inForce.overdueDays ∧ within 0 8 s.inForce.margin ∧ within 1 60 s.inForce.reportInterval

/-- A pending mark stands only while its enable in force is on (R170). -/
abbrev MarksLaw (s : State) : Prop :=
  (s.resultMark → s.inForce.resultEnable) ∧ (s.attentionMark → s.inForce.attentionEnable)

/-- R167, R169: while the ring fault is clear neither ring has more than its 32 slots in use. -/
abbrev IndexLaw (s : State) : Prop :=
  s.ringFault = false → requestsInUse s ≤ Config.ringSlots ∧ resultsInUse s ≤ Config.ringSlots

/-! ## Ranges of the records -/

/-- The figures of a meter record are within the ranges of R1. -/
abbrev Meter.InRange (m : Meter) : Prop :=
  licenceOk m.licence ∧ branchSlotOk m.branch ∧ registerOk m.standing ∧ ceilingOk m.ceiling ∧ markCodeOk m.markCode
    ∧ within 1 60 m.interval ∧ m.daysSince ≤ Config.ageMax ∧ registerOk m.credit ∧ ascendingOk m.ascending
    ∧ numberOk m.nextGrant ∧ m.refused ≤ Config.counterMax ∧ m.stale ≤ Config.counterMax
    ∧ m.mismatches ≤ Config.counterMax ∧ m.missed ≤ Config.counterMax ∧ m.voids ≤ Config.counterMax

/-- Every listed figure is of one of the 16 denomination slots and at most 9,999,999 stamps (R111, R131, R149). -/
abbrev StampsInRange (f : Table Nat) : Prop :=
  ∀ e ∈ f, denominationSlotOk e.1 ∧ figureOk e.2

/-- The figures of a branch record are within the ranges of R111, R131 and R149. -/
abbrev Branch.InRange (b : Branch) : Prop :=
  within 1 Config.branchCodeMax b.code ∧ b.cycleLength ≤ 255 ∧ b.allowance ≤ Config.allowanceMax
    ∧ b.dayCount ≤ Config.ageMax ∧ b.spent ≤ Config.totalMax ∧ signedTotalOk b.variance ∧ StampsInRange b.onHand
    ∧ StampsInRange b.levels ∧ ∀ l ∈ b.latch, StampsInRange l.latched ∧ StampsInRange l.counted

/-- Every record is in a slot of its table, with its figures within their ranges (R1, R80, R93, R111, R125, R131, R142). -/
abbrev RecordsInRange (s : State) : Prop :=
  (∀ e ∈ s.record.meters, meterSlotOk e.1 ∧ e.2.InRange) ∧ (∀ e ∈ s.record.branches, branchSlotOk e.1 ∧ e.2.InRange)
    ∧ (∀ e ∈ s.record.denominations, denominationSlotOk e.1 ∧ within 1 Config.faceMax e.2.face)
    ∧ (∀ e ∈ s.record.queue, meterSlotOk e.slot ∧ amountOk e.amount) ∧ s.record.queue.length ≤ s.record.queuePeak
    ∧ s.record.queuePeak ≤ Config.queuePlaces
    ∧ ∀ t ∈ s.record.transfers, denominationSlotOk t.denomination ∧ stampsOk t.count ∧ t.age ≤ Config.ageMax

/-! ## Groups of laws that a step keeps together -/

/-- The laws of the grants out: the reserved total, the queue, the kinds of the grants, and closing meters. -/
structure GrantsSound (s : State) : Prop where
  canonical : TablesCanonical s
  reserved : ReservedLaw s
  queue : QueueLaw s
  kinds : GrantKindLaw s
  closing : ClosingLaw s

/-- The laws of the stamps: open counts, EMPTY denomination slots and the transfers. -/
structure StockSound (s : State) : Prop where
  canonical : TablesCanonical s
  counts : CountLaw s
  emptySlots : EmptySlotLaw s
  transfers : TransferLaw s

/-- A sound state: every law of this file holds. -/
structure Sound (s : State) : Prop where
  canonical : TablesCanonical s
  pool : PoolLaw s
  loaded : LoadedLaw s
  licences : LicenceLaw s
  meterBranches : MeterBranchLaw s
  branchCodes : BranchCodeLaw s
  reserved : ReservedLaw s
  queue : QueueLaw s
  kinds : GrantKindLaw s
  closing : ClosingLaw s
  counts : CountLaw s
  emptySlots : EmptySlotLaw s
  transfers : TransferLaw s
  stockValues : StockValueLaw s
  identity : FundsIdentity s
  range : FundsInRange s
  records : RecordsInRange s
  settings : SettingsInRange s
  marks : MarksLaw s
  indices : IndexLaw s

/-! ## When a request is taken -/

/-- R168: a request whose result would be r is taken as soon as it is sent: the board is powered, no record stands before it, the
ring fault is clear, and the Result Ring has as many free slots as the result takes. -/
abbrev Taken (kind : Half) (r : Reply) (s : State) : Prop :=
  s.powered = true ∧ requestsInUse s = 0 ∧ s.ringFault = false ∧ slotsTaken kind r ≤ resultsFree s

/-- The request c, of a kind code and a tag, makes the change `out.1` and gets the result `out.2`: sent and taken in s, exec answers
the next state in which that change is made, the record stands in the ring and that result is posted. -/
abbrev Answers (c : Instr) (kind tag : Half) (s : State) (out : State × Reply) : Prop :=
  Taken kind out.2 s → exec c s = .next (post kind tag out.2 (send c out.1))

/-! ## What a start-up leaves -/

/-- The fields of the settings store whose stored value is out of range, in the order of R159's table. -/
def outOfRange (st : StoredSettings) : List SettingField :=
  allFields.filter (fun f => !inRange st f)

/-- Every setting in force taken from the store (R160). -/
def settledAll (st : StoredSettings) : Settings :=
  allFields.foldl (settle st) {}

/-- The board after steps 1 to 6 of R161 where record memory was kept. -/
def retainedStart (s : State) : State :=
  { s with
    record.mode := startedMode { s with inForce := settledAll s.stored }
    record.deviceCauses.settingsFault := s.record.deviceCauses.settingsFault || !(outOfRange s.stored).isEmpty
    record.meters := Table.mapRecords (fun _ m => m.renewed (settledAll s.stored).loadTimeout) s.record.meters
    inForce := settledAll s.stored
    fallenBack := outOfRange s.stored
    requestRing := []
    resultRing := []
    requestProducer := 0
    requestConsumer := 0
    resultProducer := 0
    resultConsumer := 0
    ringFault := false
    resultMark := false
    attentionMark := (settledAll s.stored).attentionEnable && !(outOfRange s.stored).isEmpty }

end Sys2Proof.Machine
end

