-- ==== Sys2Proof/Certificates/Slice0/Obligations.lean ====
section
/-!
DEFINITION. The statements for the provers, from the rules of the spec: each command, the rings and interrupts, the start-up, and the laws that
every step keeps.
-/

section

open Sys2Proof Sys2Proof.Machine

/-! ## The step, the rings and the interrupts -/

/-- A step runs the command at the front of its queue on the state with the queue's rest. -/
def Obligations.StepRunsFrontCommand : Prop :=
  ∀ (s : State) (c : Instr) (rest : List Instr), s.pending = c :: rest → step s = exec c { s with pending := rest }

/-- With no command waiting, the board takes the record in the slot named by the request consumer: where its block's result fits and the
ring fault is clear, the block's changes are made and the result is posted; a RESTART makes its start-up, under the ring fault too.
Otherwise, and with no power or an empty Request Ring, nothing happens (R168, R169; that this is a step of its own is log 3). A slot that
holds a request's record holds that request, one that holds raw bytes holds the request they spell (`LayoutsReadBack`), and one that nothing
has written is a BAD_REQUEST of tag and kind code 0 (log 4). That a RESTART drops the retention outcome of an earlier power-on is log 48. -/
def Obligations.EmptyQueueTakesOldestRecord : Prop :=
  ∀ s : State, s.pending = [] →
    (s.powered = false ∨ requestsInUse s = 0 → step s = .next s)
    ∧ (∀ (c : Instr) (kind tag : Half) (r : Reply), s.powered = true → 0 < requestsInUse s → firstRequest s = c →
        header c = some (kind, tag) → isRestart c = false → r = (blockOf c s).2 →
        step s = .next
          (if s.ringFault = false ∧ slotsTaken kind r ≤ resultsFree s then post kind tag r (blockOf c s).1 else s))
    ∧ (∀ tag : Half, s.powered = true → 0 < requestsInUse s → firstRequest s = .restart tag →
        (s.ringFault = true ∨ resultsInUse s < 32 → ∃ t : State,
          t = { (serveQueue (retainedStart s)).state with lastStart := .restart, retention := none }
          ∧ step s = .next (postResult 0x14 tag (done (.started t.record.mode t.fallenBack)) t))
        ∧ (s.ringFault = false → 32 ≤ resultsInUse s → step s = .next s))
    ∧ (∀ c : Instr, Table.find s.requestRing (s.requestConsumer.toNat % 32) = some (.record c) → firstRequest s = c)
    ∧ (Table.find s.requestRing (s.requestConsumer.toNat % 32) = none → firstRequest s = .badRequest 0 0 0 false)
    ∧ ∀ l : List Byte, Table.find s.requestRing (s.requestConsumer.toNat % 32) = some (.raw l) → firstRequest s = readBytes l

/-- R167, R168 for every request but RESTART, r being the reply of the block that owns it and t the changes of that block. The record is
written into the slot named by the request producer, which advances by one. Where no record stands before it, the ring fault is clear
and r fits, the changes are made, the result stands whole in the slots from the result producer on, the request consumer advances by
one and the result producer by the slots of the result, and the result mark is set where the enable, as the block leaves it, is on
(log 21). Otherwise the record waits in its slot, and the ring fault is set where more than 32 slots are then in use. That sending and
taking are one command is log 2. A result takes one slot for each 128 bytes, or part of them, of its header and outcome: an outcome of 0
bytes for the status alone (log 28), 24 for the grant result, 4 and 4 for each subject for READ ATTENTION's, 2 for TAKE ATTENTION's
(log 42). The block of a waiting record is that of the sent one, but that READ STATUS gives the indices as they stand (log 20). -/
def Obligations.RequestTakenOrWaits : Prop :=
  (∀ (c : Instr) (kind tag : Half) (s t : State) (r : Reply), c.wellFormed = true → header c = some (kind, tag) →
    isRestart c = false → s.powered = true → (t, r) = sentBlock c s →
    (requestsInUse s = 0 → s.ringFault = false → slotsTaken kind r ≤ resultsFree s → ∃ u : State, exec c s = .next u
      ∧ u =
        { t with
          requestRing := Table.put s.requestRing (s.requestProducer.toNat % 32) (.record c)
          requestProducer := s.requestProducer + 1
          requestConsumer := s.requestConsumer + 1
          resultRing := u.resultRing
          resultProducer := s.resultProducer + BitVec.ofNat 8 (slotsTaken kind r)
          resultConsumer := s.resultConsumer
          ringFault := false
          resultMark := t.resultMark || t.inForce.resultEnable }
      ∧ (∀ n < slotsTaken kind r, Table.find u.resultRing ((s.resultProducer.toNat + n) % 32) = some
          { result := { tag := tag, kind := kind, status := r.status, length := outcomeBytes kind r, outcome := r.outcome }
            part := n })
      ∧ ∀ j, (∀ n < slotsTaken kind r, j ≠ (s.resultProducer.toNat + n) % 32) →
          Table.find u.resultRing j = Table.find s.resultRing j)
    ∧ (¬(requestsInUse s = 0 ∧ s.ringFault = false ∧ slotsTaken kind r ≤ resultsFree s) → exec c s = .next
        { s with
          requestRing := Table.put s.requestRing (s.requestProducer.toNat % 32) (.record c)
          requestProducer := s.requestProducer + 1
          ringFault := s.ringFault || decide (32 < (s.requestProducer + 1 - s.requestConsumer).toNat) }))
  ∧ (∀ (kind : Half) (r : Reply), slotsTaken kind r = (8 + outcomeBytes kind r + 127) / 128
    ∧ (r.outcome = .none → outcomeBytes kind r = 0)
    ∧ (∀ number gk reason timeout slot amount expected, r.outcome = .grant number gk reason timeout slot amount expected →
        outcomeBytes kind r = 24)
    ∧ (∀ subjects next, r.outcome = .attention subjects next → outcomeBytes kind r = 4 + 4 * subjects.length)
    ∧ ∀ causes, r.outcome = .causesLeft causes → outcomeBytes kind r = 2)
  ∧ (∀ (c : Instr) (s : State), (∀ tag, c ≠ .readStatus tag) → sentBlock c s = blockOf c s)
  ∧ ∀ (tag : Half) (s : State), ∃ out : StatusOutcome, blockOf (.readStatus tag) s = (s, done (.status out))
    ∧ out.requestProducer = s.requestProducer ∧ out.ringFault = s.ringFault
    ∧ sentBlock (.readStatus tag) s = (s, done (.status
        { out with
          requestProducer := s.requestProducer + 1
          ringFault := s.ringFault || decide (32 < (s.requestProducer + 1 - s.requestConsumer).toNat) }))

/-- R168 step 1, R173: a record whose kind code is not in the table, whose length is not its kind's body length, or with a byte set that
must be zero, is answered BAD_REQUEST with its tag and kind code and an outcome length of 0, and changes nothing else. The second part is
R173's table of the kind codes and their body lengths. -/
def Obligations.BadRequestAnswered : Prop :=
  (∀ (tag kind length : Half) (reservedSet : Bool) (s : State),
    bodyLength kind ≠ some length.toNat ∨ reservedSet = true →
    Answers (.badRequest tag kind length reservedSet) kind tag s (s, refuse .badRequest)
    ∧ outcomeBytes kind (refuse .badRequest) = 0)
  ∧ ∀ (kind : Half) (n : Nat), bodyLength kind = some n ↔
    (kind.toNat, n) ∈
      [(0x01, 0), (0x02, 4), (0x03, 8), (0x10, 4), (0x11, 0), (0x12, 52), (0x13, 0), (0x14, 0), (0x15, 0),
        (0x20, 48), (0x21, 48), (0x22, 4), (0x23, 4), (0x24, 4), (0x25, 4), (0x30, 24), (0x31, 24),
        (0x40, 16), (0x41, 16), (0x42, 16), (0x43, 4), (0x50, 4), (0x51, 4), (0x60, 8), (0x61, 8),
        (0x62, 0), (0x70, 4), (0x71, 96), (0x72, 4), (0x73, 4), (0x74, 4), (0x80, 4), (0x81, 4), (0x82, 4),
        (0x83, 0), (0x84, 8), (0x85, 8), (0x86, 8), (0x87, 8), (0x90, 12), (0x91, 8), (0x92, 4), (0x93, 4),
        (0x94, 4), (0x95, 8), (0x96, 4), (0x97, 4), (0x98, 4)]

/-- R167, R169, R159, R170: the window. A 32-bit read of a head word gives the index in bits 0 to 7, or the two enables in force, bit 31 of
the request consumer word showing the ring fault; a read of another width there, and a read outside the head words and rings, gives 0; a
read of a ring gives its bytes, little-endian. A host write of an index stores bits 0 to 7, and sets the ring fault where more than 32 slots
would be in use. A write of the interrupt-enable word stores the two enables and puts them in force, posting no result and clearing the mark
of an enable it turns off; in FROZEN it is ignored. A write outside the Request Ring that has no row of its own changes nothing; of one that
lies in the Request Ring every byte is stored at its place and every other byte stays. A ring's byte a is that of its slot a / 128, and the
slots in use are the producer less the consumer, mod 256. Bits 2 to 31 of the enable word are the model's reading (log 38), and so is the 0
of a 32-bit read there that is not aligned (log 49); the count of choices drawn is the model's own (log 10), and IGNORED_WINDOW_WRITE stands
for every write without a row, whatever its offset (logs 29 and 41). -/
def Obligations.WindowReadsAndWrites : Prop :=
  ∀ s : State,
    (windowRead s 0x00 4 = s.requestProducer.toNat
      ∧ windowRead s 0x04 4 = s.requestConsumer.toNat + (if s.ringFault then 2 ^ 31 else 0)
      ∧ windowRead s 0x08 4 = s.resultProducer.toNat
      ∧ windowRead s 0x0C 4 = s.resultConsumer.toNat
      ∧ windowRead s 0x10 4 = (if s.inForce.resultEnable then 1 else 0) + (if s.inForce.attentionEnable then 2 else 0))
    ∧ (∀ offset width : Nat, width ≠ 4 ∨ offset % 4 ≠ 0 ∨ 0x14 ≤ offset → offset + width ≤ 0x1000 ∨ 0x3000 ≤ offset →
        windowRead s offset width = 0)
    ∧ (∀ offset width i : Nat, i < width →
        (0x1000 ≤ offset → offset + width ≤ 0x2000 →
          windowRead s offset width / 256 ^ i % 256 = (requestByte s.requestRing (offset - 0x1000 + i)).toNat)
        ∧ (0x2000 ≤ offset → offset + width ≤ 0x3000 →
          windowRead s offset width / 256 ^ i % 256 = (resultByte s.resultRing (offset - 0x2000 + i)).toNat))
    ∧ (∀ v : Word, s.powered = true → exec (.requestProducerIndexWrite v) s = .next
      { s with
        requestProducer := v.setWidth 8
        ringFault := s.ringFault || decide (32 < ((v.setWidth 8 : Byte) - s.requestConsumer).toNat) })
    ∧ (∀ v : Word, s.powered = true → exec (.resultConsumerIndexWrite v) s = .next
      { s with
        resultConsumer := v.setWidth 8
        ringFault := s.ringFault || decide (32 < (s.resultProducer - (v.setWidth 8 : Byte)).toNat) })
    ∧ (∀ offset width value : Nat, offset + width ≤ 0x1000 ∨ 0x2000 ≤ offset →
        exec (.ignoredWindowWrite offset width value) s = .next s)
    ∧ (∀ offset width value : Nat, s.powered = true → TablesCanonical s → ∃ ring : Table RequestSlot,
        exec (.ignoredWindowWrite offset width value) s = .next { s with requestRing := ring }
        ∧ ∀ a < 0x1000, requestByte ring a =
            if offset ≤ 0x1000 + a ∧ 0x1000 + a < offset + width then BitVec.ofNat 8 (value / 256 ^ (0x1000 + a - offset))
            else requestByte s.requestRing a)
    ∧ (requestsInUse s = (256 + s.requestProducer.toNat - s.requestConsumer.toNat) % 256
      ∧ resultsInUse s = (256 + s.resultProducer.toNat - s.resultConsumer.toNat) % 256 ∧ resultsFree s = 32 - resultsInUse s)
    ∧ (∀ a < 0x1000,
        requestByte s.requestRing a = ((slotBytes (Table.find s.requestRing (a / 128)))[a % 128]?).getD 0
        ∧ resultByte s.resultRing a = ((resultSlotBytes (Table.find s.resultRing (a / 128)))[a % 128]?).getD 0)
    ∧ ∀ v : Word, s.powered = true →
      exec (.interruptEnableWordWrite v) s = .next
        (if s.record.mode = .frozen then s
         else
          { s with
            stored.resultEnable := if v.getLsbD 0 then 1 else 0
            stored.attentionEnable := if v.getLsbD 1 then 1 else 0
            inForce.resultEnable := v.getLsbD 0
            inForce.attentionEnable := v.getLsbD 1
            fallenBack := s.fallenBack.filter (fun f => decide (f ≠ .resultEnable) && decide (f ≠ .attentionEnable))
            resultMark := s.resultMark && !(s.inForce.resultEnable && !v.getLsbD 0)
            attentionMark := s.attentionMark && !(s.inForce.attentionEnable && !v.getLsbD 1)
            choices := s.choices + 1 })

/-- R170: while a mark is set and messages may be sent, one MSI is sent and both marks are cleared; otherwise nothing is sent. The
permission is an input, and the count of messages sent is the model's own (log 12). -/
def Obligations.MessagesSent : Prop :=
  ∀ s : State, s.powered = true →
    (∀ allowed : Bool, exec (.msiPermissionChange allowed) s = .next { s with msiPermitted := allowed })
    ∧ (s.msiPermitted = true → s.resultMark = true ∨ s.attentionMark = true →
        exec .msiWrite s = .next { s with resultMark := false, attentionMark := false, msiSent := s.msiSent + 1 })
    ∧ (s.msiPermitted = false ∨ (s.resultMark = false ∧ s.attentionMark = false) → exec .msiWrite s = .next s)

/-- R162: a loss of server power stops the board with record memory as it stands; a failure of the backup cell without server power
loses record memory with its marker, and while the server is on it loses nothing. Without power no other command but POWER_ON
changes anything. What lost memory holds meanwhile and the idle commands are the model's choice (logs 14 and 16), and so is that
working memory, the rings, marks and settings in force, stands without power (log 17). -/
def Obligations.PowerLossAndCellFailure : Prop :=
  ∀ s : State,
    exec .powerLoss s = .next { s with powered := false }
    ∧ (s.powered = true → exec .backupCellFailure s = .next s)
    ∧ (s.powered = false → exec .backupCellFailure s = .next { s with record := { retentionMarker := false } })
    ∧ ∀ c : Instr, s.powered = false → c ≠ .powerOn → c ≠ .powerLoss → c ≠ .backupCellFailure → exec c s = .next s

/-- R66: with each second the remaining load seconds of every grant out fall by one, in every mode, and nothing else changes. That a
grant whose timer stands at 0 is still out, its expiry being a command of its own, is log 13, and the count of seconds without bound
is log 11. -/
def Obligations.SecondsCount : Prop :=
  ∀ s : State, s.powered = true → ∃ t : State, exec .loadSecondsTick s = .next t
    ∧ t = { s with seconds := s.seconds + 1, record.meters := t.record.meters }
    ∧ ∀ slot : Nat, t.meter? slot = (s.meter? slot).map (fun m =>
        { m with grantOut := m.grantOut.map (fun g => { g with remaining := g.remaining - 1 }) })

/-! ## Start-up, modes, settings and the day -/

/-- R161, R67, R169: a start-up that keeps record memory leaves the state `retainedStart` describes, serves the queue where its mode is
SERVICE, and records its kind; RESTART then posts its result as the first record of the emptied Result Ring, with the result mark by the
enable just applied (log 21). Sent under a ring fault, RESTART goes into the slot named by the request consumer and is taken whatever else
waits (log 5). Sent with the ring fault clear behind another record, or with no free slot in the Result Ring, its record stands in the slot
named by the request producer and waits; where that makes more than 32 slots in use the fault is set, and the RESTART that the slot named by
the request consumer holds, if it is one, is taken: the 33rd record stands in that slot. POWER_ON is this start-up on a board that has power
too (log 15). That PCIE_RESET and RESTART drop the retention outcome of an earlier power-on is log 48. -/
def Obligations.StartUpKeepsRecordMemory : Prop :=
  ∀ s : State,
    (s.record.retentionMarker = true → exec .powerOn s = .next
      { (serveQueue (retainedStart { s with powered := true, msiPermitted := false })).state with
        lastStart := .powerOn, retention := some .kept })
    ∧ (s.powered = true → exec .pcieReset s = .next
      { (serveQueue (retainedStart { s with msiPermitted := false })).state with lastStart := .pcieReset, retention := none })
    ∧ (∀ tag : Half, s.powered = true → s.ringFault = true ∨ (requestsInUse s = 0 ∧ resultsInUse s < 32) →
      ∃ t : State, t = { (serveQueue (retainedStart s)).state with lastStart := .restart, retention := none }
        ∧ exec (.restart tag) s = .next (postResult 0x14 tag (done (.started t.record.mode t.fallenBack)) t))
    ∧ ∀ (tag : Half) (sent : State), s.powered = true → s.ringFault = false → 0 < requestsInUse s ∨ 32 ≤ resultsInUse s →
      sent =
        { s with
          requestRing := Table.put s.requestRing (s.requestProducer.toNat % 32) (.record (.restart tag))
          requestProducer := s.requestProducer + 1
          ringFault := decide (32 < (s.requestProducer + 1 - s.requestConsumer).toNat) } →
      (sent.ringFault = false ∨ (∀ x, firstRequest sent ≠ .restart x) → exec (.restart tag) s = .next sent)
      ∧ (∀ x, sent.ringFault = true → firstRequest sent = .restart x →
        ∃ t : State, t = { (serveQueue (retainedStart s)).state with lastStart := .restart, retention := none }
          ∧ exec (.restart tag) s = .next (postResult 0x14 x (done (.started t.record.mode t.fallenBack)) t))
      ∧ (requestsInUse s = 32 → sent.ringFault = true ∧ firstRequest sent = .restart tag)

/-- R161, R162: a power-on that finds the retention marker absent clears record memory, makes the marker present, and by the
backup-loss policy comes up LOCKED with no cause or in SETUP with BACKUP_LOST; SETTINGS_FAULT is set where a field fell back. The ranges
and defaults of the fields are in `WriteSettingsStoresAndApplies`. -/
def Obligations.PowerOnFindsRetentionLost : Prop :=
  ∀ s : State, s.record.retentionMarker = false →
    exec .powerOn s = .next
      { retainedStart { s with powered := true, msiPermitted := false } with
        record :=
          if s.stored.backupLoss = 1 then
            { mode := .setup, deviceCauses := { settingsFault := !(outOfRange s.stored).isEmpty, backupLost := true } }
          else { mode := .locked, deviceCauses := { settingsFault := !(outOfRange s.stored).isEmpty } }
        attentionMark := (settledAll s.stored).attentionEnable
          && (!(outOfRange s.stored).isEmpty || decide (s.stored.backupLoss = 1))
        lastStart := .powerOn
        retention := some .lost }

/-- R163: CLEAR TABLES is taken in SETUP and LOCKED and empties record memory, leaving the mode SETUP and the retention marker present;
settings and rings stay as they were. -/
def Obligations.ClearTablesEmptiesRecords : Prop :=
  ∀ (tag : Half) (s : State),
    Answers (.clearTables tag) 0x15 tag s
      (if s.record.mode = .setup ∨ s.record.mode = .locked then
        ({ s with
            record :=
              { retentionMarker := true, mode := .setup, day := 0
                deviceCauses := { settingsFault := false, backupLost := false, poolWait := false, arrears := false }
                meters := [], queue := [], queuePeak := 0
                pool := { balance := 0, arrears := 0, deposits := 0, franked := 0, issued := 0, writtenOff := 0, reserved := 0 }
                branches := [], denominations := [], transfers := [], nextTransfer := 1 } },
         done (.cleared s.record.mode))
      else (s, refuse .wrongMode))

/-- R165, R159, R106, R107, R108, R109, R130: the four reads that carry no fields change no state. READ STATUS and READ SETTINGS are taken
in every mode, READ POSITION and READ DENOMINATIONS are refused WRONG_MODE in LOCKED. READ STATUS gives the indices with its own record in
the Request Ring and before its result is posted (log 20). The second part gives the sums of the funds position figure by figure: the stock
on hand and in transit at face, and the two sides of the identity. -/
def Obligations.ReadsWithoutFields : Prop :=
  (∀ (tag : Half) (s : State),
    Answers (.readStatus tag) 0x01 tag s
      (s, done (.status
        { mode := s.record.mode, day := s.record.day, inForce := s.inForce, fallenBack := s.fallenBack
          lastStart := s.lastStart, retention := s.retention, causes := s.record.deviceCauses
          queued := s.record.queue.length
          depth := if s.inForce.depth = .peak then s.record.queuePeak else s.record.queue.length
          ringFault := s.ringFault, requestProducer := s.requestProducer + 1, requestConsumer := s.requestConsumer
          resultProducer := s.resultProducer, resultConsumer := s.resultConsumer }))
    ∧ Answers (.readSettings tag) 0x13 tag s (s, done (.stored s.stored))
    ∧ Answers (.readPosition tag) 0x62 tag s
      (if s.record.mode = .locked then (s, refuse .wrongMode)
       else (s, done (.position
        { pool := s.record.pool
          refillsOut := Table.count (fun _ m => m.grantOut.any (fun g => decide (g.kind = .refill))) s.record.meters
          prepaidCredit := Table.sum (fun _ m => if m.kind = .prepaid then m.credit else 0) s.record.meters
          prepaidMeters := Table.count (fun _ m => decide (m.kind = .prepaid)) s.record.meters
          onHandValue := onHandValue s
          transitValue := transitValue s
          stockValue := onHandValue s + transitValue s
          postpaidCredit := Table.sum (fun _ m => if m.kind = .postpaid then m.credit else 0) s.record.meters
          leftSide := leftSide s
          rightSide := rightSide s
          identity := if leftSide s = rightSide s then .holds else .broken (leftSide s - rightSide s)
          day := s.record.day
          queued := s.record.queue.length })))
    ∧ Answers (.readDenominations tag) 0x83 tag s
      (if s.record.mode = .locked then (s, refuse .wrongMode)
       else (s, done (.denominations s.record.day ((List.range 16).map (fun slot =>
        match s.denomination? slot with
        | none => .empty slot
        | some d => .present
            { slot := slot
              state := if d.withdrawn.isSome then .withdrawn else .onSale
              face := d.face
              withdrawn := d.withdrawn
              daysWithdrawn := d.withdrawn.map (fun day => (s.record.day - day).toNat)
              onHand := onHandTotal s slot
              branches := Table.count (fun _ b => decide (0 < Figures.at' b.onHand slot)) s.record.branches
              inTransit := inTransitTotal s slot
              transfers := s.record.transfers.countP (fun t => decide (t.denomination = slot))
              value := d.face * (onHandTotal s slot + inTransitTotal s slot) }))))))
  ∧ ∀ s : State,
    (∀ slot, s.face slot = ((s.denomination? slot).map (·.face)).getD 0)
    ∧ onHandValue s = Table.sum (fun _ b => Table.sum (fun d n => n * s.face d) b.onHand) s.record.branches
    ∧ transitValue s = (s.record.transfers.map (fun t => t.count * s.face t.denomination)).sum
    ∧ stockValue s = onHandValue s + transitValue s
    ∧ committedFunds s = s.record.pool.balance + s.record.pool.reserved
      + Table.sum (fun _ m => if m.kind = .prepaid then m.credit else 0) s.record.meters
    ∧ leftSide s = (s.record.pool.balance : Int) + s.record.pool.reserved
      + Table.sum (fun _ m => if m.kind = .prepaid then m.credit else 0) s.record.meters
      + s.record.pool.franked + stockValue s + s.record.pool.issued + s.record.pool.writtenOff
    ∧ rightSide s = (s.record.pool.deposits : Int) + s.record.pool.arrears
    ∧ (∀ slot, onHandTotal s slot = Table.sum (fun _ b => Figures.at' b.onHand slot) s.record.branches)
    ∧ ∀ slot, inTransitTotal s slot = ((s.record.transfers.filter (fun t => decide (t.denomination = slot))).map (·.count)).sum

/-- R157, R160, R85: SET MODE. LOCKED refuses WRONG_MODE, a target other than SETUP, SERVICE or FROZEN is refused BAD_VALUE, the current
mode is answered DONE with nothing changed, and SETUP or FROZEN becomes the mode. An entry to SERVICE applies the six SERVICE ENTRY fields,
each in force from its stored value or its default (`WriteSettingsStoresAndApplies` has R159's table), the fields out of range joining the
fallen-back set with SETTINGS_FAULT, and then serves the queue. The order of the checks of the target and the mode is that of the prose (log
30), and an equal target carries no figures (log 28). -/
def Obligations.SetModeAnswered : Prop :=
  ∀ (tag : Half) (s : State),
    (∀ target, s.record.mode = .locked → Answers (.setMode tag target) 0x10 tag s (s, refuse .wrongMode))
    ∧ (s.record.mode ≠ .locked → Answers (.setMode tag .unknown) 0x10 tag s (s, refuse .badValue)
        ∧ Answers (.setMode tag (.value .locked)) 0x10 tag s (s, refuse .badValue)
        ∧ Answers (.setMode tag (.value s.record.mode)) 0x10 tag s (s, done .none))
    ∧ (∀ m : Mode, s.record.mode ≠ .locked → m ≠ s.record.mode → m = .setup ∨ m = .frozen →
        Answers (.setMode tag (.value m)) 0x10 tag s ({ s with record.mode := m }, done (.modes s.record.mode m)))
    ∧ (s.record.mode = .setup ∨ s.record.mode = .frozen →
      ∃ entered : State,
        Answers (.setMode tag (.value .service)) 0x10 tag s
          ((serveQueue entered).state,
           done (.serviceEntry s.record.mode .service (serviceEntryClass.filter (fun f => !inRange s.stored f))
            (serveQueue entered).issued))
        ∧ entered.inForce = serviceEntryClass.foldl (settle s.stored) s.inForce
        ∧ (∀ f, f ∈ entered.fallenBack ↔
            if f ∈ serviceEntryClass then inRange s.stored f = false else f ∈ s.fallenBack)
        ∧ entered =
          { s with
            record.mode := .service
            record.deviceCauses.settingsFault :=
              s.record.deviceCauses.settingsFault || serviceEntryClass.any (fun f => !inRange s.stored f)
            inForce := entered.inForce
            fallenBack := entered.fallenBack
            attentionMark :=
              s.attentionMark || (s.inForce.attentionEnable && serviceEntryClass.any (fun f => !inRange s.stored f)) })

/-- R158, R19, R49, R18, R170: CLOSE DAY is taken in SERVICE alone, advances the day by one and ages every meter: the days since report
rise to at most 255, and an ACTIVE meter past its report interval becomes OVERDUE with the cause set. Every other meter only ages,
but for a POSTPAID one that R49 gives a daily limit. No total, queue entry or setting changes, and the attention mark can only rise,
while its enable is on. The count of choices drawn is the model's own (log 10). -/
def Obligations.CloseDayAgesMeters : Prop :=
  ∀ (tag : Half) (s : State),
    (s.record.mode ≠ .service → Answers (.closeDay tag) 0x11 tag s (s, refuse .wrongMode))
    ∧ (s.record.mode = .service → ∃ t : State,
        Answers (.closeDay tag) 0x11 tag s (t, done (.day (s.record.day + 1)))
        ∧ t = { s with
            record.day := s.record.day + 1
            record.meters := t.record.meters
            record.branches := t.record.branches
            record.transfers := t.record.transfers
            attentionMark := t.attentionMark
            choices := s.choices + 1 }
        ∧ (s.attentionMark = true → t.attentionMark = true)
        ∧ (s.inForce.attentionEnable = false → t.attentionMark = s.attentionMark)
        ∧ ∀ slot : Nat,
            (s.meter? slot = none → t.meter? slot = none)
            ∧ ∀ m, s.meter? slot = some m → ∃ m', t.meter? slot = some m'
              ∧ m'.daysSince = min (m.daysSince + 1) 255
              ∧ (m.state = .active → m.interval < min (m.daysSince + 1) 255 →
                  m' = { m with
                    daysSince := m'.daysSince, state := .overdue, causes := { m.causes with overdue := true } }
                  ∧ (s.inForce.attentionEnable = true → t.attentionMark = true))
              ∧ (m.state ≠ .active → m' = { m with daysSince := m'.daysSince })
              ∧ (¬(m.state = .active ∧ m.interval < min (m.daysSince + 1) 255) →
                  m.kind = .prepaid ∨ m.subMode = .first ∨ m.grantOut ≠ none ∨ effective s m = .hold ∨ effective s m = .trial
                    ∨ m.standing ≤ m.credit →
                  m' = { m with daysSince := m'.daysSince }))

/-- R49, R50, R62: at a day advance a POSTPAID meter in DAILY RESET that is still ACTIVE, with no grant out, under NONE or FIXED and with a
daily limit above its credit, is given a limit grant of the amount computed, with GRANT_READY; arrears or the ceiling refuse it with
REFILL_REFUSED, counted; either cause raises the attention mark while its enable is on (R25, R170). The cycle number it is stamped with
is the branch's before or after that day's cycle end (log 8). -/
def Obligations.CloseDayGivesDailyLimits : Prop :=
  ∀ (tag : Half) (s : State), s.record.mode = .service → ∃ t : State,
    Answers (.closeDay tag) 0x11 tag s (t, done (.day (s.record.day + 1)))
    ∧ ∀ (slot : Nat) (m : Meter), s.meter? slot = some m → m.kind = .postpaid → m.subMode = .second → m.state = .active →
      min (m.daysSince + 1) 255 ≤ m.interval → m.grantOut = none → effective s m = .none ∨ effective s m = .fixed →
      ∀ amount : Nat, amount = (if effective s m = .fixed then m.standing else m.standing - m.credit) →
      (m.standing ≤ m.credit → t.meter? slot = some { m with daysSince := min (m.daysSince + 1) 255 })
      ∧ (∀ g reason, m.credit < m.standing → computeGrant s.inForce.refillStep none m amount = .grant g reason →
          s.record.pool.arrears = 0 → ∃ cycle : Byte,
            t.meter? slot = some
              { m with
                daysSince := min (m.daysSince + 1) 255
                grantOut := some
                  { number := m.nextGrant, amount := g, kind := .limit, branch := m.branch, counted := false
                    cycle := cycle, remaining := s.inForce.loadTimeout }
                nextGrant := if m.nextGrant = 65535 then 1 else m.nextGrant + 1
                causes := { m.causes with grantReady := true } }
            ∧ (s.inForce.attentionEnable = true → t.attentionMark = true)
            ∧ (∀ b, s.branch? m.branch = some b → cycle = b.cycle ∨ (b.run = .running ∧ 0 < b.cycleLength
                ∧ b.cycleLength ≤ min (b.dayCount + 1) 255 ∧ cycle = b.cycle + 1)))
      ∧ (∀ g reason, m.credit < m.standing → computeGrant s.inForce.refillStep none m amount = .grant g reason →
          0 < s.record.pool.arrears → t.meter? slot = some
            { m with
              daysSince := min (m.daysSince + 1) 255
              refused := min (m.refused + 1) 65535
              causes := { m.causes with refillRefused := true } }
            ∧ (s.inForce.attentionEnable = true → t.attentionMark = true))
      ∧ ∀ figures, m.credit < m.standing → computeGrant s.inForce.refillStep none m amount = .refused .atCeiling figures →
          t.meter? slot = some
            { m with
              daysSince := min (m.daysSince + 1) 255
              refused := min (m.refused + 1) 65535
              causes := { m.causes with refillRefused := true } }
          ∧ (s.inForce.attentionEnable = true → t.attentionMark = true)

/-- R120, R152, R147: at a day advance a RUNNING cycle counts the day and ends at its length with CYCLE_END, every open count is abandoned
with COUNT_ABANDONED, every transfer ages, and one past the overdue days becomes OVERDUE with TRANSFER_OVERDUE on its origin. Nothing
else of a branch or a transfer changes. -/
def Obligations.CloseDayAgesBranchesAndTransfers : Prop :=
  ∀ (tag : Half) (s : State), s.record.mode = .service → ∃ t : State,
    Answers (.closeDay tag) 0x11 tag s (t, done (.day (s.record.day + 1)))
    ∧ t.record.transfers = s.record.transfers.map (fun x =>
        { x with
          age := min (x.age + 1) 255
          state := if x.state = .inTransit ∧ s.inForce.overdueDays < min (x.age + 1) 255 then .overdue else x.state })
    ∧ ∀ slot : Nat,
      (s.branch? slot = none → t.branch? slot = none)
      ∧ ∀ b, s.branch? slot = some b → ∃ (ends late : Bool),
        (ends = true ↔ b.run = .running ∧ 0 < b.cycleLength ∧ b.cycleLength ≤ min (b.dayCount + 1) 255)
        ∧ (late = true ↔ ∃ x ∈ s.record.transfers, x.origin = slot ∧ x.state = .inTransit
            ∧ s.inForce.overdueDays < min (x.age + 1) 255)
        ∧ t.branch? slot = some
          { b with
            dayCount := if ends then 0 else if b.run = .running then min (b.dayCount + 1) 255 else b.dayCount
            spent := if ends then 0 else b.spent
            cycle := if ends then b.cycle + 1 else b.cycle
            latch := none
            causes :=
              { b.causes with
                cycleEnd := b.causes.cycleEnd || ends
                countAbandoned := b.causes.countAbandoned || b.latch.isSome
                transferOverdue := b.causes.transferOverdue || late } }
        ∧ (s.inForce.attentionEnable = true → ends || b.latch.isSome || late → t.attentionMark = true)

/-- R159, R160, R170: WRITE SETTINGS is refused WRONG_MODE in FROZEN; otherwise it stores every present value as written, applies the
IMMEDIATE fields that are present, and lists each with its value in force and whether it fell back. The other eight settings in force stay.
Turning the attention enable off clears its mark, and turning it on sets none (R170). The place of the attention enable among the fields
applied is open (log 9), and the count of choices drawn is the model's own (log 10). That a request with no value present is taken and
answered DONE is log 25. The second part is R159's table for every stored value: each field's class, its range, the value in force it gives,
the default where it is out of range, the number that stands for the value, and what a patch stores. -/
def Obligations.WriteSettingsStoresAndApplies : Prop :=
  (∀ (tag : Half) (p : SettingsPatch) (s : State),
    (s.record.mode = .frozen → Answers (.writeSettings tag p) 0x12 tag s (s, refuse .wrongMode))
    ∧ (s.record.mode ≠ .frozen → ∃ t : State,
        Answers (.writeSettings tag p) 0x12 tag s
          (t, done (.applied ((presentImmediate p).map (fun f => (f, valueCode t.inForce f, !inRange t.stored f)))))
        ∧ t.stored = storePatch p s.stored
        ∧ t.inForce = (presentImmediate p).foldl (settle (storePatch p s.stored)) s.inForce
        ∧ (∀ f, f ∈ t.fallenBack ↔
            if f ∈ presentImmediate p then inRange (storePatch p s.stored) f = false else f ∈ s.fallenBack)
        ∧ t = { s with
            stored := t.stored
            record.deviceCauses.settingsFault := s.record.deviceCauses.settingsFault
              || (presentImmediate p).any (fun f => !inRange (storePatch p s.stored) f)
            inForce := t.inForce
            fallenBack := t.fallenBack
            resultMark := s.resultMark && !(s.inForce.resultEnable && !t.inForce.resultEnable)
            attentionMark := t.attentionMark
            choices := s.choices + 1 }
        ∧ (t.attentionMark = true → s.attentionMark = true ∨ (s.inForce.attentionEnable || t.inForce.attentionEnable) = true)
        ∧ ((presentImmediate p).any (fun f => !inRange (storePatch p s.stored) f) = false →
            t.attentionMark = (s.attentionMark && !(s.inForce.attentionEnable && !t.inForce.attentionEnable)))
        ∧ (s.inForce.attentionEnable = false → t.inForce.attentionEnable = false → t.attentionMark = s.attentionMark)
        ∧ (s.inForce.attentionEnable = true → t.inForce.attentionEnable = false → t.attentionMark = false)
        ∧ (s.inForce.attentionEnable = true → t.inForce.attentionEnable = true →
            (presentImmediate p).any (fun f => !inRange (storePatch p s.stored) f) = true → t.attentionMark = true)))
  ∧ ∀ (st : StoredSettings) (cur : Settings) (p : SettingsPatch),
    (restartClass = [.startMode, .backupLoss]
      ∧ serviceEntryClass = [.refillStep, .loadTimeout, .shortage, .overdueDays, .margin, .reportInterval]
      ∧ immediateClass = [.conditioning, .depth, .resultEnable, .attentionEnable]
      ∧ allFields = restartClass ++ serviceEntryClass ++ immediateClass)
    ∧ ((inRange st .startMode = true ↔ st.startMode.toNat ≤ 2)
      ∧ (inRange st .backupLoss = true ↔ st.backupLoss.toNat ≤ 1)
      ∧ (inRange st .refillStep = true ↔ st.refillStep.toNat ∈ [1, 10, 100, 1000, 10000])
      ∧ (inRange st .loadTimeout = true ↔ 10 ≤ st.loadTimeout.toNat ∧ st.loadTimeout.toNat ≤ 600)
      ∧ (inRange st .shortage = true ↔ st.shortage.toNat ≤ 1)
      ∧ (inRange st .overdueDays = true ↔ 1 ≤ st.overdueDays.toNat ∧ st.overdueDays.toNat ≤ 30)
      ∧ (inRange st .margin = true ↔ st.margin.toNat ≤ 8)
      ∧ (inRange st .reportInterval = true ↔ 1 ≤ st.reportInterval.toNat ∧ st.reportInterval.toNat ≤ 60)
      ∧ (inRange st .conditioning = true ↔ st.conditioning.toNat ≤ 3)
      ∧ (inRange st .depth = true ↔ st.depth.toNat ≤ 1)
      ∧ (inRange st .resultEnable = true ↔ st.resultEnable.toNat ≤ 1)
      ∧ (inRange st .attentionEnable = true ↔ st.attentionEnable.toNat ≤ 1))
    ∧ (settle st cur .startMode = { cur with startMode := if st.startMode = 1 then .service else if st.startMode = 2 then .resume else .setup }
      ∧ settle st cur .backupLoss = { cur with backupLoss := if st.backupLoss = 1 then .clear else .fatal }
      ∧ settle st cur .refillStep = { cur with refillStep := if inRange st .refillStep then st.refillStep.toNat else 100 }
      ∧ settle st cur .loadTimeout = { cur with loadTimeout := if inRange st .loadTimeout then st.loadTimeout.toNat else 120 }
      ∧ settle st cur .shortage = { cur with shortage := if st.shortage = 1 then .partly else .wait }
      ∧ settle st cur .overdueDays = { cur with overdueDays := if inRange st .overdueDays then st.overdueDays.toNat else 5 }
      ∧ settle st cur .margin = { cur with margin := if inRange st .margin then st.margin.toNat else 4 }
      ∧ settle st cur .reportInterval = { cur with reportInterval := if inRange st .reportInterval then st.reportInterval.toNat else 7 }
      ∧ settle st cur .conditioning = { cur with
          conditioning := if st.conditioning = 1 then .fixed else if st.conditioning = 2 then .hold
            else if st.conditioning = 3 then .trial else .none }
      ∧ settle st cur .depth = { cur with depth := if st.depth = 1 then .peak else .live }
      ∧ settle st cur .resultEnable = { cur with resultEnable := decide (st.resultEnable = 1) }
      ∧ settle st cur .attentionEnable = { cur with attentionEnable := decide (st.attentionEnable = 1) })
    ∧ (∀ f, valueCode (settle st cur f) f =
        if inRange st f then
          (match f with
          | .startMode => st.startMode.toNat | .backupLoss => st.backupLoss.toNat | .refillStep => st.refillStep.toNat
          | .loadTimeout => st.loadTimeout.toNat | .shortage => st.shortage.toNat | .overdueDays => st.overdueDays.toNat
          | .margin => st.margin.toNat | .reportInterval => st.reportInterval.toNat | .conditioning => st.conditioning.toNat
          | .depth => st.depth.toNat | .resultEnable => st.resultEnable.toNat | .attentionEnable => st.attentionEnable.toNat)
        else
          (match f with
          | .refillStep => 100 | .loadTimeout => 120 | .overdueDays => 5 | .margin => 4 | .reportInterval => 7
          | .startMode | .backupLoss | .shortage | .conditioning | .depth | .resultEnable | .attentionEnable => 0))
    ∧ storePatch p st =
      { startMode := p.startMode.getD st.startMode
        backupLoss := p.backupLoss.getD st.backupLoss
        refillStep := p.refillStep.getD st.refillStep
        loadTimeout := p.loadTimeout.getD st.loadTimeout
        shortage := p.shortage.getD st.shortage
        overdueDays := p.overdueDays.getD st.overdueDays
        margin := p.margin.getD st.margin
        reportInterval := p.reportInterval.getD st.reportInterval
        conditioning := p.conditioning.getD st.conditioning
        depth := p.depth.getD st.depth
        resultEnable := p.resultEnable.getD st.resultEnable
        attentionEnable := p.attentionEnable.getD st.attentionEnable }
    ∧ presentImmediate p = immediateClass.filter (fun f =>
        match f with
        | .conditioning => p.conditioning.isSome | .depth => p.depth.isSome
        | .resultEnable => p.resultEnable.isSome | .attentionEnable => p.attentionEnable.isSome
        | .startMode | .backupLoss | .refillStep | .loadTimeout | .shortage | .overdueDays | .margin | .reportInterval => false)

/-! ## Meter accounts -/

/-- R7, R8, R21: the first check of ENROL METER that fails answers it, and nothing changes. An enrolment that passes fills the
lowest-numbered EMPTY slot; a PREPAID meter's opening credit leaves the pool, and a meter below its mark carries LOW_CREDIT from its first
moment. -/
def Obligations.EnrolMeterAnswered : Prop :=
  ∀ (tag : Half) (e : Enrolment) (s : State),
    (∀ st : Status,
    (if ¬(s.record.mode = .setup ∨ s.record.mode = .service) then some Status.wrongMode
     else if ¬((1 ≤ e.licence ∧ e.licence ≤ 999999) ∧ e.branch ≤ 127 ∧ e.kind ≠ .unknown ∧ e.subMode ≠ .unknown
        ∧ e.conditioning ≠ .unknown ∧ e.standing ≤ 99999999 ∧ (1000 ≤ e.ceiling ∧ e.ceiling ≤ 99999999) ∧ e.markCode ≤ 7
        ∧ e.interval ≤ 60 ∧ e.ascending ≤ 999999999999 ∧ e.descending ≤ 99999999) then some .badValue
     else if e.ceiling < e.descending then some .badValue
     else if s.branch? e.branch = none then some .unknownBranch
     else if ∃ x ∈ s.record.meters, x.2.licence = e.licence then some .duplicate
     else if ∀ slot ∈ List.range 512, (s.meter? slot).isSome then some .tableFull
     else if e.kind = .value .prepaid ∧ s.record.pool.balance < e.descending then some .poolShort
     else none) = some st →
    Answers (.enrolMeter tag e) 0x20 tag s (s, refuse st))
    ∧ ∀ (kind : MeterKind) (sub : SubMode) (cond : Conditioning) (slot : Nat),
    s.record.mode = .setup ∨ s.record.mode = .service →
    1 ≤ e.licence → e.licence ≤ 999999 → e.branch ≤ 127 → e.kind = .value kind → e.subMode = .value sub →
    e.conditioning = .value cond → e.standing ≤ 99999999 → 1000 ≤ e.ceiling → e.ceiling ≤ 99999999 → e.markCode ≤ 7 →
    e.interval ≤ 60 → e.ascending ≤ 999999999999 → e.descending ≤ e.ceiling → (s.branch? e.branch).isSome →
    (∀ x ∈ s.record.meters, x.2.licence ≠ e.licence) →
    slot < 512 → s.meter? slot = none → (∀ lower < slot, (s.meter? lower).isSome) →
    (kind = .prepaid → e.descending ≤ s.record.pool.balance) →
    ∀ below : Bool, below = decide (0 < e.markCode ∧ 8 * e.descending < e.markCode * e.ceiling) →
    Answers (.enrolMeter tag e) 0x20 tag s
      ({ s with
          record.meters := Table.put s.record.meters slot
            { state := .active, licence := e.licence, branch := e.branch, kind := kind, subMode := sub, conditioning := cond
              standing := e.standing, ceiling := e.ceiling, markCode := e.markCode
              interval := if e.interval = 0 then s.inForce.reportInterval else e.interval
              daysSince := 0, credit := e.descending, loaded := e.ascending + e.descending, ascending := e.ascending
              lastSequence := none, belowMark := below, grantOut := none, lastVoided := none, nextGrant := 1
              refused := 0, stale := 0, mismatches := 0, missed := 0, voids := 0, causes := { lowCredit := below } }
          record.pool.balance :=
            if kind = .prepaid then s.record.pool.balance - e.descending else s.record.pool.balance
          attentionMark := s.attentionMark || (below && s.inForce.attentionEnable) },
       done (.enrolled slot (e.ascending + e.descending) (if kind = .prepaid then e.descending else 0)))

/-- R9, R21: the first check of SET METER that fails answers it, and nothing changes. One without a change of kind that passes makes every
present change and keeps the rest of the record; a present ceiling or mark code re-evaluates the below-mark flag, setting LOW_CREDIT
where it turns to yes. A request with no change present is taken and changes nothing (log 25); the order mode, slot, record of R9's prose
is log 30; and that the result carries every field of the record is log 46. -/
def Obligations.SetMeterChangesFields : Prop :=
  (∀ (tag : Half) (slot : Nat) (c : MeterChanges) (s : State),
    (∀ st : Status,
      (if ¬(s.record.mode = .setup ∨ s.record.mode = .service) then some Status.wrongMode
       else if 511 < slot then some .badValue
       else
        match s.meter? slot with
        | none => some .unknownMeter
        | some m =>
          if (∃ x ∈ c.licence, x < 1 ∨ 999999 < x) ∨ c.kind = some .unknown ∨ c.subMode = some .unknown
            ∨ c.conditioning = some .unknown ∨ (∃ x ∈ c.standing, 99999999 < x) ∨ (∃ x ∈ c.ceiling, x < 1000 ∨ 99999999 < x)
            ∨ (∃ x ∈ c.markCode, 7 < x) ∨ (∃ x ∈ c.interval, x < 1 ∨ 60 < x) then some .badValue
          else if ∃ x ∈ c.licence, ∃ e ∈ s.record.meters, e.1 ≠ slot ∧ e.2.licence = x then some .duplicate
          else if ∃ k ∈ c.ceiling, ∃ g ∈ m.grantOut, g.kind = .refill ∧ k < m.credit + g.amount then some .badValue
          else none) = some st →
      Answers (.setMeter tag slot c) 0x21 tag s (s, refuse st))
    ∧ ∀ m : Meter, s.record.mode = .setup ∨ s.record.mode = .service → slot < 512 → s.meter? slot = some m →
    (∀ x ∈ c.licence, 1 ≤ x ∧ x ≤ 999999) → (c.kind = none ∨ c.kind = some (.value m.kind)) → c.subMode ≠ some .unknown →
    c.conditioning ≠ some .unknown → (∀ x ∈ c.standing, x ≤ 99999999) → (∀ x ∈ c.ceiling, 1000 ≤ x ∧ x ≤ 99999999) →
    (∀ x ∈ c.markCode, x ≤ 7) → (∀ x ∈ c.interval, 1 ≤ x ∧ x ≤ 60) →
    (∀ x ∈ c.licence, ∀ e ∈ s.record.meters, e.1 ≠ slot → e.2.licence ≠ x) →
    (∀ k ∈ c.ceiling, ∀ g ∈ m.grantOut, g.kind = .refill → m.credit + g.amount ≤ k) →
    ∀ (k code : Nat) (below falls : Bool), k = c.ceiling.getD m.ceiling → code = c.markCode.getD m.markCode →
    below = (if c.ceiling.isSome || c.markCode.isSome then decide (0 < code ∧ 8 * m.credit < code * k) else m.belowMark) →
    falls = (below && !m.belowMark) →
    ∀ m' : Meter, m' =
      { m with
        licence := c.licence.getD m.licence
        subMode := codedOr m.subMode c.subMode
        conditioning := codedOr m.conditioning c.conditioning
        standing := c.standing.getD m.standing
        ceiling := k
        markCode := code
        interval := c.interval.getD m.interval
        belowMark := below
        causes := { m.causes with lowCredit := m.causes.lowCredit || falls } } →
    Answers (.setMeter tag slot c) 0x21 tag s
      ({ s with
          record.meters := Table.put s.record.meters slot m'
          attentionMark := s.attentionMark || (falls && s.inForce.attentionEnable) },
       done (.meterSet m' 0)))
  ∧ (∀ kept v : SubMode, codedOr kept none = kept ∧ codedOr kept (some (.value v)) = v)
  ∧ ∀ kept v : Conditioning, codedOr kept none = kept ∧ codedOr kept (some (.value v)) = v

/-- R10: a change of kind is refused, in this order, in DISPUTE, in CLOSING, with a grant out, with a queue entry, and from POSTPAID where
the pool is below the credit. Otherwise PREPAID to POSTPAID gives the credit to the pool, which pays arrears and serves the queue, and
POSTPAID to PREPAID takes it from the pool; the last voided grant is cleared, and the request's other changes are made. The checks that
come before these, of the mode, the slot and the fields, are those of `SetMeterChangesFields`. That the result carries every field of the
record is log 46. -/
def Obligations.KindChangeMovesCredit : Prop :=
  ∀ (tag : Half) (slot : Nat) (c : MeterChanges) (kind : MeterKind) (m : Meter) (s : State),
    s.record.mode = .setup ∨ s.record.mode = .service → slot < 512 → s.meter? slot = some m →
    c.kind = some (.value kind) → kind ≠ m.kind →
    (∀ x ∈ c.licence, 1 ≤ x ∧ x ≤ 999999) → c.subMode ≠ some .unknown → c.conditioning ≠ some .unknown →
    (∀ x ∈ c.standing, x ≤ 99999999) → (∀ x ∈ c.ceiling, 1000 ≤ x ∧ x ≤ 99999999) → (∀ x ∈ c.markCode, x ≤ 7) →
    (∀ x ∈ c.interval, 1 ≤ x ∧ x ≤ 60) → (∀ x ∈ c.licence, ∀ e ∈ s.record.meters, e.1 ≠ slot → e.2.licence ≠ x) →
    (∀ k ∈ c.ceiling, ∀ g ∈ m.grantOut, g.kind = .refill → m.credit + g.amount ≤ k) →
    (∀ st,
      (if m.state = .dispute then some Status.disputed
       else if m.state = .closing then some .wrongState
       else if m.grantOut.isSome then some .grantOut
       else if ∃ e ∈ s.record.queue, e.slot = slot then some .alreadyQueued
       else if kind = .prepaid ∧ s.record.pool.balance < m.credit then some .poolShort
       else none) = some st →
      Answers (.setMeter tag slot c) 0x21 tag s (s, refuse st))
    ∧ ∀ (k code : Nat) (below falls : Bool), k = c.ceiling.getD m.ceiling → code = c.markCode.getD m.markCode →
      below = (if c.ceiling.isSome || c.markCode.isSome then decide (0 < code ∧ 8 * m.credit < code * k) else m.belowMark) →
      falls = (below && !m.belowMark) →
      ∀ m' : Meter, m' =
        { m with
          licence := c.licence.getD m.licence
          kind := kind
          subMode := codedOr m.subMode c.subMode
          conditioning := codedOr m.conditioning c.conditioning
          standing := c.standing.getD m.standing
          ceiling := k
          markCode := code
          interval := c.interval.getD m.interval
          lastVoided := none
          belowMark := below
          causes := { m.causes with lowCredit := m.causes.lowCredit || falls } } →
      m.state = .active ∨ m.state = .overdue → m.grantOut = none → (∀ e ∈ s.record.queue, e.slot ≠ slot) →
        (kind = .prepaid → m.credit ≤ s.record.pool.balance →
          Answers (.setMeter tag slot c) 0x21 tag s
            ({ s with
                record.meters := Table.put s.record.meters slot m'
                record.pool.balance := s.record.pool.balance - m.credit
                attentionMark := s.attentionMark || (falls && s.inForce.attentionEnable) },
             done (.meterSet m' (-(m.credit : Int)))))
        ∧ (kind = .postpaid → ∀ paid : Nat, paid = min s.record.pool.arrears m.credit →
          ∀ credited : State, credited =
            { s with
              record.meters := Table.put s.record.meters slot m'
              record.pool.balance := s.record.pool.balance + (m.credit - paid)
              record.pool.arrears := s.record.pool.arrears - paid
              record.deviceCauses.arrears := s.record.deviceCauses.arrears
                && !decide (0 < s.record.pool.arrears ∧ s.record.pool.arrears ≤ m.credit)
              attentionMark := s.attentionMark || (falls && s.inForce.attentionEnable) } →
          Answers (.setMeter tag slot c) 0x21 tag s
            (if m.credit = 0 then credited else (serveQueue credited).state, done (.meterSet m' m.credit)))

/-- R11, R12: REASSIGN METER links a meter to another branch and changes nothing else; CLOSE METER takes an ACTIVE or OVERDUE meter with no
grant out to CLOSING. Each of their checks answers in the order of the prose (log 30). Naming the branch the meter is already linked to
changes nothing; that this result carries the branch as old and new is the model's choice (log 40). -/
def Obligations.ReassignAndCloseMeter : Prop :=
  ∀ (tag : Half) (slot branch : Nat) (s : State),
    Answers (.reassignMeter tag slot branch) 0x22 tag s
      (if ¬(s.record.mode = .setup ∨ s.record.mode = .service) then (s, refuse .wrongMode)
       else if 511 < slot then (s, refuse .badValue)
       else
        match s.meter? slot with
        | none => (s, refuse .unknownMeter)
        | some m =>
          if 127 < branch then (s, refuse .badValue)
          else if s.branch? branch = none then (s, refuse .unknownBranch)
          else if m.branch = branch then (s, done (.reassigned branch branch))
          else
            ({ s with record.meters := Table.put s.record.meters slot { m with branch := branch } },
             done (.reassigned m.branch branch)))
    ∧ Answers (.closeMeter tag slot) 0x23 tag s
      (if s.record.mode ≠ .service then (s, refuse .wrongMode)
       else if 511 < slot then (s, refuse .badValue)
       else
        match s.meter? slot with
        | none => (s, refuse .unknownMeter)
        | some m =>
          if m.state = .dispute then (s, refuse .disputed)
          else if m.state = .closing then (s, refuse .wrongState)
          else if m.grantOut.isSome then (s, refuse .grantOut)
          else ({ s with record.meters := Table.put s.record.meters slot { m with state := .closing } }, done .none))

/-- R14, R15, R90, R96: RETIRE METER of a meter with no grant out empties its slot, writes a PREPAID meter's credit off, and removes its
queue entry, the queue being served where that entry stood at the head; a credit that would take X out of range refuses it BAD_VALUE. Its
checks answer in the order of the prose (log 30). -/
def Obligations.RetireMeterWithoutGrant : Prop :=
  ∀ (tag : Half) (slot : Nat) (s : State),
    (∀ st,
      (if s.record.mode ≠ .service then some Status.wrongMode
       else if 511 < slot then some .badValue
       else
        match s.meter? slot with
        | none => some .unknownMeter
        | some m =>
          if m.kind = .prepaid ∧ 2 ^ 47 - 1 < s.record.pool.writtenOff + m.credit then some .badValue else none) = some st →
      Answers (.retireMeter tag slot) 0x24 tag s (s, refuse st))
    ∧ ∀ m : Meter, s.record.mode = .service → slot < 512 → s.meter? slot = some m → m.grantOut = none →
      (m.kind = .prepaid → s.record.pool.writtenOff + m.credit ≤ 2 ^ 47 - 1) →
      ∀ off : Nat, off = (if m.kind = .prepaid then m.credit else 0) →
      ∀ emptied : State, emptied =
        { s with
          record.meters := Table.erase s.record.meters slot
          record.queue := s.record.queue.filter (fun e => decide (e.slot ≠ slot))
          record.pool.writtenOff := s.record.pool.writtenOff + off
          record.deviceCauses.poolWait := s.record.deviceCauses.poolWait
            && !(s.record.queue.any (fun e => decide (e.slot = slot)) && s.record.queue.all (fun e => decide (e.slot = slot))) } →
      Answers (.retireMeter tag slot) 0x24 tag s
        (if (s.record.queue.head?.map (·.slot)) = some slot then (serveQueue emptied).state else emptied,
         done (.retired none off))

/-- R23, R24, R116: READ METER and READ BRANCH give a slot's record with what stands beside it, and change nothing but what the take
indication takes: the five counters, or the variance total. An EMPTY slot is answered DONE with its number, where R6, R40 and R112 have
other words (log 33), and the checks answer in the order of the prose (log 30). The result of READ BRANCH carries the whole record, the
figures of an open count among them (log 44). -/
def Obligations.ReadMeterAndReadBranch : Prop :=
  ∀ (tag : Half) (slot : Nat) (take : Coded Bool) (s : State),
    Answers (.readMeter tag slot take) 0x25 tag s
      (if s.record.mode = .locked then (s, refuse .wrongMode)
       else if 511 < slot then (s, refuse .badValue)
       else
        match take, s.meter? slot with
        | .unknown, _ => (s, refuse .badValue)
        | .value _, none => (s, done (.emptySlot slot))
        | .value takes, some m =>
          (if takes then
            { s with
              record.meters := Table.put s.record.meters slot
                { m with refused := 0, stale := 0, mismatches := 0, missed := 0, voids := 0 } }
           else s,
           done (.meterRead slot m
            (if s.inForce.conditioning = .none then m.conditioning else s.inForce.conditioning)
            ((m.ceiling : Int) - (m.credit : Int)) (s.record.queue.any (fun e => decide (e.slot = slot))))))
    ∧ Answers (.readBranch tag slot take) 0x74 tag s
      (if s.record.mode = .locked then (s, refuse .wrongMode)
       else if 127 < slot then (s, refuse .badValue)
       else
        match take, s.branch? slot with
        | .unknown, _ => (s, refuse .badValue)
        | .value _, none => (s, done (.emptySlot slot))
        | .value takes, some b =>
          (if takes then { s with record.branches := Table.put s.record.branches slot { b with variance := 0 } } else s,
           done (.branch
            { slot := slot
              branch := b
              state := if b.latch.isSome then .counting else .opened
              remaining := b.allowance - b.spent
              inForce := decide (b.run ≠ .stopped ∧ 0 < b.allowance)
              latchPresent := b.latch.isSome
              metersLinked := Table.count (fun _ m => decide (m.branch = slot)) s.record.meters
              transfersFrom := s.record.transfers.countP (fun t => decide (t.origin = slot))
              transfersTo := s.record.transfers.countP (fun t => decide (t.destination = slot)) })))

/-! ## Reports and disputes -/

/-- R27 checks 1 to 6, R30, R32: a METER REPORT refused before its control check. A stale one is counted; the others change nothing. -/
def Obligations.MeterReportRefusedBeforeControl : Prop :=
  ∀ (tag : Half) (slot : Nat) (q : Half) (a d : Nat) (s : State),
    (∀ st,
      (if s.record.mode ≠ .service then some Status.wrongMode
       else if 511 < slot ∨ 999999999999 < a ∨ 99999999 < d then some .badValue
       else
        match s.meter? slot with
        | none => some .unknownMeter
        | some m => if m.state = .dispute then some .disputed else none) = some st →
      Answers (.meterReport tag slot q a d) 0x30 tag s (s, refuse st))
    ∧ ∀ m : Meter, s.record.mode = .service → slot < 512 → a ≤ 999999999999 → d ≤ 99999999 → s.meter? slot = some m →
      m.state ≠ .dispute →
      (∀ last : Half, m.lastSequence = some last → (q - last).toNat = 0 ∨ 64 < (q - last).toNat →
        Answers (.meterReport tag slot q a d) 0x30 tag s
          ({ s with record.meters := Table.put s.record.meters slot { m with stale := min (m.stale + 1) 65535 } },
           refuseWith .staleReport (.lastSequence last)))
      ∧ ((∀ last ∈ m.lastSequence, 1 ≤ (q - last).toNat ∧ (q - last).toNat ≤ 64) → m.ascending ≤ a →
        2 ^ 47 - 1 < s.record.pool.franked + (a - m.ascending)
          ∨ (m.kind = .postpaid ∧ 2 ^ 47 - 1 < s.record.pool.arrears
              + ((a - m.ascending) - min (a - m.ascending) s.record.pool.balance)) →
        Answers (.meterReport tag slot q a d) 0x30 tag s (s, refuse .badValue))

/-- R33, R34, R35, R36, R41, R77: a METER REPORT refused by the control check. With no settlement made first, a total that no step accepts,
or registers that went back, count a mismatch and take the meter to DISPUTE; a late settlement of a REFILL that the pool cannot cover takes
it there and counts nothing. After a settlement made in step 1 or 2, which leaves s1 with the record m1, registers that fail step 3 on m1
count a mismatch and take the meter to DISPUTE, the settlement standing; the result gives the totals as it left them (log 22). What a
settlement leaves is the second part of `MeterReportAccepted`. -/
def Obligations.MeterReportEntersDispute : Prop :=
  ∀ (tag : Half) (slot : Nat) (q : Half) (a d : Nat) (m : Meter) (s : State),
    s.record.mode = .service → slot < 512 → a ≤ 999999999999 → d ≤ 99999999 → s.meter? slot = some m → m.state ≠ .dispute →
    (∀ last ∈ m.lastSequence, 1 ≤ (q - last).toNat ∧ (q - last).toNat ≤ 64) →
    (m.ascending ≤ a → s.record.pool.franked + (a - m.ascending) ≤ 2 ^ 47 - 1) →
    (m.ascending ≤ a → m.kind = .postpaid →
      s.record.pool.arrears + ((a - m.ascending) - min (a - m.ascending) s.record.pool.balance) ≤ 2 ^ 47 - 1) →
    ((∀ g ∈ m.grantOut, a + d ≠ m.loaded + g.amount ∨ 99999999 < m.credit + g.amount) →
      (∀ v ∈ m.lastVoided, a + d ≠ m.loaded + v.amount ∨ 99999999 < m.credit + v.amount) →
      a + d ≠ m.loaded ∨ a < m.ascending ∨ m.credit < d →
      Answers (.meterReport tag slot q a d) 0x30 tag s
        ({ s with
            record.meters := Table.put s.record.meters slot
              { m with
                mismatches := min (m.mismatches + 1) 65535, state := .dispute, causes := { m.causes with dispute := true } }
            attentionMark := s.attentionMark || s.inForce.attentionEnable },
         refuseWith .controlMismatch (.reportMismatch m.loaded (m.grantOut.map (·.amount)) .none)))
    ∧ (∀ v : Voided, (∀ g ∈ m.grantOut, a + d ≠ m.loaded + g.amount ∨ 99999999 < m.credit + g.amount) →
      m.lastVoided = some v → v.kind = .refill → a + d = m.loaded + v.amount →
      m.credit + v.amount ≤ 99999999 → s.record.pool.balance < v.amount →
      Answers (.meterReport tag slot q a d) 0x30 tag s
        ({ s with
            record.meters := Table.put s.record.meters slot
              { m with state := .dispute, causes := { m.causes with dispute := true } }
            attentionMark := s.attentionMark || s.inForce.attentionEnable },
         refuseWith .poolShort (.lateShort v.amount s.record.pool.balance)))
    ∧ ∀ (first : Settlement) (field : SettledFirst) (s1 : State) (m1 : Meter),
      ((∃ g, m.grantOut = some g ∧ a + d = m.loaded + g.amount ∧ m.credit + g.amount ≤ 99999999 ∧ first = .grant g
          ∧ field = .grant g.number g.amount)
        ∨ (∀ g ∈ m.grantOut, a + d ≠ m.loaded + g.amount ∨ 99999999 < m.credit + g.amount)
          ∧ ∃ v, m.lastVoided = some v ∧ a + d = m.loaded + v.amount ∧ m.credit + v.amount ≤ 99999999 ∧ first = .late v
            ∧ field = .late v.number v.amount) →
      settleFor slot m s first = some s1 → s1.meter? slot = some m1 → a + d ≠ m1.loaded ∨ a < m1.ascending ∨ m1.credit < d →
      Answers (.meterReport tag slot q a d) 0x30 tag s
        ({ s1 with
            record.meters := Table.put s1.record.meters slot
              { m1 with
                mismatches := min (m1.mismatches + 1) 65535, state := .dispute, causes := { m1.causes with dispute := true } }
            attentionMark := s1.attentionMark || s.inForce.attentionEnable },
         refuseWith .controlMismatch (.reportMismatch m1.loaded (m1.grantOut.map (·.amount)) field))

/-- R33 to R40, R31, R98, R99, R101: an accepted METER REPORT. `first` is the settlement its total calls for and s1, m1 what that settlement
leaves. Credit takes d, the usage joins the franked total, a POSTPAID meter's usage is charged to the pool and the rest to arrears, an
OVERDUE meter returns to ACTIVE, and then the top-up is considered; a CLOSING meter retires instead, its queue entry goes, a PREPAID
meter's remaining credit is given to the pool, and the queue is served once for that credit or for the removal of its head. What the
result gives as C and L of a meter that retired is log 43. The second part says what the settlement leaves, here and in
`MeterReportEntersDispute`: with none the state as it was; of the grant out, C and L raised by it, the grant gone, and a REFILL's amount
off the reserved total; of the last voided grant, C and L raised, that grant cleared and, for a REFILL, P lowered and the spent total of
a branch whose allowance is in force raised; a REFILL that P does not cover leaves no state. The below-mark flag follows the new credit. -/
def Obligations.MeterReportAccepted : Prop :=
  (∀ (tag : Half) (slot : Nat) (q : Half) (a d : Nat) (m m1 : Meter) (first : Settlement) (s s1 : State),
    s.record.mode = .service → slot < 512 → a ≤ 999999999999 → d ≤ 99999999 → s.meter? slot = some m →
    m.state ≠ .dispute → (∀ last ∈ m.lastSequence, 1 ≤ (q - last).toNat ∧ (q - last).toNat ≤ 64) →
    m.ascending ≤ a → s.record.pool.franked + (a - m.ascending) ≤ 2 ^ 47 - 1 →
    (m.kind = .postpaid →
      s.record.pool.arrears + ((a - m.ascending) - min (a - m.ascending) s.record.pool.balance) ≤ 2 ^ 47 - 1) →
    ((∃ g, m.grantOut = some g ∧ a + d = m.loaded + g.amount ∧ m.credit + g.amount ≤ 99999999 ∧ first = .grant g)
      ∨ ((∀ g ∈ m.grantOut, a + d ≠ m.loaded + g.amount ∨ 99999999 < m.credit + g.amount)
        ∧ ((∃ v, m.lastVoided = some v ∧ a + d = m.loaded + v.amount ∧ m.credit + v.amount ≤ 99999999 ∧ first = .late v)
          ∨ ((∀ v ∈ m.lastVoided, a + d ≠ m.loaded + v.amount ∨ 99999999 < m.credit + v.amount) ∧ first = .none)))) →
    settleFor slot m s first = some s1 → s1.meter? slot = some m1 → a + d = m1.loaded → d ≤ m1.credit →
    ∀ (usage paid owed missed : Nat) (below lowCredit arrearsSet : Bool),
    usage = a - m.ascending →
    paid = (if m.kind = .postpaid then min usage s1.record.pool.balance else 0) →
    owed = (if m.kind = .postpaid then usage - paid else 0) →
    missed = (m.lastSequence.map (fun last => (q - last).toNat - 1)).getD 0 →
    below = decide (0 < m.markCode ∧ 8 * d < m.markCode * m.ceiling) → lowCredit = (below && !m1.belowMark) →
    arrearsSet = decide (s1.record.pool.arrears = 0 ∧ 0 < owed) →
    ∀ t : State, t =
      { s1 with
        record.meters := Table.put s1.record.meters slot
          { m1 with
            credit := d, ascending := a, lastSequence := some q, missed := min (m.missed + missed) 65535, daysSince := 0
            state := if m.state = .overdue then .active else m.state
            belowMark := below, causes := { m1.causes with lowCredit := m1.causes.lowCredit || lowCredit } }
        record.pool.franked := s1.record.pool.franked + usage
        record.pool.balance := s1.record.pool.balance - paid
        record.pool.arrears := s1.record.pool.arrears + owed
        record.deviceCauses.arrears := s1.record.deviceCauses.arrears || arrearsSet
        attentionMark := s1.attentionMark || ((lowCredit || arrearsSet) && s.inForce.attentionEnable) } →
    ∀ emptied : State, emptied =
      { t with
        record.meters := Table.erase t.record.meters slot
        record.queue := t.record.queue.filter (fun e => decide (e.slot ≠ slot))
        record.deviceCauses.poolWait := t.record.deviceCauses.poolWait
          && !(t.record.queue.any (fun e => decide (e.slot = slot)) && t.record.queue.all (fun e => decide (e.slot = slot))) } →
    ∀ ended : State × TopUp, ended =
      (if m.state ≠ .closing then topUp slot t
       else if m.kind = .prepaid ∧ 0 < d then
        ((serveQueue
            { emptied with
              record.pool.balance := t.record.pool.balance + (d - min t.record.pool.arrears d)
              record.pool.arrears := t.record.pool.arrears - min t.record.pool.arrears d
              record.deviceCauses.arrears := t.record.deviceCauses.arrears
                && !decide (0 < t.record.pool.arrears ∧ t.record.pool.arrears ≤ d) }).state, .notOriginated)
       else if (t.record.queue.head?.map (·.slot)) = some slot then ((serveQueue emptied).state, .notOriginated)
       else (emptied, .notOriginated)) →
    Answers (.meterReport tag slot q a d) 0x30 tag s
      (ended.1,
       done (.report
        { settledFirst := match first with | .none => .none | .grant g => .grant g.number g.amount | .late v => .late v.number v.amount
          usage := usage, missed := missed, credit := d, loaded := m1.loaded, charged := paid, arrearsAdded := owed
          retired := decide (m.state = .closing), credited := if m.state = .closing ∧ m.kind = .prepaid then d else 0
          topUp := ended.2 })))
  ∧ ∀ (slot : Nat) (m : Meter) (s : State), s.meter? slot = some m →
    settleFor slot m s .none = some s
    ∧ (∀ (g : GrantOut) (below falls : Bool),
      below = decide (0 < m.markCode ∧ 8 * (m.credit + g.amount) < m.markCode * m.ceiling) → falls = (below && !m.belowMark) →
      settleFor slot m s (.grant g) = some
        { s with
          record.meters := Table.put s.record.meters slot
            { m with
              credit := m.credit + g.amount, loaded := m.loaded + g.amount, grantOut := none, belowMark := below
              causes := { m.causes with lowCredit := m.causes.lowCredit || falls } }
          record.pool.reserved := s.record.pool.reserved - (if g.kind = .refill then g.amount else 0)
          attentionMark := s.attentionMark || (falls && s.inForce.attentionEnable) })
    ∧ ∀ (v : Voided) (below falls : Bool) (m' : Meter),
      below = decide (0 < m.markCode ∧ 8 * (m.credit + v.amount) < m.markCode * m.ceiling) → falls = (below && !m.belowMark) →
      m' =
        { m with
          credit := m.credit + v.amount, loaded := m.loaded + v.amount, lastVoided := none, belowMark := below
          causes := { m.causes with lowCredit := m.causes.lowCredit || falls } } →
      (v.kind = .limit → settleFor slot m s (.late v) = some
        { s with
          record.meters := Table.put s.record.meters slot m'
          attentionMark := s.attentionMark || (falls && s.inForce.attentionEnable) })
      ∧ (v.kind = .refill → v.amount ≤ s.record.pool.balance → allowanceOf s m.branch = none →
        settleFor slot m s (.late v) = some
          { s with
            record.meters := Table.put s.record.meters slot m'
            record.pool.balance := s.record.pool.balance - v.amount
            attentionMark := s.attentionMark || (falls && s.inForce.attentionEnable) })
      ∧ (∀ b, v.kind = .refill → v.amount ≤ s.record.pool.balance → s.branch? m.branch = some b → b.run ≠ .stopped →
        0 < b.allowance → ∀ (spent : Nat) (used : Bool), spent = min (b.spent + v.amount) (2 ^ 47 - 1) →
        used = decide (b.allowance < spent + s.inForce.refillStep) →
        settleFor slot m s (.late v) = some
          { s with
            record.meters := Table.put s.record.meters slot m'
            record.branches := Table.put s.record.branches m.branch
              { b with spent := spent, causes := { b.causes with allowanceSpent := b.causes.allowanceSpent || used } }
            record.pool.balance := s.record.pool.balance - v.amount
            attentionMark := s.attentionMark || ((used || falls) && s.inForce.attentionEnable) })
      ∧ (v.kind = .refill → s.record.pool.balance < v.amount → settleFor slot m s (.late v) = none)

/-- R47, R48, R61, R83: after an accepted report a refill of the headroom is originated for a PREPAID meter in AUTO TOP-UP that is ACTIVE,
below its mark, with no grant out, not queued and under NONE or FIXED. Its outcome sets GRANT_READY, TOPUP_DEFERRED or REFILL_REFUSED,
and counts a refusal but for BAD_VALUE. Otherwise nothing happens. The decision on it: a refusal of the amount computation stands;
with the queue empty a pool that covers the amount, or PARTIAL, issues it; else it joins the queue while the free places are more
than the near-full margin, and is refused QUEUE_FULL at the margin. -/
def Obligations.TopUpAfterReport : Prop :=
  ∀ (slot : Nat) (m : Meter) (s : State), s.meter? slot = some m →
    ∀ due : Prop, (due ↔ m.kind = .prepaid ∧ m.subMode = .second ∧ m.state = .active ∧ m.belowMark = true ∧ m.grantOut = none
      ∧ (∀ e ∈ s.record.queue, e.slot ≠ slot) ∧ (effective s m = .none ∨ effective s m = .fixed)) →
    (¬due → topUp slot s = (s, .notOriginated))
    ∧ (due → ∀ carried amount : Nat, carried = m.ceiling - m.credit →
        amount = (if effective s m = .fixed then m.standing else carried) →
        (∀ g reason, decideRefill s m .auto carried amount = .issue g reason →
          topUp slot s =
            (setMeterCause slot .grantReady (issueGrant slot m .refill g s), .issued m.nextGrant g reason))
        ∧ (∀ held, decideRefill s m .auto carried amount = .join held →
          topUp slot s =
            ({ s with
                record.queue := s.record.queue ++ [{ slot := slot, amount := held, origin := .auto, day := s.record.day }]
                record.queuePeak := max s.record.queuePeak (s.record.queue.length + 1)
                record.deviceCauses.poolWait := s.record.deviceCauses.poolWait || s.record.queue.isEmpty
                attentionMark := s.attentionMark || (s.record.queue.isEmpty && s.inForce.attentionEnable) }, .queued))
        ∧ (∀ st figures, decideRefill s m .auto carried amount = .refused st figures →
          topUp slot s =
            ({ s with
                record.meters := Table.put s.record.meters slot
                  { m with
                    refused := if st = .badValue then m.refused else min (m.refused + 1) 65535
                    causes :=
                      { m.causes with
                        topupDeferred := m.causes.topupDeferred || decide (st = .queueFull)
                        refillRefused := m.causes.refillRefused || decide (st ≠ .queueFull) } }
                attentionMark := s.attentionMark || s.inForce.attentionEnable },
             if st = .queueFull then .deferred st else .refused st))
        ∧ (∀ st figures, computeGrant s.inForce.refillStep (allowanceOf s m.branch) m amount = .refused st figures →
          decideRefill s m .auto carried amount = .refused st figures)
        ∧ ∀ g reason, computeGrant s.inForce.refillStep (allowanceOf s m.branch) m amount = .grant g reason →
          ∀ part held : Nat, part = s.record.pool.balance / s.inForce.refillStep * s.inForce.refillStep →
          held = (if 1 ≤ carried ∧ carried ≤ 99999999 then carried else amount) →
          decideRefill s m .auto carried amount =
            if s.record.queue = [] ∧ g ≤ s.record.pool.balance then .issue g reason
            else if s.record.queue = [] ∧ s.inForce.shortage = .partly ∧ s.inForce.refillStep ≤ part then .issue part .pool
            else if s.inForce.margin < 32 - s.record.queue.length then .join held
            else .refused .queueFull .none)

/-- R43 to R46: RESOLVE METER of a meter in DISPUTE voids any grant out (v), takes the registers given, returns the meter to ACTIVE and
clears the last sequence and the last voided grant; the usage joins the franked total. For a PREPAID meter the released refill less the
change of the loaded total is one movement of the pool; a POSTPAID meter's usage is charged. The checks refuse in their order. The net of a
POSTPAID resolution counts the charge paid as a debit (log 23). The second part gives the void of the grant out, short of its pool movement
(R71 steps 1 to 5). -/
def Obligations.ResolveMeterTakesRegisters : Prop :=
  (∀ (tag : Half) (slot a d : Nat) (s : State),
    (∀ st,
      (if s.record.mode ≠ .service then some Status.wrongMode
       else if 511 < slot ∨ 999999999999 < a ∨ 99999999 < d then some .badValue
       else
        match s.meter? slot with
        | none => some .unknownMeter
        | some m =>
          if m.state ≠ .dispute then some .wrongState
          else if a < m.ascending then some .badValue
          else if 2 ^ 47 - 1 < s.record.pool.franked + (a - m.ascending) then some .badValue
          else if m.kind = .postpaid ∧ 2 ^ 47 - 1 < s.record.pool.arrears
            + ((a - m.ascending) - min (a - m.ascending) s.record.pool.balance) then some .badValue
          else if m.kind = .prepaid ∧ (s.record.pool.balance : Int)
            + max 0 (((m.grantOut.map refillAmount).getD 0 : Int) - s.record.pool.arrears) < ((a + d : Nat) : Int) - m.loaded
            then some .poolShort
          else none) = some st →
      Answers (.resolveMeter tag slot a d) 0x31 tag s (s, refuse st))
    ∧ ∀ (m m1 : Meter) (v : State), s.record.mode = .service → slot < 512 → a ≤ 999999999999 → d ≤ 99999999 →
      s.meter? slot = some m → m.state = .dispute → m.ascending ≤ a →
      s.record.pool.franked + (a - m.ascending) ≤ 2 ^ 47 - 1 →
      v = (match m.grantOut with | none => s | some g => voidGrant slot m g s) → v.meter? slot = some m1 →
      ∀ (usage : Nat) (change net : Int) (below : Bool), usage = a - m.ascending → change = ((a + d : Nat) : Int) - m.loaded →
      net = ((m.grantOut.map refillAmount).getD 0 : Int) - change →
      below = decide (0 < m.markCode ∧ 8 * d < m.markCode * m.ceiling) →
      ∀ base : State, base =
        { v with
          record.meters := Table.put v.record.meters slot
            { m1 with
              credit := d, ascending := a, loaded := a + d, lastVoided := none, lastSequence := none, daysSince := 0
              state := .active, belowMark := below
              causes := { m1.causes with lowCredit := m1.causes.lowCredit || (below && !m.belowMark) } }
          record.pool.franked := s.record.pool.franked + usage
          attentionMark := v.attentionMark || ((below && !m.belowMark) && s.inForce.attentionEnable) } →
      ∀ report : Int → Nat → Nat → ResolveOutcome, (∀ moved paid owed, report moved paid owed =
        { change := change, net := moved, charged := paid, arrearsAdded := owed
          voided := m.grantOut.map (fun g => (g.number, g.amount)), credit := d, ascending := a, loaded := a + d }) →
      (m.kind = .prepaid → net ≤ 0 → -net ≤ s.record.pool.balance →
        change ≤ (s.record.pool.balance : Int)
          + max 0 (((m.grantOut.map refillAmount).getD 0 : Int) - s.record.pool.arrears) →
        Answers (.resolveMeter tag slot a d) 0x31 tag s
          ({ base with record.pool.balance := s.record.pool.balance - (-net).toNat }, done (.resolved (report net 0 0))))
      ∧ (m.kind = .prepaid → 0 < net →
        change ≤ (s.record.pool.balance : Int)
          + max 0 (((m.grantOut.map refillAmount).getD 0 : Int) - s.record.pool.arrears) →
        ∀ back paid : Nat, back = net.toNat → paid = min s.record.pool.arrears back →
        Answers (.resolveMeter tag slot a d) 0x31 tag s
          ((serveQueue
              { base with
                record.pool.balance := s.record.pool.balance + (back - paid)
                record.pool.arrears := s.record.pool.arrears - paid
                record.deviceCauses.arrears := s.record.deviceCauses.arrears
                  && !decide (0 < s.record.pool.arrears ∧ s.record.pool.arrears ≤ back) }).state,
           done (.resolved (report net 0 0))))
      ∧ (m.kind = .postpaid → ∀ paid owed : Nat, paid = min usage s.record.pool.balance → owed = usage - paid →
        s.record.pool.arrears + owed ≤ 2 ^ 47 - 1 →
        Answers (.resolveMeter tag slot a d) 0x31 tag s
          ({ base with
              record.pool.balance := s.record.pool.balance - paid
              record.pool.arrears := s.record.pool.arrears + owed
              record.deviceCauses.arrears := s.record.deviceCauses.arrears || decide (s.record.pool.arrears = 0 ∧ 0 < owed)
              attentionMark := base.attentionMark
                || (decide (s.record.pool.arrears = 0 ∧ 0 < owed) && s.inForce.attentionEnable) },
           done (.resolved (report (-(paid : Int)) paid owed)))))
  ∧ ∀ (slot : Nat) (m : Meter) (g : GrantOut) (s : State), s.meter? slot = some m →
    refillAmount g = (if g.kind = .refill then g.amount else 0)
    ∧ voidGrant slot m g s =
      { s with
        record.meters := Table.put s.record.meters slot
          { m with
            grantOut := none
            lastVoided := some { number := g.number, amount := g.amount, kind := g.kind }
            voids := min (m.voids + 1) 65535
            causes := { m.causes with grantVoided := true } }
        record.branches :=
          match s.branch? g.branch with
          | none => s.record.branches
          | some b =>
            if g.counted = true ∧ b.cycle = g.cycle then
              Table.put s.record.branches g.branch { b with spent := b.spent - g.amount }
            else s.record.branches
        record.pool.reserved := s.record.pool.reserved - (if g.kind = .refill then g.amount else 0)
        attentionMark := s.attentionMark || s.inForce.attentionEnable }

/-! ## Grants and the Refill Queue -/

/-- R55 to R59, R16, R117, before the pool: the amount computation grants the largest whole number of refill steps above 0 that neither the
requested amount, the headroom nor the remaining allowance forbids, with the last of these steps that reduced it as its reason, and refuses
an amount out of range BAD_VALUE, a headroom below one step AT_CEILING, and otherwise by whether the allowance reduced it. The remaining
allowance is max(0, A - W) where the branch's cycle is RUNNING or PAUSED with A above 0, and there is none otherwise; the conditioning that
governs is the global one where it is not NONE (R16). -/
def Obligations.GrantAmountIsLargest : Prop :=
  (∀ (step : Nat) (allowance : Option Nat) (m : Meter) (r : Nat), 0 < step →
    (∀ st figures, computeGrant step allowance m r = .refused st figures →
      (st = .badValue ∧ ¬(1 ≤ r ∧ r ≤ 99999999))
      ∨ (1 ≤ r ∧ r ≤ 99999999 ∧ st = .atCeiling ∧ figures = .headroom ((m.ceiling : Int) - m.credit) step
          ∧ ((m.ceiling : Int) - m.credit < step
            ∨ (r < step ∧ ∀ q ∈ allowance, min r (m.ceiling - m.credit) ≤ q)))
      ∨ (1 ≤ r ∧ r ≤ 99999999 ∧ st = .allowanceSpent ∧ (step : Int) ≤ (m.ceiling : Int) - m.credit
          ∧ ∃ q ∈ allowance, figures = .allowanceLeft q ∧ q < step ∧ q < min r (m.ceiling - m.credit)))
    ∧ ∀ g reason, computeGrant step allowance m r = .grant g reason →
      1 ≤ r ∧ r ≤ 99999999 ∧ 0 < g ∧ step ∣ g ∧ g ≤ r ∧ m.credit + g ≤ m.ceiling ∧ (∀ q ∈ allowance, g ≤ q)
      ∧ (∀ n, step ∣ n → n ≤ r → m.credit + n ≤ m.ceiling → (∀ q ∈ allowance, n ≤ q) → n ≤ g)
      ∧ (reason = .allowance ↔ ∃ q ∈ allowance, q < min r (m.ceiling - m.credit))
      ∧ (reason = .ceiling ↔ (∀ q ∈ allowance, min r (m.ceiling - m.credit) ≤ q) ∧ m.ceiling - m.credit < r)
      ∧ reason ≠ .pool)
  ∧ ∀ (s : State) (m : Meter),
    (∀ (branch q : Nat), allowanceOf s branch = some q ↔
      ∃ b, s.branch? branch = some b ∧ (b.run = .running ∨ b.run = .paused) ∧ 0 < b.allowance
        ∧ (q : Int) = max 0 ((b.allowance : Int) - (b.spent : Int)))
    ∧ effective s m = (if s.inForce.conditioning = .none then m.conditioning else s.inForce.conditioning)

/-- R61, R62, R63, R97, R121, R122: a REFILL REQUEST that passes every check is issued where the queue is empty and the pool covers the
amount G, or G' under PARTIAL with reason POOL. P falls and the reserved total rises by the amount; where the branch's allowance is in force
the branch's spent total rises too, with ALLOWANCE_SPENT where less than one step then remains; the meter holds the grant out. -/
def Obligations.RefillRequestIssued : Prop :=
  ∀ (tag : Half) (slot asked amount g grant : Nat) (reason given : Reason) (m : Meter) (s : State),
    slot < 512 → s.meter? slot = some m → s.record.mode = .service → m.state = .active →
    (effective s m = .none ∧ amount = asked ∨ effective s m = .fixed ∧ amount = m.standing) →
    m.grantOut = none → s.record.queue = [] → m.kind = .prepaid →
    computeGrant s.inForce.refillStep (allowanceOf s m.branch) m amount = .grant g reason →
    (g ≤ s.record.pool.balance ∧ grant = g ∧ given = reason
      ∨ s.record.pool.balance < g ∧ s.inForce.shortage = .partly ∧ s.inForce.refillStep ≤ grant ∧ given = .pool
        ∧ grant = s.record.pool.balance / s.inForce.refillStep * s.inForce.refillStep) →
    ∀ m' : Bool → Byte → Meter, (∀ counted cycle, m' counted cycle =
      { m with
        grantOut := some
          { number := m.nextGrant, amount := grant, kind := .refill, branch := m.branch, counted := counted, cycle := cycle
            remaining := s.inForce.loadTimeout }
        nextGrant := if m.nextGrant = 65535 then 1 else m.nextGrant + 1 }) →
    (allowanceOf s m.branch = none →
      Answers (.refillRequest tag slot asked) 0x40 tag s
        ({ s with
            record.meters := Table.put s.record.meters slot
              (m' false (match s.branch? m.branch with | none => 0 | some b => b.cycle))
            record.pool.balance := s.record.pool.balance - grant
            record.pool.reserved := s.record.pool.reserved + grant },
         done (.grant m.nextGrant .refill given s.inForce.loadTimeout slot grant (m.loaded + grant))))
    ∧ ∀ b, s.branch? m.branch = some b → b.run ≠ .stopped → 0 < b.allowance →
      ∀ (spent : Nat) (used : Bool), spent = min (b.spent + grant) (2 ^ 47 - 1) →
      used = decide (b.allowance < spent + s.inForce.refillStep) →
      Answers (.refillRequest tag slot asked) 0x40 tag s
        ({ s with
            record.meters := Table.put s.record.meters slot (m' true b.cycle)
            record.branches := Table.put s.record.branches m.branch
              { b with spent := spent, causes := { b.causes with allowanceSpent := b.causes.allowanceSpent || used } }
            record.pool.balance := s.record.pool.balance - grant
            record.pool.reserved := s.record.pool.reserved + grant
            attentionMark := s.attentionMark || (used && s.inForce.attentionEnable) },
         done (.grant m.nextGrant .refill given s.inForce.loadTimeout slot grant (m.loaded + grant)))

/-- R61, R82, R84, R93: a REFILL REQUEST that passes every check joins the tail of the queue where entries wait, or where the pool is short
and PARTIAL grants nothing: the entry holds the amount the request carried, POOL_WAIT is set when the queue was empty, and nothing else
changes. A full queue refuses QUEUE_FULL, counted. -/
def Obligations.RefillRequestJoinsQueue : Prop :=
  ∀ (tag : Half) (slot asked amount g : Nat) (reason : Reason) (m : Meter) (s : State),
    slot < 512 → s.meter? slot = some m → s.record.mode = .service → m.state = .active →
    (effective s m = .none ∧ amount = asked ∨ effective s m = .fixed ∧ amount = m.standing) →
    m.grantOut = none → (∀ e ∈ s.record.queue, e.slot ≠ slot) → m.kind = .prepaid →
    computeGrant s.inForce.refillStep (allowanceOf s m.branch) m amount = .grant g reason →
    (s.record.queue ≠ [] ∨ (s.record.pool.balance < g
      ∧ (s.inForce.shortage = .wait
        ∨ s.record.pool.balance / s.inForce.refillStep * s.inForce.refillStep < s.inForce.refillStep))) →
    (s.record.queue.length < 32 → ∀ held : Nat, held = (if 1 ≤ asked ∧ asked ≤ 99999999 then asked else amount) →
      Answers (.refillRequest tag slot asked) 0x40 tag s
        ({ s with
            record.queue := s.record.queue ++ [{ slot := slot, amount := held, origin := .host, day := s.record.day }]
            record.queuePeak := max s.record.queuePeak (s.record.queue.length + 1)
            record.deviceCauses.poolWait := s.record.deviceCauses.poolWait || s.record.queue.isEmpty
            attentionMark := s.attentionMark || (s.record.queue.isEmpty && s.inForce.attentionEnable) },
         { status := .queued, outcome := .joined held s.record.queue.length }))
    ∧ (32 ≤ s.record.queue.length →
      Answers (.refillRequest tag slot asked) 0x40 tag s
        ({ s with record.meters := Table.put s.record.meters slot { m with refused := min (m.refused + 1) 65535 } },
         refuse .queueFull))

/-- R60, R62, R63: a LIMIT REQUEST that passes every check moves no funds: with no arrears the limit is issued, never counted, and with
arrears it is refused POOL_SHORT, counted. -/
def Obligations.LimitRequestAnswered : Prop :=
  ∀ (tag : Half) (slot asked amount g : Nat) (reason : Reason) (m : Meter) (s : State),
    slot < 512 → s.meter? slot = some m → s.record.mode = .service → m.state = .active →
    (effective s m = .none ∧ amount = asked ∨ effective s m = .fixed ∧ amount = m.standing) →
    m.grantOut = none → (∀ e ∈ s.record.queue, e.slot ≠ slot) → m.kind = .postpaid →
    computeGrant s.inForce.refillStep none m amount = .grant g reason →
    (s.record.pool.arrears = 0 →
      Answers (.limitRequest tag slot asked) 0x41 tag s
        ({ s with
            record.meters := Table.put s.record.meters slot
              { m with
                grantOut := some
                  { number := m.nextGrant, amount := g, kind := .limit, branch := m.branch, counted := false
                    cycle := match s.branch? m.branch with | none => 0 | some b => b.cycle
                    remaining := s.inForce.loadTimeout }
                nextGrant := if m.nextGrant = 65535 then 1 else m.nextGrant + 1 } },
         done (.grant m.nextGrant .limit reason s.inForce.loadTimeout slot g (m.loaded + g))))
    ∧ (0 < s.record.pool.arrears →
      Answers (.limitRequest tag slot asked) 0x41 tag s
        ({ s with record.meters := Table.put s.record.meters slot { m with refused := min (m.refused + 1) 65535 } },
         refuseWith .poolShort (.arrears s.record.pool.arrears)))

/-- R52, R22, R54, R56, R58: the checks of REFILL REQUEST and LIMIT REQUEST in their order, each refusal of a non-empty meter counted but
for WRONG_MODE and BAD_VALUE. Under TRIAL the answer is TRIAL and the request changes nothing at all. A refusal for which no rule lists a
figure carries its status alone (log 28). -/
def Obligations.GrantRequestRefusedOrTrial : Prop :=
  ∀ (tag : Half) (kind : GrantKind) (slot asked : Nat) (s : State) (c : Instr) (code : Half),
    (kind = .refill ∧ c = .refillRequest tag slot asked ∧ code = 0x40
      ∨ kind = .limit ∧ c = .limitRequest tag slot asked ∧ code = 0x41) →
    (511 < slot → Answers c code tag s (s, refuse .badValue))
    ∧ (slot < 512 → s.meter? slot = none → Answers c code tag s (s, refuse .unknownMeter))
    ∧ ∀ m, slot < 512 → s.meter? slot = some m →
      (s.record.mode ≠ .service → Answers c code tag s (s, refuse .wrongMode))
      ∧ (s.record.mode = .service → effective s m = .trial → ∀ part : Nat,
          part = s.record.pool.balance / s.inForce.refillStep * s.inForce.refillStep →
          Answers c code tag s
            (s,
             { status := .trial
               outcome :=
                if m.state = .overdue then .wouldRefuse .overdue .none
                else if m.state = .dispute then .wouldRefuse .disputed .none
                else if m.state = .closing then .wouldRefuse .wrongState .none
                else if m.grantOut.isSome then .wouldRefuse .grantOut .none
                else if ∃ e ∈ s.record.queue, e.slot = slot then .wouldRefuse .alreadyQueued .none
                else if m.kind ≠ (match kind with | .refill => .prepaid | .limit => .postpaid) then .wouldRefuse .wrongState .none
                else
                  match computeGrant s.inForce.refillStep (if kind = .refill then allowanceOf s m.branch else none) m asked with
                  | .refused st figures => .wouldRefuse st figures
                  | .grant g reason =>
                    if kind = .limit ∧ 0 < s.record.pool.arrears then .wouldRefuse .poolShort (.arrears s.record.pool.arrears)
                    else if kind = .limit ∨ (s.record.queue = [] ∧ g ≤ s.record.pool.balance) then
                      .wouldIssue g reason m.nextGrant (m.loaded + g)
                    else if s.record.queue = [] ∧ s.inForce.shortage = .partly ∧ s.inForce.refillStep ≤ part then
                      .wouldIssue part .pool m.nextGrant (m.loaded + part)
                    else if s.record.queue.length < 32 then .wouldQueue asked s.record.queue.length
                    else .wouldRefuse .queueFull .none }))
      ∧ (s.record.mode = .service → effective s m ≠ .trial → ∀ (st : Status) (figures : Outcome) (amount : Nat),
          amount = (if effective s m = .fixed then m.standing else asked) →
          (if m.state = .overdue then some (Status.overdue, Outcome.none)
           else if m.state = .dispute then some (.disputed, .none)
           else if m.state = .closing then some (.wrongState, .none)
           else if effective s m = .hold then some (.held, .none)
           else if m.grantOut.isSome then some (.grantOut, .none)
           else if ∃ e ∈ s.record.queue, e.slot = slot then some (.alreadyQueued, .none)
           else if m.kind ≠ (match kind with | .refill => .prepaid | .limit => .postpaid) then some (.wrongState, .none)
           else
            match computeGrant s.inForce.refillStep (if kind = .refill then allowanceOf s m.branch else none) m amount with
            | .refused st' f => some (st', f)
            | .grant _ _ => none) = some (st, figures) →
          Answers c code tag s
            ({ s with
                record.meters := Table.put s.record.meters slot
                  { m with refused := if st = .badValue then m.refused else min (m.refused + 1) 65535 } },
             refuseWith st figures))

/-- R68 to R70, R75 to R77, R41: LOAD CONFIRM. Its checks refuse in the order of the prose (log 30). A total of L + G for the grant out
settles it; any other total but L counts a mismatch; a number that names no grant held is answered NO_GRANT with nothing changed;
L + Gv for the last voided grant settles it late, from the pool for a REFILL, or takes the meter to DISPUTE where the pool is short. -/
def Obligations.LoadConfirmSettles : Prop :=
  ∀ (tag : Half) (slot number total : Nat) (s : State),
    (∀ st,
      (if s.record.mode = .locked then some Status.wrongMode
       else if 511 < slot ∨ number < 1 ∨ 65535 < number ∨ 1000099999998 < total then some .badValue
       else if s.meter? slot = none then some .unknownMeter
       else none) = some st →
      Answers (.loadConfirm tag slot number total) 0x42 tag s (s, refuse st))
    ∧ ∀ m : Meter, s.record.mode ≠ .locked → slot < 512 → 1 ≤ number → number ≤ 65535 → total ≤ 1000099999998 →
    s.meter? slot = some m →
    (∀ g, m.grantOut = some g → g.number = number → ∀ below : Bool,
      below = decide (0 < m.markCode ∧ 8 * (m.credit + g.amount) < m.markCode * m.ceiling) →
      (total = m.loaded + g.amount → m.credit + g.amount ≤ 99999999 →
        Answers (.loadConfirm tag slot number total) 0x42 tag s
          ({ s with
              record.meters := Table.put s.record.meters slot
                { m with
                  credit := m.credit + g.amount, loaded := m.loaded + g.amount, grantOut := none, belowMark := below
                  causes := { m.causes with lowCredit := m.causes.lowCredit || (below && !m.belowMark) } }
              record.pool.reserved := s.record.pool.reserved - (if g.kind = .refill then g.amount else 0)
              attentionMark := s.attentionMark || ((below && !m.belowMark) && s.inForce.attentionEnable) },
           done (.settled number g.amount (m.credit + g.amount) (m.loaded + g.amount))))
      ∧ (total ≠ m.loaded → total ≠ m.loaded + g.amount ∨ 99999999 < m.credit + g.amount →
        Answers (.loadConfirm tag slot number total) 0x42 tag s
          ({ s with
              record.meters := Table.put s.record.meters slot { m with mismatches := min (m.mismatches + 1) 65535 } },
           refuseWith .controlMismatch (.confirmMismatch m.loaded g.amount))))
    ∧ (∀ g, m.grantOut = some g → g.number ≠ number →
        Answers (.loadConfirm tag slot number total) 0x42 tag s (s, refuseWith .noGrant (.numberHeld (some g.number))))
    ∧ (m.grantOut = none →
        (∀ v ∈ m.lastVoided, v.number ≠ number ∨ total ≠ m.loaded + v.amount ∨ 99999999 < m.credit + v.amount) →
        Answers (.loadConfirm tag slot number total) 0x42 tag s
          (s, refuseWith .noGrant (.numberHeld (m.lastVoided.map (·.number)))))
    ∧ ∀ v, m.grantOut = none → m.lastVoided = some v → v.number = number → total = m.loaded + v.amount →
      m.credit + v.amount ≤ 99999999 → ∀ (below : Bool) (m' : Meter) (late : Reply),
      below = decide (0 < m.markCode ∧ 8 * (m.credit + v.amount) < m.markCode * m.ceiling) →
      m' =
        { m with
          credit := m.credit + v.amount, loaded := m.loaded + v.amount, lastVoided := none, belowMark := below
          causes := { m.causes with lowCredit := m.causes.lowCredit || (below && !m.belowMark) } } →
      late = { status := .settledLate, outcome := .settled number v.amount (m.credit + v.amount) (m.loaded + v.amount) } →
      (v.kind = .limit →
        Answers (.loadConfirm tag slot number total) 0x42 tag s
          ({ s with
              record.meters := Table.put s.record.meters slot m'
              attentionMark := s.attentionMark || ((below && !m.belowMark) && s.inForce.attentionEnable) }, late))
      ∧ (v.kind = .refill → v.amount ≤ s.record.pool.balance → allowanceOf s m.branch = none →
        Answers (.loadConfirm tag slot number total) 0x42 tag s
          ({ s with
              record.meters := Table.put s.record.meters slot m'
              record.pool.balance := s.record.pool.balance - v.amount
              attentionMark := s.attentionMark || ((below && !m.belowMark) && s.inForce.attentionEnable) }, late))
      ∧ (∀ b, v.kind = .refill → v.amount ≤ s.record.pool.balance → s.branch? m.branch = some b → b.run ≠ .stopped →
        0 < b.allowance → ∀ (spent : Nat) (used : Bool), spent = min (b.spent + v.amount) (2 ^ 47 - 1) →
        used = decide (b.allowance < spent + s.inForce.refillStep) →
        Answers (.loadConfirm tag slot number total) 0x42 tag s
          ({ s with
              record.meters := Table.put s.record.meters slot m'
              record.branches := Table.put s.record.branches m.branch
                { b with spent := spent, causes := { b.causes with allowanceSpent := b.causes.allowanceSpent || used } }
              record.pool.balance := s.record.pool.balance - v.amount
              attentionMark := s.attentionMark || ((used || (below && !m.belowMark)) && s.inForce.attentionEnable) }, late))
      ∧ (v.kind = .refill → s.record.pool.balance < v.amount →
        Answers (.loadConfirm tag slot number total) 0x42 tag s
          ({ s with
              record.meters := Table.put s.record.meters slot
                { m with state := .dispute, causes := { m.causes with dispute := true } }
              attentionMark := s.attentionMark || s.inForce.attentionEnable },
           refuseWith .poolShort (.lateShort v.amount s.record.pool.balance)))

/-- R71 to R74, R66, R68, R99, R15: the checks of CANCEL GRANT in the order of the prose (log 30), NO_GRANT, with the status alone (log 28),
among them; and the void of a grant out, by CANCEL GRANT, by a LOAD CONFIRM of the total L, by the expiry of its timer at 0, and by RETIRE
METER. The grant becomes the last voided grant, is counted, sets GRANT_VOIDED, lowers the spent total of the branch at issue while that
branch holds the grant's cycle number, and for a REFILL its amount leaves the reserved total and is a pool credit that serves the queue. A
LOAD_TIMER_EXPIRY of a slot that is EMPTY, has no grant out, or whose timer is above 0 changes nothing (logs 13 and 14). -/
def Obligations.GrantVoided : Prop :=
  ∀ (tag : Half) (slot : Nat) (s : State),
    (∀ number st,
      (if s.record.mode = .locked then some Status.wrongMode
       else if 511 < slot ∨ number < 1 ∨ 65535 < number then some .badValue
       else
        match s.meter? slot with
        | none => some .unknownMeter
        | some m => if ∀ g ∈ m.grantOut, g.number ≠ number then some .noGrant else none) = some st →
      Answers (.cancelGrant tag slot number) 0x43 tag s (s, refuse st))
    ∧ ((∀ m, s.meter? slot = some m → ∀ g ∈ m.grantOut, 0 < g.remaining) → exec (.loadTimerExpiry slot) s = .next s)
    ∧ ∀ (m : Meter) (g : GrantOut),
    slot < 512 → s.meter? slot = some m → m.grantOut = some g → (∀ e ∈ s.record.queue, e.slot ≠ slot) →
    ∀ (back paid : Nat) (voided t : State), back = (if g.kind = .refill then g.amount else 0) →
    paid = min s.record.pool.arrears back →
    voided =
      { s with
        record.meters := Table.put s.record.meters slot
          { m with
            grantOut := none
            lastVoided := some { number := g.number, amount := g.amount, kind := g.kind }
            voids := min (m.voids + 1) 65535
            causes := { m.causes with grantVoided := true } }
        record.branches :=
          match s.branch? g.branch with
          | none => s.record.branches
          | some b =>
            if g.counted = true ∧ b.cycle = g.cycle then
              Table.put s.record.branches g.branch { b with spent := b.spent - g.amount }
            else s.record.branches
        record.pool.reserved := s.record.pool.reserved - back
        record.pool.balance := s.record.pool.balance + (back - paid)
        record.pool.arrears := s.record.pool.arrears - paid
        record.deviceCauses.arrears := s.record.deviceCauses.arrears
          && !decide (0 < s.record.pool.arrears ∧ 0 < back ∧ s.record.pool.arrears ≤ back)
        attentionMark := s.attentionMark || s.inForce.attentionEnable } →
    t = (if back = 0 then voided else (serveQueue voided).state) →
    (s.powered = true → g.remaining = 0 → exec (.loadTimerExpiry slot) s = .next t)
    ∧ (s.record.mode ≠ .locked → 1 ≤ g.number → g.number ≤ 65535 →
        Answers (.cancelGrant tag slot g.number) 0x43 tag s (t, done (.cancelled g.number g.amount))
        ∧ (m.loaded ≤ 1000099999998 → 0 < g.amount →
          Answers (.loadConfirm tag slot g.number m.loaded) 0x42 tag s (t, done .declined)))
    ∧ ∀ off : Nat, off = (if m.kind = .prepaid then m.credit else 0) → s.record.mode = .service →
        (m.kind = .prepaid → s.record.pool.writtenOff + m.credit ≤ 2 ^ 47 - 1) →
        Answers (.retireMeter tag slot) 0x24 tag s
          ({ t with
              record.meters := Table.erase t.record.meters slot
              record.pool.writtenOff := t.record.pool.writtenOff + off },
           done (.retired (some (g.number, g.amount)) off))

/-- R85 to R90: a serving runs in SERVICE alone, one round on the head entry after another until a round stops: with the queue empty or the
pool at 0 a round stops, and else it issues the head entry, removes it, or stops (`ServingRoundOutcomes`). So it ends with the queue empty,
the pool at 0, or a head entry that is eligible, whose computation reaches an amount the pool cannot cover and that PARTIAL does not grant;
every entry before it was issued or removed, and those behind it keep their order. -/
def Obligations.ServingStopsAtUncoveredHead : Prop :=
  ∀ s : State,
    (s.record.mode ≠ .service → serveQueue s = { state := s, issued := 0, removed := 0 })
    ∧ (s.record.mode = .service →
      (s.record.queue = [] ∨ s.record.pool.balance = 0 → serveRound s = .stop)
      ∧ (serveRound s = .stop → serveQueue s = { state := s, issued := 0, removed := 0 })
      ∧ (∀ t, serveRound s = .issued t → serveQueue s = { serveQueue t with issued := (serveQueue t).issued + 1 })
      ∧ ∀ t, serveRound s = .removed t → serveQueue s = { serveQueue t with removed := (serveQueue t).removed + 1 })
    ∧ (s.record.mode = .service → ∀ r : Served, r = serveQueue s →
      r.state.record.queue = s.record.queue.drop (r.issued + r.removed)
      ∧ (r.state.record.queue = [] ∨ r.state.record.pool.balance = 0
        ∨ ∃ e m g reason, r.state.record.queue.head? = some e ∧ r.state.meter? e.slot = some m
          ∧ m.state = .active ∧ m.grantOut = none ∧ (effective r.state m = .none ∨ effective r.state m = .fixed)
          ∧ computeGrant s.inForce.refillStep (allowanceOf r.state m.branch) m
              (if effective r.state m = .fixed then m.standing else e.amount) = .grant g reason
          ∧ r.state.record.pool.balance < g
          ∧ (s.inForce.shortage = .wait
            ∨ r.state.record.pool.balance / s.inForce.refillStep * s.inForce.refillStep < s.inForce.refillStep))
      ∧ r.state.record.pool.balance + r.state.record.pool.reserved = s.record.pool.balance + s.record.pool.reserved
      ∧ (r.issued = 0 → r.state.record.pool = s.record.pool)
      ∧ ∀ slot, (∀ e ∈ s.record.queue, e.slot ≠ slot) → r.state.meter? slot = s.meter? slot)

/-- R87 to R89, R62: one round of serving with funds in the pool. A head entry whose meter is not eligible is dropped with QUEUE_DROPPED;
one whose computation refuses is removed with REFILL_REFUSED, counted but for BAD_VALUE; one the pool covers, or PARTIAL grants in part, is
issued with GRANT_READY. An emptied queue loses POOL_WAIT. The second part gives what such an issue leaves, here and in `TopUpAfterReport`:
the grant out, P and the reserved total, and the spent total of a branch whose allowance is in force. -/
def Obligations.ServingRoundOutcomes : Prop :=
  (∀ (s left : State) (e : QueueEntry) (rest : List QueueEntry) (m : Meter) (able : Prop) (amount : Nat),
    s.record.queue = e :: rest → 0 < s.record.pool.balance → s.meter? e.slot = some m →
    left =
      { s with
        record.queue := rest
        record.deviceCauses.poolWait := s.record.deviceCauses.poolWait && !rest.isEmpty } →
    (able ↔ m.state = .active ∧ m.grantOut = none ∧ (effective s m = .none ∨ effective s m = .fixed)) →
    amount = (if effective s m = .fixed then m.standing else e.amount) →
    (¬able → serveRound s = .removed
      { left with
        record.meters := Table.put s.record.meters e.slot { m with causes := { m.causes with queueDropped := true } }
        attentionMark := s.attentionMark || s.inForce.attentionEnable })
    ∧ (able → ∀ st figures,
        computeGrant s.inForce.refillStep (allowanceOf s m.branch) m amount = .refused st figures →
        serveRound s = .removed
          { left with
            record.meters := Table.put s.record.meters e.slot
              { m with
                refused := if st = .badValue then m.refused else min (m.refused + 1) 65535
                causes := { m.causes with refillRefused := true } }
            attentionMark := s.attentionMark || s.inForce.attentionEnable })
    ∧ (able → ∀ g reason, computeGrant s.inForce.refillStep (allowanceOf s m.branch) m amount = .grant g reason →
        (g ≤ s.record.pool.balance →
          serveRound s = .issued (setMeterCause e.slot .grantReady (issueGrant e.slot m .refill g left)))
        ∧ (s.record.pool.balance < g → ∀ part, part = s.record.pool.balance / s.inForce.refillStep * s.inForce.refillStep →
          (s.inForce.shortage = .partly → s.inForce.refillStep ≤ part →
            serveRound s = .issued (setMeterCause e.slot .grantReady (issueGrant e.slot m .refill part left)))
          ∧ (s.inForce.shortage = .wait ∨ part < s.inForce.refillStep → serveRound s = .stop))))
  ∧ ∀ (slot g : Nat) (m : Meter) (s : State), s.meter? slot = some m →
    ∀ m' : Bool → Byte → Meter, (∀ counted cycle, m' counted cycle =
      { m with
        grantOut := some
          { number := m.nextGrant, amount := g, kind := .refill, branch := m.branch, counted := counted, cycle := cycle
            remaining := s.inForce.loadTimeout }
        nextGrant := if m.nextGrant = 65535 then 1 else m.nextGrant + 1
        causes := { m.causes with grantReady := true } }) →
    (allowanceOf s m.branch = none →
      setMeterCause slot .grantReady (issueGrant slot m .refill g s) =
        { s with
          record.meters := Table.put s.record.meters slot
            (m' false (match s.branch? m.branch with | none => 0 | some b => b.cycle))
          record.pool.balance := s.record.pool.balance - g
          record.pool.reserved := s.record.pool.reserved + g
          attentionMark := s.attentionMark || s.inForce.attentionEnable })
    ∧ ∀ b, s.branch? m.branch = some b → b.run ≠ .stopped → 0 < b.allowance → ∀ spent : Nat,
      spent = min (b.spent + g) (2 ^ 47 - 1) →
      setMeterCause slot .grantReady (issueGrant slot m .refill g s) =
        { s with
          record.meters := Table.put s.record.meters slot (m' true b.cycle)
          record.branches := Table.put s.record.branches m.branch
            { b with
              spent := spent
              causes :=
                { b.causes with
                  allowanceSpent := b.causes.allowanceSpent || decide (b.allowance < spent + s.inForce.refillStep) } }
          record.pool.balance := s.record.pool.balance - g
          record.pool.reserved := s.record.pool.reserved + g
          attentionMark := s.attentionMark || s.inForce.attentionEnable }

/-- R91, R92, R93: CANCEL QUEUED removes a meter's entry, serving the queue where it stood at the head; READ QUEUE gives up to 8 entries and
the depth indicator, and restarts the peak figure at the number of entries. The checks answer in the order of the prose (log 30), and
the result of CANCEL QUEUED carries the whole entry (log 47). -/
def Obligations.QueueCancelledAndRead : Prop :=
  ∀ (tag : Half) (s : State),
    (∀ slot : Nat,
      (∀ st,
        (if s.record.mode ≠ .service then some Status.wrongMode
         else if 511 < slot then some .badValue
         else if s.meter? slot = none then some .unknownMeter
         else if ∀ e ∈ s.record.queue, e.slot ≠ slot then some .notQueued
         else none) = some st →
        Answers (.cancelQueued tag slot) 0x50 tag s (s, refuse st))
      ∧ ∀ (front behind : List QueueEntry) (e : QueueEntry), s.record.mode = .service → slot < 512 → (s.meter? slot).isSome →
        s.record.queue = front ++ e :: behind → e.slot = slot → (∀ x ∈ front ++ behind, x.slot ≠ slot) →
        ∀ left : State, left =
          { s with
            record.queue := front ++ behind
            record.deviceCauses.poolWait := s.record.deviceCauses.poolWait && !(front ++ behind).isEmpty } →
        Answers (.cancelQueued tag slot) 0x50 tag s
          (if front = [] then (serveQueue left).state else left, done (.entryRemoved front.length e)))
    ∧ ∀ start : Nat,
      Answers (.readQueue tag start) 0x51 tag s
        (if s.record.mode = .locked then (s, refuse .wrongMode)
         else if 31 < start then (s, refuse .badValue)
         else
          ({ s with record.queuePeak := s.record.queue.length },
           done (.queue
            { count := s.record.queue.length
              depth := if s.inForce.depth = .peak then s.record.queuePeak else s.record.queue.length
              indicator := s.inForce.depth, shortage := s.inForce.shortage, margin := s.inForce.margin, day := s.record.day
              entries := (((s.record.queue.zipIdx).drop start).take 8).map (fun x =>
                { position := x.2, entry := x.1, age := (s.record.day - x.1.day).toNat }) })))

/-! ## The Funds Pool and the branches -/

/-- R104, R105: the checks of DEPOSIT and REFUND in their order. A taken DEPOSIT raises D and is a pool credit: arrears are paid first, the
rest reaches P, ARREARS goes where they are paid in full, and in SERVICE the queue is served. A taken REFUND lowers P and D and nothing
else; while arrears stand P is 0, and every REFUND in range is refused POOL_SHORT. -/
def Obligations.DepositAndRefund : Prop :=
  ∀ (tag : Half) (a : Nat) (s : State),
    (∀ st,
      (if ¬(s.record.mode = .setup ∨ s.record.mode = .service) then some Status.wrongMode
       else if a < 1 ∨ 99999999 < a then some .badValue
       else if 2 ^ 47 - 1 < s.record.pool.deposits + a then some .badValue
       else if 2 ^ 47 - 1 < s.record.pool.balance + s.record.pool.reserved
          + Table.sum (fun _ m => if m.kind = .prepaid then m.credit else 0) s.record.meters
          + (a - min s.record.pool.arrears a) then some .badValue
       else none) = some st →
      Answers (.deposit tag a) 0x60 tag s (s, refuse st))
    ∧ (s.record.mode = .setup ∨ s.record.mode = .service → 1 ≤ a → a ≤ 99999999 → s.record.pool.deposits + a ≤ 2 ^ 47 - 1 →
      ∀ (paid : Nat) (credited : State) (r : Served), paid = min s.record.pool.arrears a →
      s.record.pool.balance + s.record.pool.reserved
        + Table.sum (fun _ m => if m.kind = .prepaid then m.credit else 0) s.record.meters + (a - paid) ≤ 2 ^ 47 - 1 →
      credited =
        { s with
          record.pool.deposits := s.record.pool.deposits + a
          record.pool.balance := s.record.pool.balance + (a - paid)
          record.pool.arrears := s.record.pool.arrears - paid
          record.deviceCauses.arrears := s.record.deviceCauses.arrears
            && !decide (0 < s.record.pool.arrears ∧ s.record.pool.arrears ≤ a) } →
      r = (if s.record.mode = .service then serveQueue credited else { state := credited, issued := 0, removed := 0 }) →
      Answers (.deposit tag a) 0x60 tag s
        (r.state,
         done (.deposited paid (a - paid) r.issued r.removed r.state.record.pool.balance r.state.record.pool.arrears
          r.state.record.pool.deposits)))
    ∧ Answers (.refund tag a) 0x61 tag s
      (if ¬(s.record.mode = .setup ∨ s.record.mode = .service) then (s, refuse .wrongMode)
       else if a < 1 ∨ 99999999 < a then (s, refuse .badValue)
       else if s.record.pool.balance < a then (s, refuseWith .poolShort (.balance s.record.pool.balance))
       else if s.record.pool.deposits < a then (s, refuse .badValue)
       else
        ({ s with
            record.pool.balance := s.record.pool.balance - a
            record.pool.deposits := s.record.pool.deposits - a },
         done (.refunded (s.record.pool.balance - a) (s.record.pool.deposits - a))))
    ∧ (PoolLaw s → 0 < s.record.pool.arrears → s.record.mode = .setup ∨ s.record.mode = .service → 1 ≤ a → a ≤ 99999999 →
        Answers (.refund tag a) 0x61 tag s (s, refuseWith .poolShort (.balance 0)))

/-- R113, R127: OPEN BRANCH and DEFINE DENOMINATION fill the lowest-numbered EMPTY slot, with everything at its opening value, and answer
the first check that fails with nothing changed. A face value may be defined beside a WITHDRAWN slot of the same value. -/
def Obligations.NewRecordFillsLowestSlot : Prop :=
  ∀ (tag : Half) (x : Nat) (s : State),
    (∀ st,
      (if ¬(s.record.mode = .setup ∨ s.record.mode = .service) then some Status.wrongMode
       else if x < 1 ∨ 9999 < x then some .badValue
       else if ∃ e ∈ s.record.branches, e.2.code = x then some .duplicate
       else if ∀ slot ∈ List.range 128, (s.branch? slot).isSome then some .tableFull
       else none) = some st →
      Answers (.openBranch tag x) 0x70 tag s (s, refuse st))
    ∧ (∀ slot, s.record.mode = .setup ∨ s.record.mode = .service → 1 ≤ x → x ≤ 9999 →
      (∀ e ∈ s.record.branches, e.2.code ≠ x) → slot < 128 → s.branch? slot = none →
      (∀ lower < slot, (s.branch? lower).isSome) →
      Answers (.openBranch tag x) 0x70 tag s
        ({ s with
            record.branches := Table.put s.record.branches slot
              { code := x, levels := [], variance := 0, run := .stopped, cycleLength := 0, allowance := 0, dayCount := 0
                spent := 0, cycle := 0, causes := {}, onHand := [], latch := none } },
         done (.slotChosen slot)))
    ∧ (∀ st,
      (if ¬(s.record.mode = .setup ∨ s.record.mode = .service) then some Status.wrongMode
       else if x < 1 ∨ 10000000 < x then some .badValue
       else if ∃ e ∈ s.record.denominations, e.2.face = x ∧ e.2.withdrawn = none then some .duplicate
       else if ∀ slot ∈ List.range 16, (s.denomination? slot).isSome then some .tableFull
       else none) = some st →
      Answers (.defineDenomination tag x) 0x80 tag s (s, refuse st))
    ∧ ∀ slot, s.record.mode = .setup ∨ s.record.mode = .service → 1 ≤ x → x ≤ 10000000 →
      (∀ e ∈ s.record.denominations, e.2.face = x → e.2.withdrawn ≠ none) → slot < 16 → s.denomination? slot = none →
      (∀ lower < slot, (s.denomination? lower).isSome) →
      Answers (.defineDenomination tag x) 0x80 tag s
        ({ s with record.denominations := Table.put s.record.denominations slot { face := x, withdrawn := none } },
         done (.slotChosen slot))

/-- R114: the checks of SET BRANCH in the order of the prose (log 30); a taken one changes the present fields and the listed reorder levels
and nothing else, in every run state and while the branch is COUNTING. One with no field present changes nothing (log 25). -/
def Obligations.SetBranchChangesFields : Prop :=
  ∀ (tag : Half) (slot : Nat) (c : BranchChanges) (s : State),
    (∀ st,
      (if ¬(s.record.mode = .setup ∨ s.record.mode = .service) then some Status.wrongMode
       else if 127 < slot then some .badValue
       else if s.branch? slot = none then some .unknownBranch
       else if (∃ n ∈ c.cycleLength, 255 < n) ∨ (∃ n ∈ c.allowance, 999999999999 < n) then some .badValue
       else if ∃ l ∈ c.levels, l = [] ∨ 16 < l.length ∨ (∃ e ∈ l, 15 < e.1 ∨ 9999999 < e.2) ∨ ¬(l.map (·.1)).Nodup then
        some .badValue
       else none) = some st →
      Answers (.setBranch tag slot c) 0x71 tag s (s, refuse st))
    ∧ ∀ b, s.record.mode = .setup ∨ s.record.mode = .service → slot < 128 → s.branch? slot = some b →
      (∀ n ∈ c.cycleLength, n ≤ 255) → (∀ n ∈ c.allowance, n ≤ 999999999999) →
      (∀ l ∈ c.levels, 1 ≤ l.length ∧ l.length ≤ 16 ∧ (∀ e ∈ l, e.1 ≤ 15 ∧ e.2 ≤ 9999999) ∧ (l.map (·.1)).Nodup) →
      ∃ b' : Branch,
        Answers (.setBranch tag slot c) 0x71 tag s
          ({ s with record.branches := Table.put s.record.branches slot b' },
           done (.branchSet b'.cycleLength b'.allowance b'.levels b.run b.dayCount b.spent b.cycle (b'.allowance - b.spent)))
        ∧ b' =
          { b with
            cycleLength := c.cycleLength.getD b.cycleLength
            allowance := c.allowance.getD b.allowance
            levels := b'.levels }
        ∧ (∀ l ∈ c.levels, ∀ e ∈ l, Figures.at' b'.levels e.1 = e.2)
        ∧ ∀ d, (∀ l ∈ c.levels, ∀ e ∈ l, e.1 ≠ d) → Figures.at' b'.levels d = Figures.at' b.levels d

/-- R115, R65: CLOSE BRANCH names the first condition that fails, in the table's order; else it discards the whole record, its code
and cycle with it, and every grant out bound to the slot is no longer counted. The checks before the table are those of the prose
(log 30). -/
def Obligations.CloseBranchEmptiesSlot : Prop :=
  ∀ (tag : Half) (slot : Nat) (s : State),
    (∀ st,
      (if ¬(s.record.mode = .setup ∨ s.record.mode = .service) then some Status.wrongMode
       else if 127 < slot then some .badValue
       else if s.branch? slot = none then some .unknownBranch
       else none) = some st →
      Answers (.closeBranch tag slot) 0x72 tag s (s, refuse st))
    ∧ ∀ (b : Branch) (linked moving : Nat), s.record.mode = .setup ∨ s.record.mode = .service → slot < 128 →
      s.branch? slot = some b → linked = (s.record.meters.filter (fun e => decide (e.2.branch = slot))).length →
      moving = (s.record.transfers.filter (fun t => decide (t.origin = slot ∨ t.destination = slot))).length →
      (b.latch.isSome →
        Answers (.closeBranch tag slot) 0x72 tag s (s, refuseWith .notEmpty (.branchHeld .counting)))
      ∧ (b.latch = none → 0 < linked →
        Answers (.closeBranch tag slot) 0x72 tag s (s, refuseWith .notEmpty (.branchHeld (.metersLinked linked))))
      ∧ (∀ d, b.latch = none → linked = 0 → Branch.Canonical b → 0 < Figures.at' b.onHand d →
        (∀ lower < d, Figures.at' b.onHand lower = 0) →
        Answers (.closeBranch tag slot) 0x72 tag s (s, refuseWith .notEmpty (.branchHeld (.stockOnHand d))))
      ∧ (b.latch = none → linked = 0 → b.onHand = [] → 0 < moving →
        Answers (.closeBranch tag slot) 0x72 tag s (s, refuseWith .notEmpty (.branchHeld (.transfers moving))))
      ∧ (b.latch = none → linked = 0 → b.onHand = [] → moving = 0 → ∃ t : State,
        Answers (.closeBranch tag slot) 0x72 tag s (t, done (.branchClosed b.variance b.spent))
        ∧ t = { s with record.meters := t.record.meters, record.branches := t.record.branches }
        ∧ t.branch? slot = none ∧ (∀ other, other ≠ slot → t.branch? other = s.branch? other)
        ∧ ∀ i, t.meter? i = (s.meter? i).map (fun m =>
            { m with grantOut := m.grantOut.map (fun g => { g with counted := g.counted && !decide (g.branch = slot) }) }))

/-- R118, R119: CYCLE CONTROL. START, from STOPPED, begins a new cycle with Dc and W at 0 under the next cycle number; STOP, PAUSE and
RESUME change the run state alone; each is refused WRONG_STATE from the other run states, and its other checks stand before that one, in the
order of the prose (log 30). A refused one carries the status alone (log 28), and an action code that names nothing comes as a START (log
18). -/
def Obligations.CycleControlMovesRunState : Prop :=
  ∀ (tag : Half) (slot : Nat) (c : Instr) (s : State),
    (c = .cycleStart tag slot true ∨ c = .cycleStart tag slot false ∨ c = .cycleStop tag slot ∨ c = .cyclePause tag slot
      ∨ c = .cycleResume tag slot) →
    (∀ st,
      (if s.record.mode ≠ .service then some Status.wrongMode
       else if 127 < slot ∨ c = .cycleStart tag slot false then some .badValue
       else if s.branch? slot = none then some .unknownBranch
       else none) = some st →
      Answers c 0x73 tag s (s, refuse st))
    ∧ ∀ b, s.record.mode = .service → slot < 128 → s.branch? slot = some b → c ≠ .cycleStart tag slot false →
      ∀ left : Option Branch,
      left =
        (if c = .cycleStart tag slot true then
          (if b.run = .stopped then some { b with run := .running, dayCount := 0, spent := 0, cycle := b.cycle + 1 } else none)
         else if c = .cycleStop tag slot then (if b.run ≠ .stopped then some { b with run := .stopped } else none)
         else if c = .cyclePause tag slot then (if b.run = .running then some { b with run := .paused } else none)
         else (if b.run = .paused then some { b with run := .running } else none)) →
      (left = none → Answers c 0x73 tag s (s, refuse .wrongState))
      ∧ ∀ b', left = some b' →
        Answers c 0x73 tag s
          ({ s with record.branches := Table.put s.record.branches slot b' },
           done (.cycle b'.run b'.dayCount b'.spent b'.cycle (b'.allowance - b'.spent)))

/-! ## Stamp stock -/

/-- R128, R129: WITHDRAW DENOMINATION stamps an ON SALE slot with the day and moves no stamp; RETIRE DENOMINATION empties a WITHDRAWN slot,
or names the first condition that fails: stock on hand, transfers, an open count. The checks before the table are those of the prose (log
30). -/
def Obligations.WithdrawAndRetireDenomination : Prop :=
  ∀ (tag : Half) (slot : Nat) (s : State),
    Answers (.withdrawDenomination tag slot) 0x81 tag s
      (if s.record.mode ≠ .service then (s, refuse .wrongMode)
       else if 15 < slot then (s, refuse .badValue)
       else
        match s.denomination? slot with
        | none => (s, refuse .unknownSlot)
        | some d =>
          if d.withdrawn.isSome then (s, refuse .wrongState)
          else
            ({ s with
                record.denominations := Table.put s.record.denominations slot { d with withdrawn := some s.record.day } },
             done (.withdrawn s.record.day (Table.sum (fun _ b => Figures.at' b.onHand slot) s.record.branches)
              ((s.record.transfers.filter (fun t => decide (t.denomination = slot))).map (·.count)).sum)))
    ∧ (∀ st,
      (if s.record.mode ≠ .service then some Status.wrongMode
       else if 15 < slot then some .badValue
       else
        match s.denomination? slot with
        | none => some .unknownSlot
        | some d => if d.withdrawn = none then some .wrongState else none) = some st →
      Answers (.retireDenomination tag slot) 0x82 tag s (s, refuse st))
    ∧ ∀ (d : Denomination) (day : Half) (holding counting : List (Nat × Branch)) (moving : Nat), s.record.mode = .service →
      slot < 16 → s.denomination? slot = some d → d.withdrawn = some day →
      holding = s.record.branches.filter (fun e => decide (0 < Figures.at' e.2.onHand slot)) →
      counting = s.record.branches.filter (fun e => e.2.latch.isSome) →
      moving = (s.record.transfers.filter (fun t => decide (t.denomination = slot))).length →
      Answers (.retireDenomination tag slot) 0x82 tag s
        (match holding, counting with
         | h :: _, _ => (s, refuseWith .notEmpty (.denominationHeld (.stockOnHand h.1 holding.length)))
         | [], counted =>
          if 0 < moving then (s, refuseWith .notEmpty (.denominationHeld (.transfers moving)))
          else
            match counted with
            | e :: _ => (s, refuseWith .notEmpty (.denominationHeld (.countOpen e.1)))
            | [] =>
              ({ s with record.denominations := Table.erase s.record.denominations slot },
               done (.denominationRetired d.face (s.record.day - day).toNat)))

/-- R133, R139: checks 1 to 6 of the four stock movements, in their order. -/
def Obligations.StockMovementChecks : Prop :=
  ∀ (tag : Half) (slot d n : Nat) (c : Instr) (code : Half) (s : State),
    (c = .purchaseStock tag slot d n ∧ code = 0x84 ∨ c = .issueStock tag slot d n ∧ code = 0x85
      ∨ c = .writeOffStock tag slot d n ∧ code = 0x86 ∨ c = .surrenderStock tag slot d n ∧ code = 0x87) →
    ∀ r,
      (if s.record.mode ≠ .service then some (refuse .wrongMode)
       else if 127 < slot ∨ 15 < d ∨ n < 1 ∨ 9999999 < n then some (refuse .badValue)
       else
        match s.branch? slot, s.denomination? d with
        | none, _ => some (refuse .unknownBranch)
        | some _, none => some (refuse .unknownSlot)
        | some b, some den =>
          if code = 0x84 ∧ den.withdrawn.isSome then some (refuseWith .wrongState (.slotState .withdrawn))
          else if code = 0x87 ∧ den.withdrawn = none then some (refuseWith .wrongState (.slotState .onSale))
          else if b.latch.isSome then some (refuse .branchCounting)
          else none) = some r →
      Answers c code tag s (s, r)

/-- R134, R137: PURCHASE STOCK pays for n stamps from the pool and adds them; SURRENDER STOCK takes n WITHDRAWN stamps off the count, with
STOCK_LOW where that crosses the reorder level, and is a pool credit of their value that serves the queue. Checks 7 to 9 refuse in order.
That BAD_VALUE carries the figure and its value is log 26. That a result says a cause was set where this act had the cause, even if it was
there before, is log 39. -/
def Obligations.PurchaseAndSurrenderStock : Prop :=
  ∀ (tag : Half) (slot d n : Nat) (b : Branch) (den : Denomination) (s : State),
    s.record.mode = .service → slot < 128 → d < 16 → 1 ≤ n → n ≤ 9999999 → s.branch? slot = some b →
    s.denomination? d = some den → b.latch = none → ∀ held v : Nat, held = Figures.at' b.onHand d → v = n * den.face →
    (den.withdrawn = none →
      Answers (.purchaseStock tag slot d n) 0x84 tag s
        (if 9999999 < held + n then (s, refuseWith .badValue (.bound .onHand held))
         else if 2 ^ 47 - 1 < stockValue s + v then (s, refuseWith .badValue (.bound .stockValue (stockValue s)))
         else if s.record.pool.balance < v then (s, refuseWith .poolShort (.purchaseShort s.record.pool.balance v))
         else
          ({ s with
              record.pool.balance := s.record.pool.balance - v
              record.branches := Table.put s.record.branches slot { b with onHand := Figures.set b.onHand d (held + n) } },
           done (.purchased (held + n) v (s.record.pool.balance - v)))))
    ∧ (den.withdrawn.isSome → ∀ (paid : Nat) (crosses : Bool) (credited : State) (r : Served),
      paid = min s.record.pool.arrears v →
      crosses = decide (0 < Figures.at' b.levels d ∧ Figures.at' b.levels d ≤ held ∧ held - n < Figures.at' b.levels d) →
      credited =
        { s with
          record.branches := Table.put s.record.branches slot
            { b with
              onHand := Figures.set b.onHand d (held - n)
              causes := { b.causes with stockLow := b.causes.stockLow || crosses } }
          record.pool.balance := s.record.pool.balance + (v - paid)
          record.pool.arrears := s.record.pool.arrears - paid
          record.deviceCauses.arrears := s.record.deviceCauses.arrears
            && !decide (0 < s.record.pool.arrears ∧ s.record.pool.arrears ≤ v)
          attentionMark := s.attentionMark || (crosses && s.inForce.attentionEnable) } →
      0 < v → r = serveQueue credited →
      Answers (.surrenderStock tag slot d n) 0x87 tag s
        (if held < n then (s, refuseWith .shortStock (.onHand held))
         else if 2 ^ 47 - 1 < committedFunds s + (v - paid) then
          (s, refuseWith .badValue (.bound .committedFunds (committedFunds s)))
         else
          (r.state,
           done (.surrendered (held - n) v paid (v - paid) r.issued r.removed r.state.record.pool.balance
            r.state.record.pool.arrears crosses))))

/-- R135, R136, R138, R101: ISSUE STOCK and WRITE OFF STOCK take n stamps off the count, with STOCK_LOW where that crosses the reorder
level, and move their value into I or X. A short count or a total out of range refuses them with nothing changed. That BAD_VALUE carries the
figure and its value is log 26. That a result says a cause was set where this act had the cause, even if it was there before, is log 39. -/
def Obligations.IssueAndWriteOffStock : Prop :=
  ∀ (tag : Half) (slot d n : Nat) (b : Branch) (den : Denomination) (s : State),
    s.record.mode = .service → slot < 128 → d < 16 → 1 ≤ n → n ≤ 9999999 → s.branch? slot = some b →
    s.denomination? d = some den → b.latch = none → ∀ (held v : Nat) (crosses : Bool) (b' : Branch),
    held = Figures.at' b.onHand d → v = n * den.face →
    crosses = decide (0 < Figures.at' b.levels d ∧ Figures.at' b.levels d ≤ held ∧ held - n < Figures.at' b.levels d) →
    b' =
      { b with
        onHand := Figures.set b.onHand d (held - n)
        causes := { b.causes with stockLow := b.causes.stockLow || crosses } } →
    Answers (.issueStock tag slot d n) 0x85 tag s
      (if held < n then (s, refuseWith .shortStock (.onHand held))
       else if 2 ^ 47 - 1 < s.record.pool.issued + v then
        (s, refuseWith .badValue (.bound .issued s.record.pool.issued))
       else
        ({ s with
            record.branches := Table.put s.record.branches slot b'
            record.pool.issued := s.record.pool.issued + v
            attentionMark := s.attentionMark || (crosses && s.inForce.attentionEnable) },
         done (.stockIssued (held - n) v (s.record.pool.issued + v) crosses)))
    ∧ Answers (.writeOffStock tag slot d n) 0x86 tag s
      (if held < n then (s, refuseWith .shortStock (.onHand held))
       else if 2 ^ 47 - 1 < s.record.pool.writtenOff + v then
        (s, refuseWith .badValue (.bound .writtenOff s.record.pool.writtenOff))
       else
        ({ s with
            record.branches := Table.put s.record.branches slot b'
            record.pool.writtenOff := s.record.pool.writtenOff + v
            attentionMark := s.attentionMark || (crosses && s.inForce.attentionEnable) },
         done (.stockWrittenOff (held - n) v (s.record.pool.writtenOff + v) crosses)))

/-! ## Transfers and stock counts -/

/-- R144, R143, R138: the checks of DISPATCH in their order; a taken one lowers the origin's count and adds an entry at the tail, numbered
by the first number, from the next transfer number on, that no entry holds. The destination may be COUNTING. That a result says a cause was
set where this act had the cause, even if it was there before, is log 39. -/
def Obligations.DispatchAddsTransfer : Prop :=
  ∀ (tag : Half) (o d k n : Nat) (s : State),
    (∀ r,
      (if s.record.mode ≠ .service then some (refuse .wrongMode)
       else if 127 < o ∨ 127 < d ∨ 15 < k ∨ n < 1 ∨ 9999999 < n then some (refuse .badValue)
       else if o = d then some (refuse .badValue)
       else
        match s.branch? o, s.branch? d, s.denomination? k with
        | none, _, _ => some (refuse .unknownBranch)
        | some _, none, _ => some (refuse .unknownBranch)
        | some _, some _, none => some (refuse .unknownSlot)
        | some b, some _, some _ =>
          if b.latch.isSome then some (refuse .branchCounting)
          else if Figures.at' b.onHand k < n then some (refuseWith .shortStock (.onHand (Figures.at' b.onHand k)))
          else if 64 ≤ s.record.transfers.length then some (refuse .tableFull)
          else none) = some r →
      Answers (.dispatch tag o d k n) 0x90 tag s (s, r))
    ∧ ∀ (b : Branch) (den : Denomination), s.record.mode = .service → o < 128 → d < 128 → o ≠ d → k < 16 → 1 ≤ n → n ≤ 9999999 →
      s.branch? o = some b → (s.branch? d).isSome → s.denomination? k = some den → b.latch = none →
      n ≤ Figures.at' b.onHand k → s.record.transfers.length < 64 →
      ∀ (held : Nat) (crosses : Bool), held = Figures.at' b.onHand k →
      crosses = decide (0 < Figures.at' b.levels k ∧ Figures.at' b.levels k ≤ held ∧ held - n < Figures.at' b.levels k) →
      ∃ passed number : Nat, passed ≤ s.record.transfers.length
        ∧ (∀ j < passed, ∃ x ∈ s.record.transfers,
            x.number = Nat.repeat (fun i => if i = 65535 then 1 else i + 1) j s.record.nextTransfer)
        ∧ number = Nat.repeat (fun i => if i = 65535 then 1 else i + 1) passed s.record.nextTransfer
        ∧ (∀ x ∈ s.record.transfers, x.number ≠ number)
        ∧ Answers (.dispatch tag o d k n) 0x90 tag s
          ({ s with
              record.branches := Table.put s.record.branches o
                { b with
                  onHand := Figures.set b.onHand k (held - n)
                  causes := { b.causes with stockLow := b.causes.stockLow || crosses } }
              record.transfers := s.record.transfers ++
                [{ number := number, origin := o, destination := d, denomination := k, count := n, day := s.record.day, age := 0
                   state := .inTransit }]
              record.nextTransfer := if number = 65535 then 1 else number + 1
              attentionMark := s.attentionMark || (crosses && s.inForce.attentionEnable) },
           done (.dispatched number s.record.transfers.length (held - n) (n * den.face) crosses))

/-- R145, R146, R101: the checks of RECEIVE in the order of its table, and those of CANCEL TRANSFER in that of the prose (log 30). RECEIVE
raises the destination's count by r, writes a shortfall off with TRANSIT_SHORTFALL, and removes the entry; CANCEL TRANSFER raises the
origin's count by the whole dispatch and removes it. That a result says a cause was set where this act had the cause, even if it was there
before, is log 39, and that the result of RECEIVE carries the whole entry is log 45. -/
def Obligations.TransferReceivedOrCancelled : Prop :=
  ∀ (tag : Half) (number r : Nat) (s : State),
    (∀ st,
      (if s.record.mode ≠ .service then some Status.wrongMode
       else if number < 1 ∨ 65535 < number ∨ 9999999 < r then some .badValue
       else if ∀ x ∈ s.record.transfers, x.number ≠ number then some .unknownTransfer
       else none) = some st →
      Answers (.receive tag number r) 0x91 tag s (s, refuse st))
    ∧ (∀ st,
      (if s.record.mode ≠ .service then some Status.wrongMode
       else if number < 1 ∨ 65535 < number then some .badValue
       else if ∀ x ∈ s.record.transfers, x.number ≠ number then some .unknownTransfer
       else none) = some st →
      Answers (.cancelTransfer tag number) 0x92 tag s (s, refuse st))
    ∧ ∀ (front behind : List Transfer) (x : Transfer) (den : Denomination) (b : Branch) (held : Nat), s.record.mode = .service →
      1 ≤ number → number ≤ 65535 → s.record.transfers = front ++ x :: behind → x.number = number →
      (∀ y ∈ front ++ behind, y.number ≠ number) → s.denomination? x.denomination = some den →
      held = Figures.at' b.onHand x.denomination →
      (s.branch? x.destination = some b → r ≤ 9999999 → ∀ lost : Nat, lost = (x.count - r) * den.face →
        Answers (.receive tag number r) 0x91 tag s
          (if x.count < r then (s, refuse .badValue)
           else if b.latch.isSome then (s, refuse .branchCounting)
           else if 9999999 < held + r then (s, refuse .badValue)
           else if 2 ^ 47 - 1 < s.record.pool.writtenOff + lost then (s, refuse .badValue)
           else
            ({ s with
                record.branches := Table.put s.record.branches x.destination
                  { b with
                    onHand := Figures.set b.onHand x.denomination (held + r)
                    causes := { b.causes with transitShortfall := b.causes.transitShortfall || decide (r < x.count) } }
                record.pool.writtenOff := s.record.pool.writtenOff + lost
                record.transfers := front ++ behind
                attentionMark := s.attentionMark || (decide (r < x.count) && s.inForce.attentionEnable) },
             done (.received x r (x.count - r) lost (held + r) (decide (r < x.count))))))
      ∧ (s.branch? x.origin = some b →
        Answers (.cancelTransfer tag number) 0x92 tag s
          (if b.latch.isSome then (s, refuse .branchCounting)
           else if 9999999 < held + x.count then (s, refuse .badValue)
           else
            ({ s with
                record.branches := Table.put s.record.branches x.origin
                  { b with onHand := Figures.set b.onHand x.denomination (held + x.count) }
                record.transfers := front ++ behind },
             done (.transferCancelled x (held + x.count)))))

/-- R148, R151: READ TRANSFERS and READ COUNT change no state. The one gives up to 8 entries from a start position; the other, for each of
the 16 slots of an open count, the latched figure and, where one was entered, the counted figure with its difference and value, and the net
value. Their checks answer in the order of the prose (log 30). -/
def Obligations.ReadTransfersAndReadCount : Prop :=
  ∀ (tag : Half) (s : State),
    (∀ start : Nat,
      Answers (.readTransfers tag start) 0x93 tag s
        (if s.record.mode = .locked then (s, refuse .wrongMode)
         else if 63 < start then (s, refuse .badValue)
         else
          (s, done (.transfers s.record.transfers.length s.record.nextTransfer s.record.day s.inForce.overdueDays
            (s.record.transfers.map (fun x => x.count * s.face x.denomination)).sum
            ((((s.record.transfers.zipIdx).drop start).take 8).map (fun x =>
              { position := x.2, entry := x.1, value := x.1.count * s.face x.1.denomination }))))))
    ∧ ∀ slot : Nat,
      Answers (.readCount tag slot) 0x98 tag s
        (if s.record.mode = .locked then (s, refuse .wrongMode)
         else if 127 < slot then (s, refuse .badValue)
         else
          match s.branch? slot with
          | none => (s, refuse .unknownBranch)
          | some b =>
            match b.latch with
            | none => (s, refuse .wrongState)
            | some l =>
              (s, done (.count l.day
                ((List.range 16).map (fun d =>
                  { denomination := d
                    latched := Figures.at' l.latched d
                    counted := Table.find l.counted d
                    difference := (Table.find l.counted d).map (fun c => (c : Int) - (Figures.at' l.latched d : Int))
                    value := (Table.find l.counted d).map (fun c =>
                      ((c : Int) - (Figures.at' l.latched d : Int)) * (s.face d : Int)) }))
                (Table.sumInt (fun d (c : Nat) => ((c : Int) - (Figures.at' l.latched d : Int)) * (s.face d : Int)) l.counted))))

/-- R149, R150, R152: BEGIN COUNT latches the on-hand counts as they stand, ENTER COUNT sets one counted figure of the latch, and ABANDON
COUNT discards the latch. None of them changes a count or a total, and each refuses by its checks in the order of the prose (log 30). -/
def Obligations.CountBegunEnteredAbandoned : Prop :=
  ∀ (tag : Half) (slot d c : Nat) (s : State),
    Answers (.beginCount tag slot) 0x94 tag s
      (if s.record.mode ≠ .service then (s, refuse .wrongMode)
       else if 127 < slot then (s, refuse .badValue)
       else
        match s.branch? slot with
        | none => (s, refuse .unknownBranch)
        | some b =>
          if b.latch.isSome then (s, refuse .wrongState)
          else
            ({ s with
                record.branches := Table.put s.record.branches slot
                  { b with latch := some { day := s.record.day, latched := b.onHand, counted := [] } } },
             done (.countBegun s.record.day ((List.range 16).map (Figures.at' b.onHand)))))
    ∧ Answers (.enterCount tag slot d c) 0x95 tag s
      (if s.record.mode ≠ .service then (s, refuse .wrongMode)
       else if 127 < slot ∨ 15 < d ∨ 9999999 < c then (s, refuse .badValue)
       else
        match s.branch? slot with
        | none => (s, refuse .unknownBranch)
        | some b =>
          match b.latch, s.denomination? d with
          | none, _ => (s, refuse .wrongState)
          | some _, none => (s, refuse .unknownSlot)
          | some l, some den =>
            ({ s with
                record.branches := Table.put s.record.branches slot
                  { b with latch := some { l with counted := Table.put l.counted d c } } },
             done (.figureEntered (Figures.at' l.latched d) c (Table.find l.counted d).isSome
              ((c : Int) - (Figures.at' l.latched d : Int)) (((c : Int) - (Figures.at' l.latched d : Int)) * (den.face : Int)))))
    ∧ Answers (.abandonCount tag slot) 0x97 tag s
      (if s.record.mode ≠ .service then (s, refuse .wrongMode)
       else if 127 < slot then (s, refuse .badValue)
       else
        match s.branch? slot with
        | none => (s, refuse .unknownBranch)
        | some b =>
          match b.latch with
          | none => (s, refuse .wrongState)
          | some l =>
            ({ s with record.branches := Table.put s.record.branches slot { b with latch := none } },
             done (.countAbandoned l.counted.length)))

/-- R153, R138, R101: CLOSE COUNT. Every entered figure becomes the on-hand count, STOCK_LOW is set where one falls across its level, X
falls and the variance rises by the net value N, and the branch is OPEN again; it is refused BAD_VALUE where N would take a figure out of
its range. Its checks answer in the order of the prose (log 30). That a result says a cause was set where this act had the cause, even if it
was there before, is log 39. -/
def Obligations.CloseCountAppliesFigures : Prop :=
  ∀ (tag : Half) (slot : Nat) (s : State),
    (∀ st,
      (if s.record.mode ≠ .service then some Status.wrongMode
       else if 127 < slot then some .badValue
       else
        match s.branch? slot with
        | none => some .unknownBranch
        | some b => if b.latch = none then some .wrongState else none) = some st →
      Answers (.closeCount tag slot) 0x96 tag s (s, refuse st))
    ∧ ∀ (b : Branch) (l : CountLatch) (net : Int) (fits : Prop), s.record.mode = .service → slot < 128 →
      s.branch? slot = some b → b.latch = some l → Table.Sorted l.counted →
      net = Table.sumInt (fun d (c : Nat) => ((c : Int) - (Figures.at' l.latched d : Int)) * (s.face d : Int)) l.counted →
      (fits ↔ (0 < net → (stockValue s : Int) + net ≤ 2 ^ 47 - 1)
        ∧ (-(2 ^ 47 - 1) ≤ s.record.pool.writtenOff - net ∧ s.record.pool.writtenOff - net ≤ 2 ^ 47 - 1)
        ∧ -(2 ^ 47 - 1) ≤ b.variance + net ∧ b.variance + net ≤ 2 ^ 47 - 1) →
      (¬fits → Answers (.closeCount tag slot) 0x96 tag s (s, refuse .badValue))
      ∧ (fits → ∃ (b' : Branch) (crosses : Bool),
        (crosses = true ↔ ∃ e ∈ l.counted, 0 < Figures.at' b.levels e.1
          ∧ Figures.at' b.levels e.1 ≤ Figures.at' b.onHand e.1 ∧ e.2 < Figures.at' b.levels e.1)
        ∧ (∀ d, Figures.at' b'.onHand d = (Table.find l.counted d).getD (Figures.at' b.onHand d))
        ∧ b' =
          { b with
            onHand := b'.onHand
            variance := b.variance + net
            causes := { b.causes with stockLow := b.causes.stockLow || crosses }
            latch := none }
        ∧ ∃ lines : List CountLine,
          lines = l.counted.map (fun e =>
            { denomination := e.1
              latched := Figures.at' l.latched e.1
              counted := some e.2
              difference := some ((e.2 : Int) - (Figures.at' l.latched e.1 : Int))
              value := some (((e.2 : Int) - (Figures.at' l.latched e.1 : Int)) * (s.face e.1 : Int)) })
          ∧ Answers (.closeCount tag slot) 0x96 tag s
            ({ s with
                record.branches := Table.put s.record.branches slot b'
                record.pool.writtenOff := s.record.pool.writtenOff - net
                attentionMark := s.attentionMark || (crosses && s.inForce.attentionEnable) },
             done (.countClosed lines net
              (l.counted.filter (fun e => decide (Figures.at' l.latched e.1 < e.2))).length
              (l.counted.filter (fun e => decide (e.2 < Figures.at' l.latched e.1))).length
              (s.record.pool.writtenOff - net) (b.variance + net) crosses)))

/-! ## Attention and the modes -/

/-- R171, R172: READ ATTENTION returns, in rising subject number from the start position, up to 24 subjects whose cause sets are not empty,
with the next position, and changes nothing. TAKE ATTENTION removes the named causes and no others. Their checks answer in the order of the
prose (log 30), and the outcome of TAKE ATTENTION is the cause set alone (log 42). -/
def Obligations.AttentionReadAndTaken : Prop :=
  ∀ (tag : Half) (s : State),
    (∀ (start : Nat) (raised : List (Nat × Half)),
      raised =
        ((s.record.meters.map (fun (e : Nat × Meter) => (e.1, meterBits e.2.causes)))
          ++ (s.record.branches.map (fun (e : Nat × Branch) => (512 + e.1, branchBits e.2.causes)))
          ++ [(640, deviceBits s.record.deviceCauses)]).filter (fun (e : Nat × Half) => decide (start ≤ e.1 ∧ e.2 ≠ 0)) →
      Answers (.readAttention tag start) 0x02 tag s
        (if s.record.mode = .locked then (s, refuse .wrongMode)
         else if 640 < start then (s, refuse .badValue)
         else
          (s, done (.attention (raised.take 24)
            (match raised[23]?, raised[24]? with | some last, some _ => last.1 + 1 | _, _ => 641)))))
    ∧ ∀ (slot : Nat) (causes : Half),
      (∀ subject, s.record.mode = .locked → Answers (.takeAttention tag subject slot causes) 0x03 tag s (s, refuse .wrongMode))
      ∧ (s.record.mode ≠ .locked →
        (∀ subject, 3 ≤ subject → Answers (.takeAttention tag subject slot causes) 0x03 tag s (s, refuse .badValue))
        ∧ (511 < slot ∨ 256 ≤ causes.toNat → Answers (.takeAttention tag 0 slot causes) 0x03 tag s (s, refuse .badValue))
        ∧ (slot ≤ 511 → causes.toNat < 256 →
          (s.meter? slot = none → Answers (.takeAttention tag 0 slot causes) 0x03 tag s (s, refuse .unknownMeter))
          ∧ ∀ m, s.meter? slot = some m → ∃ left : MeterCauses, meterBits left = meterBits m.causes &&& ~~~causes
            ∧ Answers (.takeAttention tag 0 slot causes) 0x03 tag s
              ({ s with record.meters := Table.put s.record.meters slot { m with causes := left } },
               done (.causesLeft (meterBits left))))
        ∧ (127 < slot ∨ 64 ≤ causes.toNat → Answers (.takeAttention tag 1 slot causes) 0x03 tag s (s, refuse .badValue))
        ∧ (slot ≤ 127 → causes.toNat < 64 →
          (s.branch? slot = none → Answers (.takeAttention tag 1 slot causes) 0x03 tag s (s, refuse .unknownBranch))
          ∧ ∀ b, s.branch? slot = some b → ∃ left : BranchCauses, branchBits left = branchBits b.causes &&& ~~~causes
            ∧ Answers (.takeAttention tag 1 slot causes) 0x03 tag s
              ({ s with record.branches := Table.put s.record.branches slot { b with causes := left } },
               done (.causesLeft (branchBits left))))
        ∧ (slot ≠ 0 ∨ 16 ≤ causes.toNat → Answers (.takeAttention tag 2 slot causes) 0x03 tag s (s, refuse .badValue))
        ∧ (slot = 0 → causes.toNat < 16 → ∃ left : DeviceCauses,
          deviceBits left = deviceBits s.record.deviceCauses &&& ~~~causes
          ∧ Answers (.takeAttention tag 2 slot causes) 0x03 tag s
            ({ s with record.deviceCauses := left }, done (.causesLeft (deviceBits left)))))

/-- 9.1: every request but REFILL REQUEST and LIMIT REQUEST, whose slot is checked first (R52), is refused WRONG_MODE in each mode that the
table of 9.1 does not mark for it, and changes nothing. That this check comes before every other one of a request whose rule is prose is log
30. -/
def Obligations.ModesCloseRequests : Prop :=
  ∀ (c : Instr) (kind tag : Half) (s : State), header c = some (kind, tag) →
    (∀ t k l r, c ≠ .badRequest t k l r) →
    (kind = 0x12 ∧ s.record.mode = .frozen
      ∨ kind = 0x15 ∧ (s.record.mode = .service ∨ s.record.mode = .frozen)
      ∨ kind ∈ [0x02, 0x03, 0x10, 0x25, 0x42, 0x43, 0x51, 0x62, 0x74, 0x83, 0x93, 0x98] ∧ s.record.mode = .locked
      ∨ kind ∈ [0x20, 0x21, 0x22, 0x60, 0x61, 0x70, 0x71, 0x72, 0x80] ∧ (s.record.mode = .frozen ∨ s.record.mode = .locked)
      ∨ kind ∈ [0x11, 0x23, 0x24, 0x30, 0x31, 0x50, 0x73, 0x81, 0x82, 0x84, 0x85, 0x86, 0x87, 0x90, 0x91, 0x92, 0x94, 0x95, 0x96,
          0x97] ∧ s.record.mode ≠ .service) →
    Answers c kind tag s (s, refuse .wrongMode)

/-! ## Invariants of every step, and the layouts -/

/-- R102, R3, R160, R170: every step keeps each of these laws: the canonical form of the tables; P and V are not both above 0; each loaded
total is its ascending register plus its credit; the settings in force are within their ranges and, together with that, so are the records
(R1, R111, R125, R131, R142); a pending mark stands only while its enable is on; and with no ring fault at most 32 slots of each ring are in
use (R167, R169). -/
def Obligations.FormPoolLoadedAndRangesKept : Prop :=
  ∀ s t : State, step s = .next t →
    (TablesCanonical s → TablesCanonical t) ∧ (PoolLaw s → PoolLaw t) ∧ (LoadedLaw s → LoadedLaw t)
    ∧ (SettingsInRange s → SettingsInRange t) ∧ (RecordsInRange s ∧ SettingsInRange s → RecordsInRange t)
    ∧ (MarksLaw s → MarksLaw t) ∧ (IndexLaw s → IndexLaw t)

/-- R64, R80, R94, R62, R40: every step keeps the laws of the grants out: the reserved total is the sum of the refills out, the queue holds
at most 32 entries, one for a meter and only of PREPAID meters with no grant out, and a closing meter has no grant out. -/
def Obligations.GrantsKept : Prop :=
  ∀ s t : State, GrantsSound s → step s = .next t → GrantsSound t

/-- R129, R142, R143, R149: every step keeps the laws of the stamps: a counting branch's counts are its latched figures, an EMPTY
denomination slot holds no stock and no transfer, and the transfers are at most 64 with distinct numbers between non-empty branches. -/
def Obligations.StockKept : Prop :=
  ∀ s t : State, StockSound s → step s = .next t → StockSound t

/-- The laws of Safety.lean together. From every sound state each step gives a sound state: the funds identity of R108 stays true, the
totals of the pool and the stock value stay in their ranges (R95, R96, R132), licence numbers and branch codes stay unique and every meter's
branch non-empty (R8, R113), and the other laws that `Sound` lists hold. -/
def Obligations.SoundKept : Prop :=
  ∀ s t : State, Sound s → step s = .next t → Sound t

/-- The state after reset is sound, with every law that `Sound` lists. The reset values are the model's reading (log 1), those of working
memory and of the settings in force among them (log 27). -/
def Obligations.ResetIsSound : Prop :=
  Sound State.reset

/-- R173, R174, R175, R168: a request whose layout the manual gives is read back from its bytes, and from the 128 bytes of its slot, as it
was; its record is 8 bytes and the body length of its kind, its header and the bodies of METER REPORT, REFILL REQUEST, LIMIT REQUEST and
TAKE ATTENTION at the offsets of R175, little-endian, their zero bytes 0. Bytes whose header fails, or with a byte set of those that must be
zero in the header or in one of these bodies, spell a BAD_REQUEST of their tag, kind code and length. A result's header, the grant result
and READ ATTENTION's result stand at the offsets of R175, little-endian, one slot after another, with zeros beyond; each cause has its bit
in a cause set, and TAKE ATTENTION's outcome is the 16-bit cause set alone (log 42). That the bytes of a request's slot beyond its record
are zeros is log 4. -/
def Obligations.LayoutsReadBack : Prop :=
  (∀ (c : Instr) (bytes : List Byte), c.wellFormed = true → requestBytes c = some bytes →
    parseRequest bytes = some c ∧ readBytes (padded bytes) = c ∧ slotBytes (some (.record c)) = padded bytes
    ∧ ∃ kind tag n, header c = some (kind, tag) ∧ bodyLength kind = some n ∧ bytes.length = 8 + n
      ∧ field bytes 0 2 = kind.toNat ∧ field bytes 2 2 = tag.toNat ∧ field bytes 4 2 = n ∧ field bytes 6 2 = 0)
  ∧ (∀ (tag : Half) (slot : Nat) (q : Half) (a d : Nat), (Instr.meterReport tag slot q a d).wellFormed = true →
    ∃ bytes, requestBytes (.meterReport tag slot q a d) = some bytes ∧ field bytes 8 2 = slot ∧ field bytes 10 2 = q.toNat
      ∧ field bytes 12 4 = 0 ∧ field bytes 16 8 = a ∧ field bytes 24 8 = d)
  ∧ (∀ (tag : Half) (slot amount : Nat) (c : Instr), c = .refillRequest tag slot amount ∨ c = .limitRequest tag slot amount →
    c.wellFormed = true → ∃ bytes, requestBytes c = some bytes ∧ field bytes 8 2 = slot ∧ field bytes 10 6 = 0
      ∧ field bytes 16 8 = amount)
  ∧ (∀ (tag : Half) (subject slot : Nat) (causes : Half), (Instr.takeAttention tag subject slot causes).wellFormed = true →
    ∃ bytes, requestBytes (.takeAttention tag subject slot causes) = some bytes ∧ field bytes 8 1 = subject ∧ field bytes 9 1 = 0
      ∧ field bytes 10 2 = slot ∧ field bytes 12 2 = causes.toNat ∧ field bytes 14 2 = 0)
  ∧ (∀ l : List Byte, bodyLength (BitVec.ofNat 16 (field l 0 2)) ≠ some (field l 4 2) ∨ field l 6 2 ≠ 0
      ∨ (field l 0 2 = 0x30 ∧ field l 12 4 ≠ 0) ∨ ((field l 0 2 = 0x40 ∨ field l 0 2 = 0x41) ∧ field l 10 6 ≠ 0)
      ∨ (field l 0 2 = 0x03 ∧ (field l 9 1 ≠ 0 ∨ field l 14 2 ≠ 0)) → ∃ reservedSet : Bool,
      readBytes l = .badRequest (BitVec.ofNat 16 (field l 2 2)) (BitVec.ofNat 16 (field l 0 2)) (BitVec.ofNat 16 (field l 4 2))
        reservedSet
      ∧ (bodyLength (BitVec.ofNat 16 (field l 0 2)) = some (field l 4 2) → reservedSet = true))
  ∧ ([Status.done, .queued, .trial, .settledLate, .wrongMode, .unknownMeter, .unknownBranch, .unknownSlot, .unknownTransfer,
      .tableFull, .duplicate, .badValue, .wrongState, .held, .overdue, .disputed, .grantOut, .alreadyQueued, .notQueued, .atCeiling,
      .allowanceSpent, .poolShort, .queueFull, .staleReport, .controlMismatch, .noGrant, .shortStock, .branchCounting, .notEmpty,
      .badRequest].map statusCode = [0, 1, 2, 3] ++ (List.range 26).map (· + 16))
  ∧ (∀ c : MeterCauses, (meterBits c).toNat = c.lowCredit.toNat + 2 * c.grantReady.toNat + 4 * c.grantVoided.toNat
      + 8 * c.queueDropped.toNat + 16 * c.refillRefused.toNat + 32 * c.topupDeferred.toNat + 64 * c.dispute.toNat
      + 128 * c.overdue.toNat)
  ∧ (∀ c : BranchCauses, (branchBits c).toNat = c.allowanceSpent.toNat + 2 * c.cycleEnd.toNat + 4 * c.stockLow.toNat
      + 8 * c.countAbandoned.toNat + 16 * c.transferOverdue.toNat + 32 * c.transitShortfall.toNat)
  ∧ (∀ c : DeviceCauses, (deviceBits c).toNat = c.settingsFault.toNat + 2 * c.backupLost.toNat + 4 * c.poolWait.toNat
      + 8 * c.arrears.toNat)
  ∧ ∀ (r : ResultRecord) (l : List Byte), l = resultBytes r →
    (field l 0 2 = r.tag.toNat ∧ field l 2 2 = r.kind.toNat ∧ field l 4 2 = statusCode r.status
      ∧ (r.length < 65536 → field l 6 2 = r.length))
    ∧ (r.outcome = .none → l.length = 8)
    ∧ (∀ number kind reason timeout slot amount expected, r.outcome = .grant number kind reason timeout slot amount expected →
        number < 65536 → timeout < 65536 → slot < 65536 → amount < 2 ^ 64 → expected < 2 ^ 64 →
        l.length = 32 ∧ field l 8 2 = number ∧ field l 10 1 = (if kind = .refill then 0 else 1)
        ∧ field l 11 1 = (match reason with | .none => 0 | .ceiling => 1 | .allowance => 2 | .pool => 3)
        ∧ field l 12 2 = timeout ∧ field l 14 2 = slot ∧ field l 16 8 = amount ∧ field l 24 8 = expected)
    ∧ (∀ subjects next, r.outcome = .attention subjects next → subjects.length < 65536 → next < 65536 →
        (∀ e ∈ subjects, e.1 < 65536) →
        l.length = 12 + 4 * subjects.length ∧ field l 8 2 = subjects.length ∧ field l 10 2 = next
        ∧ ∀ i, (h : i < subjects.length) →
          field l (12 + 4 * i) 2 = subjects[i].1 ∧ field l (14 + 4 * i) 2 = subjects[i].2.toNat)
    ∧ (∀ causes, r.outcome = .causesLeft causes → l.length = 10 ∧ field l 8 2 = causes.toNat)
    ∧ ∀ part i : Nat, i < 128 →
        (resultSlotBytes (some { result := r, part := part }))[i]? = some ((l[128 * part + i]?).getD 0)

end
end

