-- ==== Sys2Proof/Laws/Table.lean ====
section
/-!
SUPPORT. Laws of the tables of numbered slots: reading after filling and emptying a slot, the canonical form, sums.
-/

namespace Sys2Proof.Table

variable {α β : Type}

@[simp] theorem find_nil (i : Nat) : find ([] : Table α) i = none := rfl

theorem find_cons (k : Nat) (v : α) (t : Table α) (i : Nat) :
    find ((k, v) :: t) i = if k = i then some v else find t i := rfl

@[simp] theorem find_put_self (t : Table α) (i : Nat) (v : α) : find (put t i v) i = some v := by
  induction t with
  | nil => simp [put, find]
  | cons e t ih =>
    obtain ⟨k, w⟩ := e
    simp only [put]
    split
    · simp [find]
    · split
      · simp [find]
      · rename_i h1 h2
        simp [find, ih, Ne.symm h2]

theorem find_put_ne (t : Table α) {i j : Nat} (v : α) (h : j ≠ i) : find (put t i v) j = find t j := by
  induction t with
  | nil => simp [put, find, h.symm]
  | cons e t ih =>
    obtain ⟨k, w⟩ := e
    simp only [put]
    split
    · simp [find, h.symm]
    · split
      · rename_i h1 h2
        simp [find, h.symm, ← h2]
      · simp [find, ih]

theorem find_put (t : Table α) (i j : Nat) (v : α) : find (put t i v) j = if j = i then some v else find t j := by
  split
  · rename_i h; rw [h, find_put_self]
  · rename_i h; rw [find_put_ne t v h]

/-- A second filling of a slot replaces the first. -/
@[simp] theorem put_put (t : Table α) (i : Nat) (v w : α) : put (put t i v) i w = put t i w := by
  induction t with
  | nil => simp [put]
  | cons e t ih =>
    obtain ⟨k, u⟩ := e
    simp only [put]
    repeat' split
    all_goals simp_all [put]

theorem mem_of_find {t : Table α} {i : Nat} {v : α} (h : find t i = some v) : (i, v) ∈ t := by
  induction t with
  | nil => simp at h
  | cons e t ih =>
    obtain ⟨k, w⟩ := e
    rw [find_cons] at h
    split at h
    · rename_i hk
      simp only [Option.some.injEq] at h
      simp [hk, h]
    · exact List.mem_cons_of_mem _ (ih h)

theorem find_none_iff {t : Table α} {i : Nat} : find t i = none ↔ ∀ e ∈ t, e.1 ≠ i := by
  induction t with
  | nil => simp
  | cons e t ih =>
    obtain ⟨k, w⟩ := e
    rw [find_cons]
    by_cases hk : k = i
    · simp [hk]
    · simp [hk, ih]

/-- In canonical form a listed record is the record of its slot. -/
theorem find_of_mem {t : Table α} (hs : Sorted t) {i : Nat} {v : α} (h : (i, v) ∈ t) : find t i = some v := by
  induction t with
  | nil => simp at h
  | cons e t ih =>
    obtain ⟨k, w⟩ := e
    simp only [Sorted, List.pairwise_cons] at hs
    rw [find_cons]
    rcases List.mem_cons.mp h with h | h
    · simp_all
    · have hlt : k < i := hs.1 _ h
      rw [if_neg (Nat.ne_of_lt hlt)]
      exact ih hs.2 h

theorem erase_cons (k : Nat) (w : α) (t : Table α) (i : Nat) :
    erase ((k, w) :: t) i = if k = i then erase t i else (k, w) :: erase t i := by
  by_cases hk : k = i <;> simp [erase, hk]

@[simp] theorem find_erase_self (t : Table α) (i : Nat) : find (erase t i) i = none := by
  rw [find_none_iff]
  intro e he
  simpa [erase] using (List.mem_filter.mp he).2

theorem find_erase_ne (t : Table α) {i j : Nat} (h : j ≠ i) : find (erase t i) j = find t j := by
  induction t with
  | nil => simp [erase]
  | cons e t ih =>
    obtain ⟨k, w⟩ := e
    rw [erase_cons]
    by_cases hk : k = i
    · subst hk
      rw [if_pos rfl, ih, find_cons, if_neg h.symm]
    · rw [if_neg hk, find_cons, find_cons, ih]

@[simp] theorem find_mapRecords (f : Nat → α → β) (t : Table α) (i : Nat) :
    find (mapRecords f t) i = (find t i).map (f i) := by
  induction t with
  | nil => simp [mapRecords]
  | cons e t ih =>
    obtain ⟨k, w⟩ := e
    simp only [mapRecords, List.map_cons] at ih ⊢
    rw [find_cons, find_cons]
    by_cases hk : k = i
    · subst hk; simp
    · simp [hk, ih]

/-- Every record of a table with a slot filled is the new record or was there. -/
theorem mem_put {t : Table α} {i : Nat} {v : α} {e : Nat × α} (h : e ∈ put t i v) : e = (i, v) ∨ e ∈ t := by
  induction t with
  | nil => simpa [put] using h
  | cons d t ih =>
    obtain ⟨k, w⟩ := d
    simp only [put] at h
    split at h
    · simpa using h
    · split at h
      · rcases List.mem_cons.mp h with h | h
        · exact .inl h
        · exact .inr (List.mem_cons_of_mem _ h)
      · rcases List.mem_cons.mp h with h | h
        · exact .inr (by simp [h])
        · exact (ih h).imp id (List.mem_cons_of_mem _)

theorem mem_erase {t : Table α} {i : Nat} {e : Nat × α} (h : e ∈ erase t i) : e ∈ t ∧ e.1 ≠ i := by
  simpa [erase] using h

/-- Filling a slot keeps the canonical form. -/
theorem sorted_put {t : Table α} (hs : Sorted t) (i : Nat) (v : α) : Sorted (put t i v) := by
  induction t with
  | nil => simp [put, Sorted]
  | cons e t ih =>
    obtain ⟨k, w⟩ := e
    simp only [Sorted, List.pairwise_cons] at hs ih ⊢
    simp only [put]
    split
    · rename_i hik
      refine List.pairwise_cons.mpr ⟨?_, List.pairwise_cons.mpr hs⟩
      intro e he
      rcases List.mem_cons.mp he with he | he
      · subst he; exact hik
      · exact Nat.lt_trans hik (hs.1 e he)
    · split
      · rename_i h1 h2
        subst h2
        exact List.pairwise_cons.mpr ⟨hs.1, hs.2⟩
      · rename_i h1 h2
        refine List.pairwise_cons.mpr ⟨?_, ih hs.2⟩
        intro e he
        rcases mem_put he with he | he
        · subst he; show k < i; omega
        · exact hs.1 e he

/-- Emptying a slot keeps the canonical form. -/
theorem sorted_erase {t : Table α} (hs : Sorted t) (i : Nat) : Sorted (erase t i) :=
  List.Pairwise.filter _ hs

/-- A change of every record keeps the canonical form. -/
theorem sorted_mapRecords (f : Nat → α → β) {t : Table α} (hs : Sorted t) : Sorted (mapRecords f t) := by
  simpa [mapRecords, Sorted, List.pairwise_map] using hs

/-- What filling a slot does to a sum, in canonical form. -/
theorem sum_put (f : Nat → α → Nat) {t : Table α} (hs : Sorted t) (i : Nat) (v : α) :
    sum f (put t i v) + ((find t i).map (f i)).getD 0 = sum f t + f i v := by
  induction t with
  | nil => simp [put, sum]
  | cons e t ih =>
    obtain ⟨k, w⟩ := e
    simp only [Sorted, List.pairwise_cons] at hs ih
    simp only [put]
    split
    · rename_i hik
      have hn : find ((k, w) :: t) i = none := by
        rw [find_none_iff]
        intro e he
        rcases List.mem_cons.mp he with he | he
        · subst he; show k ≠ i; omega
        · have : k < e.1 := hs.1 e he
          show e.1 ≠ i; omega
      simp [hn, sum]; omega
    · split
      · rename_i h1 h2
        subst h2
        simp [sum, find_cons]; omega
      · rename_i h1 h2
        have hne : k ≠ i := fun h => h2 h.symm
        simp only [sum, find_cons, if_neg hne]
        have := ih hs.2
        omega

/-- What emptying a slot does to a sum, in canonical form. -/
theorem sum_erase (f : Nat → α → Nat) {t : Table α} (hs : Sorted t) (i : Nat) :
    sum f (erase t i) + ((find t i).map (f i)).getD 0 = sum f t := by
  induction t with
  | nil => simp [erase, sum]
  | cons e t ih =>
    obtain ⟨k, w⟩ := e
    simp only [Sorted, List.pairwise_cons] at hs ih
    have hr := ih hs.2
    rw [erase_cons, find_cons]
    by_cases hk : k = i
    · subst hk
      have hn : find t k = none := by
        rw [find_none_iff]
        intro e he
        have : k < e.1 := hs.1 e he
        omega
      rw [hn] at hr
      simp only [if_true, Option.map_some, Option.map_none, Option.getD_some, Option.getD_none, sum] at hr ⊢
      omega
    · simp only [if_neg hk, sum]
      omega

/-- What a change of every record does to a sum. -/
theorem sum_mapRecords (f : Nat → β → Nat) (g : Nat → α → β) (t : Table α) :
    sum f (mapRecords g t) = sum (fun i a => f i (g i a)) t := by
  induction t with
  | nil => rfl
  | cons e t ih => simp only [mapRecords, List.map_cons, sum] at ih ⊢; rw [ih]

/-- Sums of figures that agree on every record agree. -/
theorem sum_congr {f g : Nat → α → Nat} {t : Table α} (h : ∀ e ∈ t, f e.1 e.2 = g e.1 e.2) : sum f t = sum g t := by
  induction t with
  | nil => rfl
  | cons e t ih =>
    obtain ⟨k, w⟩ := e
    simp only [sum]
    rw [h (k, w) (by simp), ih (fun e he => h e (List.mem_cons_of_mem _ he))]

/-- The figure of a listed record is part of the sum. -/
theorem le_sum (f : Nat → α → Nat) {t : Table α} {i : Nat} {v : α} (h : find t i = some v) : f i v ≤ sum f t := by
  induction t with
  | nil => simp at h
  | cons e t ih =>
    obtain ⟨k, w⟩ := e
    rw [find_cons] at h
    simp only [sum]
    split at h
    · rename_i hk
      simp only [Option.some.injEq] at h
      subst hk; subst h; omega
    · have := ih h; omega

theorem lowestEmptyFrom_none {t : Table α} {n i s : Nat} (h : lowestEmptyFrom t n i = some s) :
    find t s = none ∧ i ≤ s ∧ s < i + n ∧ ∀ j, i ≤ j → j < s → (find t j).isSome := by
  induction n generalizing i with
  | zero => simp [lowestEmptyFrom] at h
  | succ n ih =>
    simp only [lowestEmptyFrom] at h
    split at h
    · rename_i hn
      simp only [Option.some.injEq] at h
      subst h
      refine ⟨by simpa using hn, Nat.le_refl _, by omega, fun j h1 h2 => by omega⟩
    · rename_i hn
      obtain ⟨h1, h2, h3, h4⟩ := ih h
      refine ⟨h1, by omega, by omega, fun j hj hjs => ?_⟩
      by_cases hji : j = i
      · subst hji
        cases hf : find t j with
        | none => simp [hf] at hn
        | some v => rfl
      · exact h4 j (by omega) hjs

/-- The lowest EMPTY slot is EMPTY, in range, and no lower slot is EMPTY. -/
theorem lowestEmpty_spec {t : Table α} {n s : Nat} (h : lowestEmpty t n = some s) :
    find t s = none ∧ s < n ∧ ∀ j < s, (find t j).isSome := by
  obtain ⟨h1, _, h3, h4⟩ := lowestEmptyFrom_none h
  exact ⟨h1, by omega, fun j hj => h4 j (Nat.zero_le _) hj⟩

end Sys2Proof.Table

namespace Sys2Proof.Figures

@[simp] theorem at'_set_self (f : Figures) (i n : Nat) : at' (set f i n) i = n := by
  unfold at' set
  split
  · rename_i h; simp [h]
  · simp

theorem at'_set_ne (f : Figures) {i j : Nat} (n : Nat) (h : j ≠ i) : at' (set f i n) j = at' f j := by
  unfold at' set
  split
  · rw [Table.find_erase_ne f h]
  · rw [Table.find_put_ne f n h]

/-- Setting a figure keeps the canonical form. -/
theorem canonical_set {f : Figures} (h : Canonical f) (i n : Nat) : Canonical (set f i n) := by
  unfold set
  split
  · exact ⟨Table.sorted_erase h.1 i, fun e he => h.2 e (Table.mem_erase he).1⟩
  · rename_i hn
    refine ⟨Table.sorted_put h.1 i n, fun e he => ?_⟩
    rcases Table.mem_put he with he | he
    · subst he; exact hn
    · exact h.2 e he

/-- What setting a figure does to a weighted sum, in canonical form. -/
theorem sum_set (w : Nat → Nat) {f : Figures} (h : Table.Sorted f) (i n : Nat) :
    Table.sum (fun d c => c * w d) (set f i n) + at' f i * w i = Table.sum (fun d c => c * w d) f + n * w i := by
  have key : ((Table.find f i).map (fun c => c * w i)).getD 0 = at' f i * w i := by
    unfold at'
    cases Table.find f i <;> simp
  unfold set
  split
  · rename_i hn
    have := Table.sum_erase (fun d c => c * w d) h i
    rw [key] at this
    subst hn; omega
  · have := Table.sum_put (fun d c => c * w d) h i n
    rw [key] at this
    exact this

end Sys2Proof.Figures
end

