-- ==== Sys2Proof/Laws/State.lean ====
section
/-!
SUPPORT. What each update of the state leaves in each field: one lemma per field per update, true by rfl, so that no proof unfolds a
record update; and the readings of the tables after the updates.
-/

set_option Elab.async false

namespace Sys2Proof.Machine

variable (s : State)

/-! ## putMeter -/

@[simp] theorem State.putMeter_stored (i : Nat) (m : Meter) : (s.putMeter i m).stored = s.stored := rfl
@[simp] theorem State.putMeter_inForce (i : Nat) (m : Meter) : (s.putMeter i m).inForce = s.inForce := rfl
@[simp] theorem State.putMeter_fallenBack (i : Nat) (m : Meter) : (s.putMeter i m).fallenBack = s.fallenBack := rfl
@[simp] theorem State.putMeter_lastStart (i : Nat) (m : Meter) : (s.putMeter i m).lastStart = s.lastStart := rfl
@[simp] theorem State.putMeter_retention (i : Nat) (m : Meter) : (s.putMeter i m).retention = s.retention := rfl
@[simp] theorem State.putMeter_powered (i : Nat) (m : Meter) : (s.putMeter i m).powered = s.powered := rfl
@[simp] theorem State.putMeter_seconds (i : Nat) (m : Meter) : (s.putMeter i m).seconds = s.seconds := rfl
@[simp] theorem State.putMeter_requestRing (i : Nat) (m : Meter) : (s.putMeter i m).requestRing = s.requestRing := rfl
@[simp] theorem State.putMeter_resultRing (i : Nat) (m : Meter) : (s.putMeter i m).resultRing = s.resultRing := rfl
@[simp] theorem State.putMeter_requestProducer (i : Nat) (m : Meter) : (s.putMeter i m).requestProducer = s.requestProducer := rfl
@[simp] theorem State.putMeter_requestConsumer (i : Nat) (m : Meter) : (s.putMeter i m).requestConsumer = s.requestConsumer := rfl
@[simp] theorem State.putMeter_resultProducer (i : Nat) (m : Meter) : (s.putMeter i m).resultProducer = s.resultProducer := rfl
@[simp] theorem State.putMeter_resultConsumer (i : Nat) (m : Meter) : (s.putMeter i m).resultConsumer = s.resultConsumer := rfl
@[simp] theorem State.putMeter_ringFault (i : Nat) (m : Meter) : (s.putMeter i m).ringFault = s.ringFault := rfl
@[simp] theorem State.putMeter_resultMark (i : Nat) (m : Meter) : (s.putMeter i m).resultMark = s.resultMark := rfl
@[simp] theorem State.putMeter_attentionMark (i : Nat) (m : Meter) : (s.putMeter i m).attentionMark = s.attentionMark := rfl
@[simp] theorem State.putMeter_msiPermitted (i : Nat) (m : Meter) : (s.putMeter i m).msiPermitted = s.msiPermitted := rfl
@[simp] theorem State.putMeter_msiSent (i : Nat) (m : Meter) : (s.putMeter i m).msiSent = s.msiSent := rfl
@[simp] theorem State.putMeter_choices (i : Nat) (m : Meter) : (s.putMeter i m).choices = s.choices := rfl
@[simp] theorem State.putMeter_pending (i : Nat) (m : Meter) : (s.putMeter i m).pending = s.pending := rfl
@[simp] theorem State.putMeter_record_retentionMarker (i : Nat) (m : Meter) :
    (s.putMeter i m).record.retentionMarker = s.record.retentionMarker := rfl
@[simp] theorem State.putMeter_record_mode (i : Nat) (m : Meter) :
    (s.putMeter i m).record.mode = s.record.mode := rfl
@[simp] theorem State.putMeter_record_day (i : Nat) (m : Meter) :
    (s.putMeter i m).record.day = s.record.day := rfl
@[simp] theorem State.putMeter_record_deviceCauses (i : Nat) (m : Meter) :
    (s.putMeter i m).record.deviceCauses = s.record.deviceCauses := rfl
@[simp] theorem State.putMeter_record_meters (i : Nat) (m : Meter) :
    (s.putMeter i m).record.meters = Table.put s.record.meters i m := rfl
@[simp] theorem State.putMeter_record_queue (i : Nat) (m : Meter) :
    (s.putMeter i m).record.queue = s.record.queue := rfl
@[simp] theorem State.putMeter_record_queuePeak (i : Nat) (m : Meter) :
    (s.putMeter i m).record.queuePeak = s.record.queuePeak := rfl
@[simp] theorem State.putMeter_record_pool (i : Nat) (m : Meter) :
    (s.putMeter i m).record.pool = s.record.pool := rfl
@[simp] theorem State.putMeter_record_branches (i : Nat) (m : Meter) :
    (s.putMeter i m).record.branches = s.record.branches := rfl
@[simp] theorem State.putMeter_record_denominations (i : Nat) (m : Meter) :
    (s.putMeter i m).record.denominations = s.record.denominations := rfl
@[simp] theorem State.putMeter_record_transfers (i : Nat) (m : Meter) :
    (s.putMeter i m).record.transfers = s.record.transfers := rfl
@[simp] theorem State.putMeter_record_nextTransfer (i : Nat) (m : Meter) :
    (s.putMeter i m).record.nextTransfer = s.record.nextTransfer := rfl

/-! ## dropMeter -/

@[simp] theorem State.dropMeter_stored (i : Nat) : (s.dropMeter i).stored = s.stored := rfl
@[simp] theorem State.dropMeter_inForce (i : Nat) : (s.dropMeter i).inForce = s.inForce := rfl
@[simp] theorem State.dropMeter_fallenBack (i : Nat) : (s.dropMeter i).fallenBack = s.fallenBack := rfl
@[simp] theorem State.dropMeter_lastStart (i : Nat) : (s.dropMeter i).lastStart = s.lastStart := rfl
@[simp] theorem State.dropMeter_retention (i : Nat) : (s.dropMeter i).retention = s.retention := rfl
@[simp] theorem State.dropMeter_powered (i : Nat) : (s.dropMeter i).powered = s.powered := rfl
@[simp] theorem State.dropMeter_seconds (i : Nat) : (s.dropMeter i).seconds = s.seconds := rfl
@[simp] theorem State.dropMeter_requestRing (i : Nat) : (s.dropMeter i).requestRing = s.requestRing := rfl
@[simp] theorem State.dropMeter_resultRing (i : Nat) : (s.dropMeter i).resultRing = s.resultRing := rfl
@[simp] theorem State.dropMeter_requestProducer (i : Nat) : (s.dropMeter i).requestProducer = s.requestProducer := rfl
@[simp] theorem State.dropMeter_requestConsumer (i : Nat) : (s.dropMeter i).requestConsumer = s.requestConsumer := rfl
@[simp] theorem State.dropMeter_resultProducer (i : Nat) : (s.dropMeter i).resultProducer = s.resultProducer := rfl
@[simp] theorem State.dropMeter_resultConsumer (i : Nat) : (s.dropMeter i).resultConsumer = s.resultConsumer := rfl
@[simp] theorem State.dropMeter_ringFault (i : Nat) : (s.dropMeter i).ringFault = s.ringFault := rfl
@[simp] theorem State.dropMeter_resultMark (i : Nat) : (s.dropMeter i).resultMark = s.resultMark := rfl
@[simp] theorem State.dropMeter_attentionMark (i : Nat) : (s.dropMeter i).attentionMark = s.attentionMark := rfl
@[simp] theorem State.dropMeter_msiPermitted (i : Nat) : (s.dropMeter i).msiPermitted = s.msiPermitted := rfl
@[simp] theorem State.dropMeter_msiSent (i : Nat) : (s.dropMeter i).msiSent = s.msiSent := rfl
@[simp] theorem State.dropMeter_choices (i : Nat) : (s.dropMeter i).choices = s.choices := rfl
@[simp] theorem State.dropMeter_pending (i : Nat) : (s.dropMeter i).pending = s.pending := rfl
@[simp] theorem State.dropMeter_record_retentionMarker (i : Nat) :
    (s.dropMeter i).record.retentionMarker = s.record.retentionMarker := rfl
@[simp] theorem State.dropMeter_record_mode (i : Nat) :
    (s.dropMeter i).record.mode = s.record.mode := rfl
@[simp] theorem State.dropMeter_record_day (i : Nat) :
    (s.dropMeter i).record.day = s.record.day := rfl
@[simp] theorem State.dropMeter_record_deviceCauses (i : Nat) :
    (s.dropMeter i).record.deviceCauses = s.record.deviceCauses := rfl
@[simp] theorem State.dropMeter_record_meters (i : Nat) :
    (s.dropMeter i).record.meters = Table.erase s.record.meters i := rfl
@[simp] theorem State.dropMeter_record_queue (i : Nat) :
    (s.dropMeter i).record.queue = s.record.queue := rfl
@[simp] theorem State.dropMeter_record_queuePeak (i : Nat) :
    (s.dropMeter i).record.queuePeak = s.record.queuePeak := rfl
@[simp] theorem State.dropMeter_record_pool (i : Nat) :
    (s.dropMeter i).record.pool = s.record.pool := rfl
@[simp] theorem State.dropMeter_record_branches (i : Nat) :
    (s.dropMeter i).record.branches = s.record.branches := rfl
@[simp] theorem State.dropMeter_record_denominations (i : Nat) :
    (s.dropMeter i).record.denominations = s.record.denominations := rfl
@[simp] theorem State.dropMeter_record_transfers (i : Nat) :
    (s.dropMeter i).record.transfers = s.record.transfers := rfl
@[simp] theorem State.dropMeter_record_nextTransfer (i : Nat) :
    (s.dropMeter i).record.nextTransfer = s.record.nextTransfer := rfl

/-! ## putBranch -/

@[simp] theorem State.putBranch_stored (i : Nat) (b : Branch) : (s.putBranch i b).stored = s.stored := rfl
@[simp] theorem State.putBranch_inForce (i : Nat) (b : Branch) : (s.putBranch i b).inForce = s.inForce := rfl
@[simp] theorem State.putBranch_fallenBack (i : Nat) (b : Branch) : (s.putBranch i b).fallenBack = s.fallenBack := rfl
@[simp] theorem State.putBranch_lastStart (i : Nat) (b : Branch) : (s.putBranch i b).lastStart = s.lastStart := rfl
@[simp] theorem State.putBranch_retention (i : Nat) (b : Branch) : (s.putBranch i b).retention = s.retention := rfl
@[simp] theorem State.putBranch_powered (i : Nat) (b : Branch) : (s.putBranch i b).powered = s.powered := rfl
@[simp] theorem State.putBranch_seconds (i : Nat) (b : Branch) : (s.putBranch i b).seconds = s.seconds := rfl
@[simp] theorem State.putBranch_requestRing (i : Nat) (b : Branch) : (s.putBranch i b).requestRing = s.requestRing := rfl
@[simp] theorem State.putBranch_resultRing (i : Nat) (b : Branch) : (s.putBranch i b).resultRing = s.resultRing := rfl
@[simp] theorem State.putBranch_requestProducer (i : Nat) (b : Branch) : (s.putBranch i b).requestProducer = s.requestProducer := rfl
@[simp] theorem State.putBranch_requestConsumer (i : Nat) (b : Branch) : (s.putBranch i b).requestConsumer = s.requestConsumer := rfl
@[simp] theorem State.putBranch_resultProducer (i : Nat) (b : Branch) : (s.putBranch i b).resultProducer = s.resultProducer := rfl
@[simp] theorem State.putBranch_resultConsumer (i : Nat) (b : Branch) : (s.putBranch i b).resultConsumer = s.resultConsumer := rfl
@[simp] theorem State.putBranch_ringFault (i : Nat) (b : Branch) : (s.putBranch i b).ringFault = s.ringFault := rfl
@[simp] theorem State.putBranch_resultMark (i : Nat) (b : Branch) : (s.putBranch i b).resultMark = s.resultMark := rfl
@[simp] theorem State.putBranch_attentionMark (i : Nat) (b : Branch) : (s.putBranch i b).attentionMark = s.attentionMark := rfl
@[simp] theorem State.putBranch_msiPermitted (i : Nat) (b : Branch) : (s.putBranch i b).msiPermitted = s.msiPermitted := rfl
@[simp] theorem State.putBranch_msiSent (i : Nat) (b : Branch) : (s.putBranch i b).msiSent = s.msiSent := rfl
@[simp] theorem State.putBranch_choices (i : Nat) (b : Branch) : (s.putBranch i b).choices = s.choices := rfl
@[simp] theorem State.putBranch_pending (i : Nat) (b : Branch) : (s.putBranch i b).pending = s.pending := rfl
@[simp] theorem State.putBranch_record_retentionMarker (i : Nat) (b : Branch) :
    (s.putBranch i b).record.retentionMarker = s.record.retentionMarker := rfl
@[simp] theorem State.putBranch_record_mode (i : Nat) (b : Branch) :
    (s.putBranch i b).record.mode = s.record.mode := rfl
@[simp] theorem State.putBranch_record_day (i : Nat) (b : Branch) :
    (s.putBranch i b).record.day = s.record.day := rfl
@[simp] theorem State.putBranch_record_deviceCauses (i : Nat) (b : Branch) :
    (s.putBranch i b).record.deviceCauses = s.record.deviceCauses := rfl
@[simp] theorem State.putBranch_record_meters (i : Nat) (b : Branch) :
    (s.putBranch i b).record.meters = s.record.meters := rfl
@[simp] theorem State.putBranch_record_queue (i : Nat) (b : Branch) :
    (s.putBranch i b).record.queue = s.record.queue := rfl
@[simp] theorem State.putBranch_record_queuePeak (i : Nat) (b : Branch) :
    (s.putBranch i b).record.queuePeak = s.record.queuePeak := rfl
@[simp] theorem State.putBranch_record_pool (i : Nat) (b : Branch) :
    (s.putBranch i b).record.pool = s.record.pool := rfl
@[simp] theorem State.putBranch_record_branches (i : Nat) (b : Branch) :
    (s.putBranch i b).record.branches = Table.put s.record.branches i b := rfl
@[simp] theorem State.putBranch_record_denominations (i : Nat) (b : Branch) :
    (s.putBranch i b).record.denominations = s.record.denominations := rfl
@[simp] theorem State.putBranch_record_transfers (i : Nat) (b : Branch) :
    (s.putBranch i b).record.transfers = s.record.transfers := rfl
@[simp] theorem State.putBranch_record_nextTransfer (i : Nat) (b : Branch) :
    (s.putBranch i b).record.nextTransfer = s.record.nextTransfer := rfl

/-! ## putDenomination -/

@[simp] theorem State.putDenomination_stored (i : Nat) (d : Denomination) : (s.putDenomination i d).stored = s.stored := rfl
@[simp] theorem State.putDenomination_inForce (i : Nat) (d : Denomination) : (s.putDenomination i d).inForce = s.inForce := rfl
@[simp] theorem State.putDenomination_fallenBack (i : Nat) (d : Denomination) : (s.putDenomination i d).fallenBack = s.fallenBack := rfl
@[simp] theorem State.putDenomination_lastStart (i : Nat) (d : Denomination) : (s.putDenomination i d).lastStart = s.lastStart := rfl
@[simp] theorem State.putDenomination_retention (i : Nat) (d : Denomination) : (s.putDenomination i d).retention = s.retention := rfl
@[simp] theorem State.putDenomination_powered (i : Nat) (d : Denomination) : (s.putDenomination i d).powered = s.powered := rfl
@[simp] theorem State.putDenomination_seconds (i : Nat) (d : Denomination) : (s.putDenomination i d).seconds = s.seconds := rfl
@[simp] theorem State.putDenomination_requestRing (i : Nat) (d : Denomination) : (s.putDenomination i d).requestRing = s.requestRing := rfl
@[simp] theorem State.putDenomination_resultRing (i : Nat) (d : Denomination) : (s.putDenomination i d).resultRing = s.resultRing := rfl
@[simp] theorem State.putDenomination_requestProducer (i : Nat) (d : Denomination) : (s.putDenomination i d).requestProducer = s.requestProducer := rfl
@[simp] theorem State.putDenomination_requestConsumer (i : Nat) (d : Denomination) : (s.putDenomination i d).requestConsumer = s.requestConsumer := rfl
@[simp] theorem State.putDenomination_resultProducer (i : Nat) (d : Denomination) : (s.putDenomination i d).resultProducer = s.resultProducer := rfl
@[simp] theorem State.putDenomination_resultConsumer (i : Nat) (d : Denomination) : (s.putDenomination i d).resultConsumer = s.resultConsumer := rfl
@[simp] theorem State.putDenomination_ringFault (i : Nat) (d : Denomination) : (s.putDenomination i d).ringFault = s.ringFault := rfl
@[simp] theorem State.putDenomination_resultMark (i : Nat) (d : Denomination) : (s.putDenomination i d).resultMark = s.resultMark := rfl
@[simp] theorem State.putDenomination_attentionMark (i : Nat) (d : Denomination) : (s.putDenomination i d).attentionMark = s.attentionMark := rfl
@[simp] theorem State.putDenomination_msiPermitted (i : Nat) (d : Denomination) : (s.putDenomination i d).msiPermitted = s.msiPermitted := rfl
@[simp] theorem State.putDenomination_msiSent (i : Nat) (d : Denomination) : (s.putDenomination i d).msiSent = s.msiSent := rfl
@[simp] theorem State.putDenomination_choices (i : Nat) (d : Denomination) : (s.putDenomination i d).choices = s.choices := rfl
@[simp] theorem State.putDenomination_pending (i : Nat) (d : Denomination) : (s.putDenomination i d).pending = s.pending := rfl
@[simp] theorem State.putDenomination_record_retentionMarker (i : Nat) (d : Denomination) :
    (s.putDenomination i d).record.retentionMarker = s.record.retentionMarker := rfl
@[simp] theorem State.putDenomination_record_mode (i : Nat) (d : Denomination) :
    (s.putDenomination i d).record.mode = s.record.mode := rfl
@[simp] theorem State.putDenomination_record_day (i : Nat) (d : Denomination) :
    (s.putDenomination i d).record.day = s.record.day := rfl
@[simp] theorem State.putDenomination_record_deviceCauses (i : Nat) (d : Denomination) :
    (s.putDenomination i d).record.deviceCauses = s.record.deviceCauses := rfl
@[simp] theorem State.putDenomination_record_meters (i : Nat) (d : Denomination) :
    (s.putDenomination i d).record.meters = s.record.meters := rfl
@[simp] theorem State.putDenomination_record_queue (i : Nat) (d : Denomination) :
    (s.putDenomination i d).record.queue = s.record.queue := rfl
@[simp] theorem State.putDenomination_record_queuePeak (i : Nat) (d : Denomination) :
    (s.putDenomination i d).record.queuePeak = s.record.queuePeak := rfl
@[simp] theorem State.putDenomination_record_pool (i : Nat) (d : Denomination) :
    (s.putDenomination i d).record.pool = s.record.pool := rfl
@[simp] theorem State.putDenomination_record_branches (i : Nat) (d : Denomination) :
    (s.putDenomination i d).record.branches = s.record.branches := rfl
@[simp] theorem State.putDenomination_record_denominations (i : Nat) (d : Denomination) :
    (s.putDenomination i d).record.denominations = Table.put s.record.denominations i d := rfl
@[simp] theorem State.putDenomination_record_transfers (i : Nat) (d : Denomination) :
    (s.putDenomination i d).record.transfers = s.record.transfers := rfl
@[simp] theorem State.putDenomination_record_nextTransfer (i : Nat) (d : Denomination) :
    (s.putDenomination i d).record.nextTransfer = s.record.nextTransfer := rfl

/-! ## withPool -/

@[simp] theorem State.withPool_stored (p : Pool) : (s.withPool p).stored = s.stored := rfl
@[simp] theorem State.withPool_inForce (p : Pool) : (s.withPool p).inForce = s.inForce := rfl
@[simp] theorem State.withPool_fallenBack (p : Pool) : (s.withPool p).fallenBack = s.fallenBack := rfl
@[simp] theorem State.withPool_lastStart (p : Pool) : (s.withPool p).lastStart = s.lastStart := rfl
@[simp] theorem State.withPool_retention (p : Pool) : (s.withPool p).retention = s.retention := rfl
@[simp] theorem State.withPool_powered (p : Pool) : (s.withPool p).powered = s.powered := rfl
@[simp] theorem State.withPool_seconds (p : Pool) : (s.withPool p).seconds = s.seconds := rfl
@[simp] theorem State.withPool_requestRing (p : Pool) : (s.withPool p).requestRing = s.requestRing := rfl
@[simp] theorem State.withPool_resultRing (p : Pool) : (s.withPool p).resultRing = s.resultRing := rfl
@[simp] theorem State.withPool_requestProducer (p : Pool) : (s.withPool p).requestProducer = s.requestProducer := rfl
@[simp] theorem State.withPool_requestConsumer (p : Pool) : (s.withPool p).requestConsumer = s.requestConsumer := rfl
@[simp] theorem State.withPool_resultProducer (p : Pool) : (s.withPool p).resultProducer = s.resultProducer := rfl
@[simp] theorem State.withPool_resultConsumer (p : Pool) : (s.withPool p).resultConsumer = s.resultConsumer := rfl
@[simp] theorem State.withPool_ringFault (p : Pool) : (s.withPool p).ringFault = s.ringFault := rfl
@[simp] theorem State.withPool_resultMark (p : Pool) : (s.withPool p).resultMark = s.resultMark := rfl
@[simp] theorem State.withPool_attentionMark (p : Pool) : (s.withPool p).attentionMark = s.attentionMark := rfl
@[simp] theorem State.withPool_msiPermitted (p : Pool) : (s.withPool p).msiPermitted = s.msiPermitted := rfl
@[simp] theorem State.withPool_msiSent (p : Pool) : (s.withPool p).msiSent = s.msiSent := rfl
@[simp] theorem State.withPool_choices (p : Pool) : (s.withPool p).choices = s.choices := rfl
@[simp] theorem State.withPool_pending (p : Pool) : (s.withPool p).pending = s.pending := rfl
@[simp] theorem State.withPool_record_retentionMarker (p : Pool) :
    (s.withPool p).record.retentionMarker = s.record.retentionMarker := rfl
@[simp] theorem State.withPool_record_mode (p : Pool) :
    (s.withPool p).record.mode = s.record.mode := rfl
@[simp] theorem State.withPool_record_day (p : Pool) :
    (s.withPool p).record.day = s.record.day := rfl
@[simp] theorem State.withPool_record_deviceCauses (p : Pool) :
    (s.withPool p).record.deviceCauses = s.record.deviceCauses := rfl
@[simp] theorem State.withPool_record_meters (p : Pool) :
    (s.withPool p).record.meters = s.record.meters := rfl
@[simp] theorem State.withPool_record_queue (p : Pool) :
    (s.withPool p).record.queue = s.record.queue := rfl
@[simp] theorem State.withPool_record_queuePeak (p : Pool) :
    (s.withPool p).record.queuePeak = s.record.queuePeak := rfl
@[simp] theorem State.withPool_record_pool (p : Pool) :
    (s.withPool p).record.pool = p := rfl
@[simp] theorem State.withPool_record_branches (p : Pool) :
    (s.withPool p).record.branches = s.record.branches := rfl
@[simp] theorem State.withPool_record_denominations (p : Pool) :
    (s.withPool p).record.denominations = s.record.denominations := rfl
@[simp] theorem State.withPool_record_transfers (p : Pool) :
    (s.withPool p).record.transfers = s.record.transfers := rfl
@[simp] theorem State.withPool_record_nextTransfer (p : Pool) :
    (s.withPool p).record.nextTransfer = s.record.nextTransfer := rfl

/-! ## withMode -/

@[simp] theorem State.withMode_stored (m : Mode) : (s.withMode m).stored = s.stored := rfl
@[simp] theorem State.withMode_inForce (m : Mode) : (s.withMode m).inForce = s.inForce := rfl
@[simp] theorem State.withMode_fallenBack (m : Mode) : (s.withMode m).fallenBack = s.fallenBack := rfl
@[simp] theorem State.withMode_lastStart (m : Mode) : (s.withMode m).lastStart = s.lastStart := rfl
@[simp] theorem State.withMode_retention (m : Mode) : (s.withMode m).retention = s.retention := rfl
@[simp] theorem State.withMode_powered (m : Mode) : (s.withMode m).powered = s.powered := rfl
@[simp] theorem State.withMode_seconds (m : Mode) : (s.withMode m).seconds = s.seconds := rfl
@[simp] theorem State.withMode_requestRing (m : Mode) : (s.withMode m).requestRing = s.requestRing := rfl
@[simp] theorem State.withMode_resultRing (m : Mode) : (s.withMode m).resultRing = s.resultRing := rfl
@[simp] theorem State.withMode_requestProducer (m : Mode) : (s.withMode m).requestProducer = s.requestProducer := rfl
@[simp] theorem State.withMode_requestConsumer (m : Mode) : (s.withMode m).requestConsumer = s.requestConsumer := rfl
@[simp] theorem State.withMode_resultProducer (m : Mode) : (s.withMode m).resultProducer = s.resultProducer := rfl
@[simp] theorem State.withMode_resultConsumer (m : Mode) : (s.withMode m).resultConsumer = s.resultConsumer := rfl
@[simp] theorem State.withMode_ringFault (m : Mode) : (s.withMode m).ringFault = s.ringFault := rfl
@[simp] theorem State.withMode_resultMark (m : Mode) : (s.withMode m).resultMark = s.resultMark := rfl
@[simp] theorem State.withMode_attentionMark (m : Mode) : (s.withMode m).attentionMark = s.attentionMark := rfl
@[simp] theorem State.withMode_msiPermitted (m : Mode) : (s.withMode m).msiPermitted = s.msiPermitted := rfl
@[simp] theorem State.withMode_msiSent (m : Mode) : (s.withMode m).msiSent = s.msiSent := rfl
@[simp] theorem State.withMode_choices (m : Mode) : (s.withMode m).choices = s.choices := rfl
@[simp] theorem State.withMode_pending (m : Mode) : (s.withMode m).pending = s.pending := rfl
@[simp] theorem State.withMode_record_retentionMarker (m : Mode) :
    (s.withMode m).record.retentionMarker = s.record.retentionMarker := rfl
@[simp] theorem State.withMode_record_mode (m : Mode) :
    (s.withMode m).record.mode = m := rfl
@[simp] theorem State.withMode_record_day (m : Mode) :
    (s.withMode m).record.day = s.record.day := rfl
@[simp] theorem State.withMode_record_deviceCauses (m : Mode) :
    (s.withMode m).record.deviceCauses = s.record.deviceCauses := rfl
@[simp] theorem State.withMode_record_meters (m : Mode) :
    (s.withMode m).record.meters = s.record.meters := rfl
@[simp] theorem State.withMode_record_queue (m : Mode) :
    (s.withMode m).record.queue = s.record.queue := rfl
@[simp] theorem State.withMode_record_queuePeak (m : Mode) :
    (s.withMode m).record.queuePeak = s.record.queuePeak := rfl
@[simp] theorem State.withMode_record_pool (m : Mode) :
    (s.withMode m).record.pool = s.record.pool := rfl
@[simp] theorem State.withMode_record_branches (m : Mode) :
    (s.withMode m).record.branches = s.record.branches := rfl
@[simp] theorem State.withMode_record_denominations (m : Mode) :
    (s.withMode m).record.denominations = s.record.denominations := rfl
@[simp] theorem State.withMode_record_transfers (m : Mode) :
    (s.withMode m).record.transfers = s.record.transfers := rfl
@[simp] theorem State.withMode_record_nextTransfer (m : Mode) :
    (s.withMode m).record.nextTransfer = s.record.nextTransfer := rfl

/-! ## raiseAttention -/

@[simp] theorem raiseAttention_stored : (raiseAttention s).stored = s.stored := by
  unfold raiseAttention; split <;> rfl
@[simp] theorem raiseAttention_inForce : (raiseAttention s).inForce = s.inForce := by
  unfold raiseAttention; split <;> rfl
@[simp] theorem raiseAttention_fallenBack : (raiseAttention s).fallenBack = s.fallenBack := by
  unfold raiseAttention; split <;> rfl
@[simp] theorem raiseAttention_lastStart : (raiseAttention s).lastStart = s.lastStart := by
  unfold raiseAttention; split <;> rfl
@[simp] theorem raiseAttention_retention : (raiseAttention s).retention = s.retention := by
  unfold raiseAttention; split <;> rfl
@[simp] theorem raiseAttention_powered : (raiseAttention s).powered = s.powered := by
  unfold raiseAttention; split <;> rfl
@[simp] theorem raiseAttention_seconds : (raiseAttention s).seconds = s.seconds := by
  unfold raiseAttention; split <;> rfl
@[simp] theorem raiseAttention_requestRing : (raiseAttention s).requestRing = s.requestRing := by
  unfold raiseAttention; split <;> rfl
@[simp] theorem raiseAttention_resultRing : (raiseAttention s).resultRing = s.resultRing := by
  unfold raiseAttention; split <;> rfl
@[simp] theorem raiseAttention_requestProducer : (raiseAttention s).requestProducer = s.requestProducer := by
  unfold raiseAttention; split <;> rfl
@[simp] theorem raiseAttention_requestConsumer : (raiseAttention s).requestConsumer = s.requestConsumer := by
  unfold raiseAttention; split <;> rfl
@[simp] theorem raiseAttention_resultProducer : (raiseAttention s).resultProducer = s.resultProducer := by
  unfold raiseAttention; split <;> rfl
@[simp] theorem raiseAttention_resultConsumer : (raiseAttention s).resultConsumer = s.resultConsumer := by
  unfold raiseAttention; split <;> rfl
@[simp] theorem raiseAttention_ringFault : (raiseAttention s).ringFault = s.ringFault := by
  unfold raiseAttention; split <;> rfl
@[simp] theorem raiseAttention_resultMark : (raiseAttention s).resultMark = s.resultMark := by
  unfold raiseAttention; split <;> rfl
theorem raiseAttention_attentionMark :
    (raiseAttention s).attentionMark = (s.attentionMark || s.inForce.attentionEnable) := by
  unfold raiseAttention; split <;> simp_all
@[simp] theorem raiseAttention_msiPermitted : (raiseAttention s).msiPermitted = s.msiPermitted := by
  unfold raiseAttention; split <;> rfl
@[simp] theorem raiseAttention_msiSent : (raiseAttention s).msiSent = s.msiSent := by
  unfold raiseAttention; split <;> rfl
@[simp] theorem raiseAttention_choices : (raiseAttention s).choices = s.choices := by
  unfold raiseAttention; split <;> rfl
@[simp] theorem raiseAttention_pending : (raiseAttention s).pending = s.pending := by
  unfold raiseAttention; split <;> rfl
@[simp] theorem raiseAttention_record : (raiseAttention s).record = s.record := by
  unfold raiseAttention; split <;> rfl

/-! ## Reading the tables after the updates -/

@[simp] theorem State.meter?_putMeter_self (i : Nat) (m : Meter) : (s.putMeter i m).meter? i = some m := by
  simp [State.meter?]

theorem State.meter?_putMeter (i j : Nat) (m : Meter) :
    (s.putMeter i m).meter? j = if j = i then some m else s.meter? j := by
  simp [State.meter?, Table.find_put]

@[simp] theorem State.meter?_dropMeter_self (i : Nat) : (s.dropMeter i).meter? i = none := by
  simp [State.meter?]

theorem State.meter?_dropMeter_ne {i j : Nat} (h : j ≠ i) : (s.dropMeter i).meter? j = s.meter? j := by
  simp [State.meter?, Table.find_erase_ne _ h]

@[simp] theorem State.meter?_putBranch (i j : Nat) (b : Branch) : (s.putBranch i b).meter? j = s.meter? j := rfl
@[simp] theorem State.meter?_putDenomination (i j : Nat) (d : Denomination) :
    (s.putDenomination i d).meter? j = s.meter? j := rfl
@[simp] theorem State.meter?_withPool (p : Pool) (j : Nat) : (s.withPool p).meter? j = s.meter? j := rfl
@[simp] theorem State.meter?_withMode (m : Mode) (j : Nat) : (s.withMode m).meter? j = s.meter? j := rfl
@[simp] theorem State.meter?_raiseAttention (j : Nat) : (raiseAttention s).meter? j = s.meter? j := by
  simp [State.meter?]

@[simp] theorem State.branch?_putBranch_self (i : Nat) (b : Branch) : (s.putBranch i b).branch? i = some b := by
  simp [State.branch?]

theorem State.branch?_putBranch (i j : Nat) (b : Branch) :
    (s.putBranch i b).branch? j = if j = i then some b else s.branch? j := by
  simp [State.branch?, Table.find_put]

@[simp] theorem State.branch?_putMeter (i j : Nat) (m : Meter) : (s.putMeter i m).branch? j = s.branch? j := rfl
@[simp] theorem State.branch?_dropMeter (i j : Nat) : (s.dropMeter i).branch? j = s.branch? j := rfl
@[simp] theorem State.branch?_putDenomination (i j : Nat) (d : Denomination) :
    (s.putDenomination i d).branch? j = s.branch? j := rfl
@[simp] theorem State.branch?_withPool (p : Pool) (j : Nat) : (s.withPool p).branch? j = s.branch? j := rfl
@[simp] theorem State.branch?_withMode (m : Mode) (j : Nat) : (s.withMode m).branch? j = s.branch? j := rfl
@[simp] theorem State.branch?_raiseAttention (j : Nat) : (raiseAttention s).branch? j = s.branch? j := by
  simp [State.branch?]

@[simp] theorem State.denomination?_putDenomination_self (i : Nat) (d : Denomination) :
    (s.putDenomination i d).denomination? i = some d := by
  simp [State.denomination?]

@[simp] theorem State.denomination?_putMeter (i j : Nat) (m : Meter) :
    (s.putMeter i m).denomination? j = s.denomination? j := rfl
@[simp] theorem State.denomination?_putBranch (i j : Nat) (b : Branch) :
    (s.putBranch i b).denomination? j = s.denomination? j := rfl
@[simp] theorem State.denomination?_withPool (p : Pool) (j : Nat) :
    (s.withPool p).denomination? j = s.denomination? j := rfl
@[simp] theorem State.denomination?_raiseAttention (j : Nat) :
    (raiseAttention s).denomination? j = s.denomination? j := by
  simp [State.denomination?]

end Sys2Proof.Machine
end

