-- ==== Sys2Proof/Laws/Rings.lean ====
section
/-!
SUPPORT. Laws of the Request Interface: the size of a result, when a request is taken and when it waits, what posting leaves.
-/

namespace Sys2Proof.Machine

/-! ## The size of a result -/

theorem slotsFor_pos (n : Nat) : 1 ≤ slotsFor n := by
  simp only [slotsFor, Config.headerBytes, Config.slotBytes]; omega

theorem slotsFor_mono {a b : Nat} (h : a ≤ b) : slotsFor a ≤ slotsFor b := by
  simp only [slotsFor, Config.headerBytes, Config.slotBytes]; omega

theorem mostSlots_pos (r : Reply) : 1 ≤ mostSlots r := by
  unfold mostSlots; split <;> exact slotsFor_pos _

theorem slotsTaken_pos (kind : Half) (r : Reply) : 1 ≤ slotsTaken kind r := by
  unfold slotsTaken; split
  · exact Nat.le_refl _
  · exact slotsFor_pos _

/-- A result takes no more than the most slots its kind of outcome can take. -/
theorem slotsTaken_le (kind : Half) (r : Reply) : slotsTaken kind r ≤ mostSlots r := by
  have hp := mostSlots_pos r
  unfold slotsTaken
  split
  · omega
  · unfold mostSlots outcomeBytes
    split
    · exact Nat.le_refl _
    · exact slotsFor_mono (Nat.min_le_right _ _)

/-- A result fits exactly where as many slots are free as it takes (R168). -/
theorem resultFits_iff (kind : Half) (r : Reply) (s : State) :
    resultFits kind r s = true ↔ slotsTaken kind r ≤ resultsFree s := by
  have := slotsTaken_le kind r
  simp only [resultFits, Bool.or_eq_true, decide_eq_true_eq]
  omega

theorem resultFits_of_most {kind : Half} {r : Reply} {s : State} (h : mostSlots r ≤ resultsFree s) :
    resultFits kind r s = true := by
  simp [resultFits, h]

/-- The slots taken by a result of at most 15 figures without a layout, or of the status alone, are one. -/
theorem slotsTaken_one {kind : Half} {r : Reply} (h : mostSlots r ≤ 1) : slotsTaken kind r = 1 := by
  simp [slotsTaken, h]

/-! ## Sending -/

@[simp] theorem send_record (c : Instr) (s : State) : (send c s).record = s.record := rfl
@[simp] theorem send_stored (c : Instr) (s : State) : (send c s).stored = s.stored := rfl
@[simp] theorem send_inForce (c : Instr) (s : State) : (send c s).inForce = s.inForce := rfl
@[simp] theorem send_fallenBack (c : Instr) (s : State) : (send c s).fallenBack = s.fallenBack := rfl
@[simp] theorem send_lastStart (c : Instr) (s : State) : (send c s).lastStart = s.lastStart := rfl
@[simp] theorem send_retention (c : Instr) (s : State) : (send c s).retention = s.retention := rfl
@[simp] theorem send_powered (c : Instr) (s : State) : (send c s).powered = s.powered := rfl
@[simp] theorem send_seconds (c : Instr) (s : State) : (send c s).seconds = s.seconds := rfl
@[simp] theorem send_resultRing (c : Instr) (s : State) : (send c s).resultRing = s.resultRing := rfl
@[simp] theorem send_requestProducer (c : Instr) (s : State) :
    (send c s).requestProducer = s.requestProducer + 1 := rfl
@[simp] theorem send_requestConsumer (c : Instr) (s : State) : (send c s).requestConsumer = s.requestConsumer := rfl
@[simp] theorem send_resultProducer (c : Instr) (s : State) : (send c s).resultProducer = s.resultProducer := rfl
@[simp] theorem send_resultConsumer (c : Instr) (s : State) : (send c s).resultConsumer = s.resultConsumer := rfl
@[simp] theorem send_resultMark (c : Instr) (s : State) : (send c s).resultMark = s.resultMark := rfl
@[simp] theorem send_attentionMark (c : Instr) (s : State) : (send c s).attentionMark = s.attentionMark := rfl
@[simp] theorem send_msiPermitted (c : Instr) (s : State) : (send c s).msiPermitted = s.msiPermitted := rfl
@[simp] theorem send_msiSent (c : Instr) (s : State) : (send c s).msiSent = s.msiSent := rfl
@[simp] theorem send_choices (c : Instr) (s : State) : (send c s).choices = s.choices := rfl
@[simp] theorem send_pending (c : Instr) (s : State) : (send c s).pending = s.pending := rfl
@[simp] theorem send_resultsFree (c : Instr) (s : State) : resultsFree (send c s) = resultsFree s := rfl

/-- The record that was sent stands in the slot named by the request producer as it was. -/
@[simp] theorem send_requestRing (c : Instr) (s : State) :
    (send c s).requestRing = Table.put s.requestRing (s.requestProducer.toNat % Config.ringSlots) (.record c) := rfl

/-- A record sent into an empty Request Ring stands first in it. -/
theorem send_first (c : Instr) {s : State} (h : requestsInUse s = 0) :
    firstRequest (send c s) = c ∧ requestsInUse (send c s) = 1 ∧ (send c s).ringFault = s.ringFault := by
  have he : s.requestProducer = s.requestConsumer := by
    simp only [requestsInUse] at h; bv_omega
  have h1 : s.requestConsumer + 1 - s.requestConsumer = 1 := by bv_omega
  refine ⟨?_, ?_, ?_⟩
  · rw [firstRequest, send_requestRing, send_requestConsumer, he, Table.find_put_self]
    rfl
  · rw [requestsInUse, send_requestProducer, send_requestConsumer, he, h1]
    rfl
  · unfold send
    rw [he, h1]
    exact Bool.or_false _

/-! ## Taking -/

theorem takes_iff (kind : Half) (r : Reply) (s : State) :
    takes kind r s = true ↔ s.ringFault = false ∧ slotsTaken kind r ≤ resultsFree s := by
  simp only [takes, Bool.and_eq_true, Bool.not_eq_true', resultFits_iff]

/-- Everything a request command does: unpowered nothing; sent to an empty ring and taken, it is answered and posted; else it waits
in its slot. -/
theorem request_eq {c : Instr} {kind tag : Half} (h : header c = some (kind, tag)) (block : State → State × Reply)
    (s : State) :
    request c block s =
      if s.powered then
        if requestsInUse s = 0 ∧ takes kind (block s).2 s then post kind tag (block s).2 (send c (block s).1) else send c s
      else s := by
  simp only [request, h]

/-- A request that R168 lets be taken is answered by its block and its result is posted. -/
theorem request_taken {c : Instr} {kind tag : Half} (h : header c = some (kind, tag))
    {block : State → State × Reply} {s : State} (hp : s.powered = true)
    (hu : requestsInUse s = 0) (hf : s.ringFault = false) (hm : slotsTaken kind (block s).2 ≤ resultsFree s) :
    request c block s = post kind tag (block s).2 (send c (block s).1) := by
  have ht : takes kind (block s).2 s = true := (takes_iff _ _ _).2 ⟨hf, hm⟩
  rw [request_eq h, if_pos hp, if_pos ⟨hu, ht⟩]

/-- A request that R168 does not let be taken waits. -/
theorem request_waits {c : Instr} {kind tag : Half} (h : header c = some (kind, tag))
    {block : State → State × Reply} {s : State} (hp : s.powered = true)
    (hn : requestsInUse s ≠ 0 ∨ s.ringFault = true ∨ resultsFree s < slotsTaken kind (block s).2) :
    request c block s = send c s := by
  rw [request_eq h, if_pos hp, if_neg]
  rintro ⟨h1, h2⟩
  obtain ⟨h3, h4⟩ := (takes_iff _ _ _).1 h2
  rcases hn with h | h | h
  · exact h h1
  · simp [h3] at h
  · omega

theorem request_unpowered (c : Instr) (block : State → State × Reply) {s : State} (hp : s.powered = false) :
    request c block s = s := by
  unfold request
  split
  · rfl
  · simp [hp]

/-! ## Posting -/

@[simp] theorem post_record (kind tag : Half) (r : Reply) (s : State) : (post kind tag r s).record = s.record := rfl
@[simp] theorem post_stored (kind tag : Half) (r : Reply) (s : State) : (post kind tag r s).stored = s.stored := rfl
@[simp] theorem post_inForce (kind tag : Half) (r : Reply) (s : State) : (post kind tag r s).inForce = s.inForce := rfl
@[simp] theorem post_fallenBack (kind tag : Half) (r : Reply) (s : State) :
    (post kind tag r s).fallenBack = s.fallenBack := rfl
@[simp] theorem post_lastStart (kind tag : Half) (r : Reply) (s : State) :
    (post kind tag r s).lastStart = s.lastStart := rfl
@[simp] theorem post_retention (kind tag : Half) (r : Reply) (s : State) :
    (post kind tag r s).retention = s.retention := rfl
@[simp] theorem post_powered (kind tag : Half) (r : Reply) (s : State) : (post kind tag r s).powered = s.powered := rfl
@[simp] theorem post_seconds (kind tag : Half) (r : Reply) (s : State) : (post kind tag r s).seconds = s.seconds := rfl
@[simp] theorem post_requestRing (kind tag : Half) (r : Reply) (s : State) :
    (post kind tag r s).requestRing = s.requestRing := rfl
@[simp] theorem post_resultRing (kind tag : Half) (r : Reply) (s : State) :
    (post kind tag r s).resultRing =
      writeParts { tag := tag, kind := kind, status := r.status, length := outcomeBytes kind r, outcome := r.outcome }
        s.resultProducer (slotsTaken kind r) s.resultRing := rfl
@[simp] theorem post_requestProducer (kind tag : Half) (r : Reply) (s : State) :
    (post kind tag r s).requestProducer = s.requestProducer := rfl
@[simp] theorem post_requestConsumer (kind tag : Half) (r : Reply) (s : State) :
    (post kind tag r s).requestConsumer = s.requestConsumer + 1 := rfl
@[simp] theorem post_resultProducer (kind tag : Half) (r : Reply) (s : State) :
    (post kind tag r s).resultProducer = s.resultProducer + BitVec.ofNat 8 (slotsTaken kind r) := rfl
@[simp] theorem post_resultConsumer (kind tag : Half) (r : Reply) (s : State) :
    (post kind tag r s).resultConsumer = s.resultConsumer := rfl
@[simp] theorem post_ringFault (kind tag : Half) (r : Reply) (s : State) :
    (post kind tag r s).ringFault = s.ringFault := rfl
@[simp] theorem post_resultMark (kind tag : Half) (r : Reply) (s : State) :
    (post kind tag r s).resultMark = (s.resultMark || s.inForce.resultEnable) := rfl
@[simp] theorem post_attentionMark (kind tag : Half) (r : Reply) (s : State) :
    (post kind tag r s).attentionMark = s.attentionMark := rfl
@[simp] theorem post_msiPermitted (kind tag : Half) (r : Reply) (s : State) :
    (post kind tag r s).msiPermitted = s.msiPermitted := rfl
@[simp] theorem post_msiSent (kind tag : Half) (r : Reply) (s : State) : (post kind tag r s).msiSent = s.msiSent := rfl
@[simp] theorem post_choices (kind tag : Half) (r : Reply) (s : State) : (post kind tag r s).choices = s.choices := rfl
@[simp] theorem post_pending (kind tag : Half) (r : Reply) (s : State) : (post kind tag r s).pending = s.pending := rfl

/-- The parts of a result stand in the slots from its first on, as long as it takes no more than 32. -/
theorem find_writeParts (result : ResultRecord) (first : Byte) (n : Nat) (ring : Table ResultSlot) (hn : n ≤ 32)
    {k : Nat} (hk : k < n) :
    Table.find (writeParts result first n ring) ((first.toNat + k) % 32) = some { result := result, part := k } := by
  induction n with
  | zero => omega
  | succ n ih =>
    simp only [writeParts, Config.ringSlots]
    by_cases h : k = n
    · subst h; simp
    · rw [Table.find_put_ne _ _ (by omega)]
      exact ih (by omega) (by omega)

/-- The slots that a result does not take keep what they held. -/
theorem find_writeParts_other (result : ResultRecord) (first : Byte) (n : Nat) (ring : Table ResultSlot) {j : Nat}
    (h : ∀ k < n, j ≠ (first.toNat + k) % 32) :
    Table.find (writeParts result first n ring) j = Table.find ring j := by
  induction n with
  | zero => rfl
  | succ n ih =>
    simp only [writeParts, Config.ringSlots]
    rw [Table.find_put_ne _ _ (h n (by omega))]
    exact ih (fun k hk => h k (by omega))

theorem sorted_writeParts (result : ResultRecord) (first : Byte) (n : Nat) {ring : Table ResultSlot}
    (h : Table.Sorted ring) : Table.Sorted (writeParts result first n ring) := by
  induction n with
  | zero => exact h
  | succ n ih => exact Table.sorted_put ih _ _

/-- A predicate of the state that the block, sending and posting keep is kept by a request. -/
theorem request_keeps {P : State → Prop} {c : Instr} {block : State → State × Reply} {s : State} (hs : P s)
    (hb : P s → P (block s).1) (hpost : ∀ kind tag r t, P t → P (post kind tag r t)) (hsend : ∀ t, P t → P (send c t)) :
    P (request c block s) := by
  unfold request
  split
  · exact hs
  · split
    · split
      · exact hpost _ _ _ _ (hsend _ (hb hs))
      · exact hsend _ hs
    · exact hs

end Sys2Proof.Machine
end

