-- ==== Sys2Proof/Laws/Exec.lean ====
section
/-!
SUPPORT. Laws of exec and step: every command answers a next state; a request other than RESTART and BAD_REQUEST is `request` over a block
that does not depend on the state's rings.
-/

namespace Sys2Proof.Machine

/-- Every command answers a next state. -/
theorem exec_next (c : Instr) (s : State) : ∃ t, exec c s = .next t := by
  cases c <;> exact ⟨_, rfl⟩

/-- Every step answers a next state. -/
theorem step_next (s : State) : ∃ t, step s = .next t := by
  unfold step
  split
  · exact ⟨_, rfl⟩
  · exact exec_next _ _

/-- A step with no command waiting is the board's own taking. -/
theorem step_nil {s : State} (h : s.pending = []) : step s = .next (takeFirst s) := by
  simp [step, h]

/-- When the RESTART in the slot named by the request consumer is taken (R168, R169). -/
theorem takesRestart_iff {s : State} {tag : Half} (h : firstRequest s = .restart tag) :
    takesRestart s = true ↔ 0 < requestsInUse s ∧ (s.ringFault = true ∨ resultsInUse s < Config.ringSlots) := by
  have hf : 1 ≤ resultsFree s ↔ resultsInUse s < Config.ringSlots := by unfold resultsFree; omega
  simp only [takesRestart, h, isRestart, Bool.and_true, Bool.and_eq_true, Bool.or_eq_true, decide_eq_true_eq, hf]

/-- Everything the board's taking of a RESTART can do: nothing, or the start-up of the RESTART in the slot named by the request
consumer, under that record's own tag. -/
theorem takeRestart_cases (s : State) :
    takeRestart s = s ∨ ∃ tag, firstRequest s = .restart tag ∧ takesRestart s = true ∧ takeRestart s = restarted tag s := by
  unfold takeRestart
  split
  · rename_i tag hf
    split
    · rename_i ht; exact .inr ⟨tag, hf, ht, rfl⟩
    · exact .inl rfl
  · exact .inl rfl

theorem takeRestart_of {s : State} {tag : Half} (h : firstRequest s = .restart tag) (ht : takesRestart s = true) :
    takeRestart s = restarted tag s := by
  simp [takeRestart, h, ht]

/-- A start-up leaves the same whatever slot the RESTART was sent to. -/
theorem startUp_sendRestart (tag : Half) (s : State) : startUp .restart (sendRestart tag s) = startUp .restart s := by
  have h : forgetRings (sendRestart tag s) = forgetRings s := by
    unfold sendRestart
    split <;> rfl
  have hs : startSettings false (sendRestart tag s) = startSettings false s := by unfold startSettings; rw [h]
  unfold startUp
  simp only [findsLost]
  rw [hs]

/-- Everything the board's own taking can do: nothing, the start-up of a RESTART, or the answer of the block that owns the record. -/
theorem takeFirst_cases (s : State) :
    takeFirst s = s
      ∨ s.powered = true ∧ 0 < requestsInUse s
        ∧ ((∃ tag, firstRequest s = .restart tag ∧ takesRestart s = true ∧ takeFirst s = restarted tag s)
          ∨ ∃ c kind tag, firstRequest s = c ∧ isRestart c = false ∧ header c = some (kind, tag)
            ∧ takes kind (blockOf c s).2 s = true ∧ takeFirst s = post kind tag (blockOf c s).2 (blockOf c s).1) := by
  unfold takeFirst
  split
  · rename_i h
    split
    · rename_i tag hf
      split
      · rename_i ht; exact .inr ⟨h.1, h.2, .inl ⟨tag, hf, ht, rfl⟩⟩
      · exact .inl rfl
    · rename_i hne
      split
      · exact .inl rfl
      · rename_i kind tag hh
        split
        · rename_i ht
          refine .inr ⟨h.1, h.2, .inr ⟨_, kind, tag, rfl, ?_, hh, ht, rfl⟩⟩
          cases hc : firstRequest s <;> first | rfl | exact absurd hc (hne _)
        · exact .inl rfl
  · exact .inl rfl

/-- A step with a command at the front of its queue. -/
theorem step_cons {s : State} {c : Instr} {rest : List Instr} (h : s.pending = c :: rest) :
    step s = exec c { s with pending := rest } := by
  simp [step, h]

/-- What a well-formed request other than RESTART does: R168's taking, over the answer of the block that owns it. -/
theorem exec_request {c : Instr} (hw : c.wellFormed = true) (hh : (header c).isSome = true) (hr : isRestart c = false)
    (s : State) : exec c s = .next (request c (sentBlock c) s) := by
  cases c
  case readStatus => rfl
  case readAttention => rfl
  case takeAttention => rfl
  case setMode => rfl
  case closeDay => rfl
  case writeSettings => rfl
  case readSettings => rfl
  case restart => simp [isRestart] at hr
  case clearTables => rfl
  case enrolMeter => rfl
  case setMeter => rfl
  case reassignMeter => rfl
  case closeMeter => rfl
  case retireMeter => rfl
  case readMeter => rfl
  case meterReport => rfl
  case resolveMeter => rfl
  case refillRequest => rfl
  case limitRequest => rfl
  case loadConfirm => rfl
  case cancelGrant => rfl
  case cancelQueued => rfl
  case readQueue => rfl
  case deposit => rfl
  case refund => rfl
  case readPosition => rfl
  case openBranch => rfl
  case setBranch => rfl
  case closeBranch => rfl
  case cycleStart => rfl
  case cycleStop => rfl
  case cyclePause => rfl
  case cycleResume => rfl
  case readBranch => rfl
  case defineDenomination => rfl
  case withdrawDenomination => rfl
  case retireDenomination => rfl
  case readDenominations => rfl
  case purchaseStock => rfl
  case issueStock => rfl
  case writeOffStock => rfl
  case surrenderStock => rfl
  case dispatch => rfl
  case receive => rfl
  case cancelTransfer => rfl
  case readTransfers => rfl
  case beginCount => rfl
  case enterCount => rfl
  case closeCount => rfl
  case abandonCount => rfl
  case readCount => rfl
  case badRequest tag kind length reservedSet =>
    have : headerPasses kind length reservedSet = false := by simpa [Instr.wellFormed] using hw
    simp only [exec, execBadRequest, this]
    rfl
  case requestProducerIndexWrite => simp [header] at hh
  case resultConsumerIndexWrite => simp [header] at hh
  case interruptEnableWordWrite => simp [header] at hh
  case ignoredWindowWrite => simp [header] at hh
  case powerOn => simp [header] at hh
  case pcieReset => simp [header] at hh
  case loadSecondsTick => simp [header] at hh
  case loadTimerExpiry => simp [header] at hh
  case msiPermissionChange => simp [header] at hh
  case msiWrite => simp [header] at hh
  case powerLoss => simp [header] at hh
  case backupCellFailure => simp [header] at hh

end Sys2Proof.Machine
end

