-- ==== Sys2Proof/Laws/Ops.lean ====
section
/-!
SUPPORT. One lemma per shared operation, saying once everything it does: the pool operations, the grant computation, issue, settlement,
void, the queue's serving, the attention causes and the settings.
-/

namespace Sys2Proof.Machine

/-! ## Attention causes -/

@[simp] theorem setDeviceCause_record (c : DeviceCause) (s : State) :
    (setDeviceCause c s).record = { s.record with deviceCauses := s.record.deviceCauses.with c } := by
  simp [setDeviceCause]

@[simp] theorem setDeviceCause_inForce (c : DeviceCause) (s : State) : (setDeviceCause c s).inForce = s.inForce := by
  simp [setDeviceCause]

@[simp] theorem clearDeviceCause_record (c : DeviceCause) (s : State) :
    (clearDeviceCause c s).record = { s.record with deviceCauses := s.record.deviceCauses.without c } := rfl

@[simp] theorem clearDeviceCause_inForce (c : DeviceCause) (s : State) :
    (clearDeviceCause c s).inForce = s.inForce := rfl

/-- Setting a cause of a meter changes that meter's cause set and raises the attention interrupt, or nothing where the slot is
EMPTY. -/
theorem setMeterCause_cases (slot : Nat) (c : MeterCause) (s : State) :
    (s.meter? slot = none ∧ setMeterCause slot c s = s)
      ∨ ∃ m, s.meter? slot = some m
          ∧ setMeterCause slot c s = raiseAttention (s.putMeter slot { m with causes := m.causes.with c }) := by
  unfold setMeterCause
  cases h : s.meter? slot with
  | none => exact .inl ⟨rfl, rfl⟩
  | some m => exact .inr ⟨m, rfl, rfl⟩

/-- Setting a cause of a branch changes that branch's cause set and raises the attention interrupt, or nothing where the slot is
EMPTY. -/
theorem setBranchCause_cases (slot : Nat) (c : BranchCause) (s : State) :
    (s.branch? slot = none ∧ setBranchCause slot c s = s)
      ∨ ∃ b, s.branch? slot = some b
          ∧ setBranchCause slot c s = raiseAttention (s.putBranch slot { b with causes := b.causes.with c }) := by
  unfold setBranchCause
  cases h : s.branch? slot with
  | none => exact .inl ⟨rfl, rfl⟩
  | some b => exact .inr ⟨b, rfl, rfl⟩

/-! ## The pool -/

/-- The postpaid usage charge: the pool's figures and the device causes after it, and nothing else of record memory (R98). -/
theorem chargeUsage_record (usage : Nat) (s : State) :
    ∃ causes, (chargeUsage usage s).record =
      { s.record with
        pool :=
          { s.record.pool with
            balance := s.record.pool.balance - min usage s.record.pool.balance
            arrears := s.record.pool.arrears + (usage - min usage s.record.pool.balance) }
        deviceCauses := causes } := by
  by_cases h : s.record.pool.arrears = 0 ∧ 0 < usage - min usage s.record.pool.balance
  · exact ⟨s.record.deviceCauses.with .arrears, by simp [chargeUsage, chargePaid, h, State.withPool]⟩
  · exact ⟨s.record.deviceCauses, by
      unfold chargeUsage chargePaid
      rw [if_neg h]
      rfl⟩

/-- The pool credit before its serving: the pool's figures and the device causes after it, and nothing else of record memory
(R99). -/
theorem creditPool_record (amount : Nat) (s : State) :
    ∃ causes, (creditPool amount s).record =
      { s.record with
        pool :=
          { s.record.pool with
            balance := s.record.pool.balance + (amount - min s.record.pool.arrears amount)
            arrears := s.record.pool.arrears - min s.record.pool.arrears amount }
        deviceCauses := causes } := by
  by_cases h : 0 < s.record.pool.arrears ∧ s.record.pool.arrears - min s.record.pool.arrears amount = 0
  · exact ⟨s.record.deviceCauses.without .arrears, by
      simp only [creditPool, if_pos h, clearDeviceCause_record, State.withPool]⟩
  · exact ⟨s.record.deviceCauses, by simp only [creditPool, if_neg h, State.withPool]⟩

@[simp] theorem chargeUsage_inForce (usage : Nat) (s : State) : (chargeUsage usage s).inForce = s.inForce := by
  simp only [chargeUsage]; split <;> simp

@[simp] theorem creditPool_inForce (amount : Nat) (s : State) : (creditPool amount s).inForce = s.inForce := by
  simp only [creditPool]; split <;> simp

/-! ## The grant computation -/

/-- What a computed grant satisfies: it is above 0, a multiple of the refill step, at most the requested amount, within the
headroom and within the remaining allowance where one is in force (R55 to R58). -/
theorem computeGrant_grant {step requested amount : Nat} {allowance : Option Nat} {m : Meter} {reason : Reason}
    (h : computeGrant step allowance m requested = .grant amount reason) :
    0 < amount ∧ step ∣ amount ∧ amount ≤ requested ∧ (amount : Int) ≤ m.headroom
      ∧ (∀ q ∈ allowance, amount ≤ q) ∧ amountOk requested = true ∧ (step : Int) ≤ m.headroom := by
  unfold computeGrant at h
  simp only at h
  split at h
  · simp at h
  rename_i hok
  split at h
  · simp at h
  rename_i hhead
  split at h
  · split at h <;> simp at h
  rename_i hpos
  simp only [Computation.grant.injEq] at h
  obtain ⟨rfl, -⟩ := h
  have hdown : ∀ x, roundDown step x ≤ x := fun x => Nat.div_mul_le_self x step
  have hall : ∀ x, afterAllowance allowance x ≤ x := by
    intro x; unfold afterAllowance; split
    · exact Nat.le_refl _
    · exact Nat.min_le_left _ _
  have h1 := hdown (afterAllowance allowance (min requested m.headroom.toNat))
  have h2 := hall (min requested m.headroom.toNat)
  refine ⟨Nat.pos_of_ne_zero hpos, ⟨_, Nat.mul_comm _ _⟩, ?_, ?_, ?_, ?_, ?_⟩
  · omega
  · omega
  · intro q hq
    have hq' : allowance = some q := hq
    have : afterAllowance allowance (min requested m.headroom.toNat) ≤ q := by
      rw [hq']; exact Nat.min_le_right _ _
    omega
  · simpa using hok
  · omega

/-! ## Below-mark evaluation, issue, settlement, void -/

/-- Writing a record with an evaluation of its below-mark flag (R21). -/
@[simp] theorem putEvaluated_record (slot : Nat) (m : Meter) (s : State) :
    (putEvaluated slot m s).record = (s.putMeter slot m.evaluated).record := by
  unfold putEvaluated
  simp only
  split <;> simp

@[simp] theorem putEvaluated_inForce (slot : Nat) (m : Meter) (s : State) :
    (putEvaluated slot m s).inForce = s.inForce := by
  unfold putEvaluated
  simp only
  split <;> simp

@[simp] theorem evaluated_credit (m : Meter) : m.evaluated.credit = m.credit := rfl
@[simp] theorem evaluated_loaded (m : Meter) : m.evaluated.loaded = m.loaded := rfl
@[simp] theorem evaluated_ascending (m : Meter) : m.evaluated.ascending = m.ascending := rfl
@[simp] theorem evaluated_kind (m : Meter) : m.evaluated.kind = m.kind := rfl
@[simp] theorem evaluated_grantOut (m : Meter) : m.evaluated.grantOut = m.grantOut := rfl
@[simp] theorem evaluated_state (m : Meter) : m.evaluated.state = m.state := rfl
@[simp] theorem evaluated_branch (m : Meter) : m.evaluated.branch = m.branch := rfl

/-- An addition to a branch's spent total changes the branches' spent totals and causes alone (R121, R122). -/
theorem addSpent_record (branch amount : Nat) (s : State) :
    (addSpent branch amount s).record = s.record
      ∨ ∃ b causes, s.branch? branch = some b
          ∧ (addSpent branch amount s).record =
            (s.putBranch branch { b with spent := min (b.spent + amount) Config.totalMax, causes := causes }).record := by
  unfold addSpent
  cases h : s.branch? branch with
  | none => exact .inl rfl
  | some b =>
    right
    simp only
    split
    · refine ⟨b, b.causes.with .allowanceSpent, rfl, ?_⟩
      have hb := s.branch?_putBranch_self branch { b with spent := min (b.spent + amount) Config.totalMax }
      rcases setBranchCause_cases branch .allowanceSpent
          (s.putBranch branch { b with spent := min (b.spent + amount) Config.totalMax }) with ⟨hn, -⟩ | ⟨b', hb', he⟩
      · rw [hb] at hn; simp at hn
      · rw [hb] at hb'
        simp only [Option.some.injEq] at hb'
        subst hb'
        rw [he, raiseAttention_record]
        simp only [State.putBranch]
        congr 1
        have : ∀ (t : Table Branch) (v w : Branch), Table.put (Table.put t branch v) branch w = Table.put t branch w := by
          intro t v w
          induction t with
          | nil => simp [Table.put]
          | cons e t ih =>
            obtain ⟨k, x⟩ := e
            simp only [Table.put]
            split
            · simp [Table.put]
            · split
              · simp [Table.put]
              · rename_i h1 h2; simp [Table.put, h1, h2, ih]
        exact this _ _ _
    · exact ⟨b, b.causes, rfl, rfl⟩

/-- A count of spent changes the branches alone. -/
theorem countSpent_frame (branch amount : Nat) (s : State) :
    (countSpent branch amount s).record.meters = s.record.meters
      ∧ (countSpent branch amount s).record.pool = s.record.pool
      ∧ (countSpent branch amount s).record.queue = s.record.queue
      ∧ (countSpent branch amount s).record.transfers = s.record.transfers
      ∧ (countSpent branch amount s).record.denominations = s.record.denominations
      ∧ (countSpent branch amount s).record.mode = s.record.mode
      ∧ (countSpent branch amount s).record.day = s.record.day
      ∧ (countSpent branch amount s).record.deviceCauses = s.record.deviceCauses := by
  unfold countSpent
  split
  · rcases addSpent_record branch amount s with h | ⟨b, causes, -, h⟩ <;> rw [h] <;> simp
  · simp

/-- Issuing a grant fills the meter's grant out, and for a refill moves the amount from P to the reserved total (R62). -/
theorem issueGrant_frame (slot : Nat) (m : Meter) (kind : GrantKind) (amount : Nat) (s : State) :
    ∃ counted cycle,
      (issueGrant slot m kind amount s).record.meters
          = Table.put s.record.meters slot (m.withGrant kind amount counted cycle s.inForce.loadTimeout)
      ∧ (issueGrant slot m kind amount s).record.pool
          = (match kind with
             | .limit => s.record.pool
             | .refill =>
               { s.record.pool with
                 balance := s.record.pool.balance - amount, reserved := s.record.pool.reserved + amount })
      ∧ (issueGrant slot m kind amount s).record.queue = s.record.queue
      ∧ (issueGrant slot m kind amount s).record.transfers = s.record.transfers
      ∧ (issueGrant slot m kind amount s).record.denominations = s.record.denominations
      ∧ (issueGrant slot m kind amount s).record.mode = s.record.mode
      ∧ (issueGrant slot m kind amount s).record.day = s.record.day := by
  cases kind with
  | limit => exact ⟨false, cycleOf s m.branch, rfl, rfl, rfl, rfl, rfl, rfl, rfl⟩
  | refill =>
    have hf := countSpent_frame m.branch amount (reserveFunds amount s)
    have hi : (countSpent m.branch amount (reserveFunds amount s)).inForce = s.inForce := by
      unfold countSpent
      split
      · unfold addSpent
        split
        · rfl
        · simp only
          split
          · rename_i b _ _
            rcases setBranchCause_cases m.branch .allowanceSpent
              ((reserveFunds amount s).putBranch m.branch { b with spent := min (b.spent + amount) Config.totalMax })
              with ⟨-, h⟩ | ⟨b', -, h⟩ <;> rw [h]
            · rfl
            · simp [reserveFunds]
          · rfl
      · rfl
    refine ⟨(allowanceOf s m.branch).isSome, cycleOf s m.branch, ?_, ?_, ?_, ?_, ?_, ?_, ?_⟩
    · simp only [issueGrant, State.putMeter_record_meters, hf.1]
      rfl
    · simp only [issueGrant, State.putMeter_record_pool, hf.2.1]
      rfl
    · simp only [issueGrant, State.putMeter_record_queue, hf.2.2.1]
      rfl
    · simp only [issueGrant, State.putMeter_record_transfers, hf.2.2.2.1]
      rfl
    · simp only [issueGrant, State.putMeter_record_denominations, hf.2.2.2.2.1]
      rfl
    · simp only [issueGrant, State.putMeter_record_mode, hf.2.2.2.2.2.1]
      rfl
    · simp only [issueGrant, State.putMeter_record_day, hf.2.2.2.2.2.2.1]
      rfl

/-- The reserved total after the amount of a grant out leaves it (R64). -/
theorem unreserve_record (g : GrantOut) (s : State) :
    (unreserve g s).record =
      { s.record with pool := { s.record.pool with reserved := s.record.pool.reserved - refillAmount g } } := by
  unfold unreserve refillAmount
  cases g.kind <;> rfl

/-- Settling a grant raises the meter's credit and loaded total by it and takes a refill off the reserved total (R69). -/
theorem settleGrant_record (slot : Nat) (m : Meter) (g : GrantOut) (s : State) :
    (settleGrant slot m g s).record =
      { s.record with
        pool := { s.record.pool with reserved := s.record.pool.reserved - refillAmount g }
        meters := Table.put s.record.meters slot ({ m.loadedWith g.amount with grantOut := none } : Meter).evaluated } := by
  simp only [settleGrant, putEvaluated_record, State.putMeter, unreserve_record]

/-- A late settlement that is made (R75, R76). -/
theorem lateSettle_some {slot : Nat} {m : Meter} {v : Voided} {s t : State} (h : lateSettle slot m v s = some t) :
    (v.kind = .limit ∧ t = putEvaluated slot { m.loadedWith v.amount with lastVoided := none } s)
      ∨ (v.kind = .refill ∧ v.amount ≤ s.record.pool.balance
          ∧ t = putEvaluated slot { m.loadedWith v.amount with lastVoided := none }
                  (countSpent m.branch v.amount (debitPool v.amount s))) := by
  unfold lateSettle at h
  cases hk : v.kind with
  | limit =>
    simp only [hk, Option.some.injEq] at h
    exact .inl ⟨rfl, h.symm⟩
  | refill =>
    simp only [hk] at h
    split at h
    · rename_i hc
      simp only [Option.some.injEq] at h
      exact .inr ⟨rfl, by simpa [covers] using hc, h.symm⟩
    · simp at h

/-! ## Serving -/

/-- What is kept by every round of serving is kept by a serving (R86). -/
theorem serveRounds_keeps {P : State → Prop} (hr : ∀ s t, P s → serveRound s = .issued t ∨ serveRound s = .removed t → P t)
    (n : Nat) (s : State) (hs : P s) : P (serveRounds n s).state := by
  induction n generalizing s with
  | zero => exact hs
  | succ n ih =>
    simp only [serveRounds]
    cases h : serveRound s with
    | stop => exact hs
    | issued t => exact ih t (hr s t hs (.inl h))
    | removed t => exact ih t (hr s t hs (.inr h))

theorem serveQueue_keeps {P : State → Prop} (hr : ∀ s t, P s → serveRound s = .issued t ∨ serveRound s = .removed t → P t)
    (s : State) (hs : P s) : P (serveQueue s).state := by
  unfold serveQueue
  split
  · exact serveRounds_keeps hr _ s hs
  · exact hs

/-- What one round of serving can be (R86 to R89). -/
theorem serveRound_cases (s : State) :
    serveRound s = .stop
      ∨ (∃ e rest m g reason a, s.record.queue = e :: rest ∧ s.meter? e.slot = some m ∧ eligible s m = true
          ∧ computeGrant s.inForce.refillStep (allowanceOf s m.branch) m (substituted (effective s m) m e.amount)
              = .grant g reason
          ∧ servedAmount s g = some a ∧ serveRound s = .issued (issueHead e rest m a s))
      ∨ (∃ e rest m st f, s.record.queue = e :: rest ∧ s.meter? e.slot = some m ∧ eligible s m = true
          ∧ computeGrant s.inForce.refillStep (allowanceOf s m.branch) m (substituted (effective s m) m e.amount)
              = .refused st f
          ∧ serveRound s = .removed (refuseHead e rest m st s))
      ∨ (∃ e rest m, s.record.queue = e :: rest ∧ s.meter? e.slot = some m ∧ eligible s m = false
          ∧ serveRound s = .removed (setMeterCause e.slot .queueDropped (setQueueAfterRemoval rest s)))
      ∨ (∃ e rest, s.record.queue = e :: rest ∧ s.meter? e.slot = none
          ∧ serveRound s = .removed (setQueueAfterRemoval rest s)) := by
  cases hq : s.record.queue with
  | nil => left; simp [serveRound, hq]
  | cons e rest =>
    by_cases hP : s.record.pool.balance = 0
    · left; simp [serveRound, hq, hP]
    · cases hm : s.meter? e.slot with
      | none =>
        right; right; right; right
        exact ⟨e, rest, rfl, hm, by simp [serveRound, hq, hP, hm]⟩
      | some m =>
        cases he : eligible s m with
        | false =>
          right; right; right; left
          exact ⟨e, rest, m, rfl, hm, he, by simp [serveRound, hq, hP, hm, he]⟩
        | true =>
          cases hc : computeGrant s.inForce.refillStep (allowanceOf s m.branch) m
              (substituted (effective s m) m e.amount) with
          | refused st f =>
            right; right; left
            exact ⟨e, rest, m, st, f, rfl, hm, he, hc, by simp [serveRound, hq, hP, hm, he, hc]⟩
          | grant g reason =>
            cases ha : servedAmount s g with
            | none => left; simp [serveRound, hq, hP, hm, he, hc, ha]
            | some a =>
              right; left
              exact ⟨e, rest, m, g, reason, a, rfl, hm, he, hc, ha, by simp [serveRound, hq, hP, hm, he, hc, ha]⟩

/-- An amount at which a head entry is served is covered by the pool (R89). -/
theorem servedAmount_le {s : State} {g a : Nat} (h : servedAmount s g = some a) : a ≤ s.record.pool.balance := by
  unfold servedAmount at h
  split at h
  · rename_i hc
    simp only [Option.some.injEq] at h
    subst h
    simpa [covers] using hc
  · split at h
    · simp only [Option.some.injEq] at h
      subst h
      exact Nat.div_mul_le_self _ _
    · simp at h

/-! ## The queue's list -/

/-- The queue after an entry left it, and nothing else of record memory but the device causes (R84). -/
theorem setQueueAfterRemoval_record (rest : List QueueEntry) (s : State) :
    ∃ causes, (setQueueAfterRemoval rest s).record = { s.record with queue := rest, deviceCauses := causes } := by
  unfold setQueueAfterRemoval
  simp only
  split
  · exact ⟨_, rfl⟩
  · exact ⟨s.record.deviceCauses, rfl⟩

@[simp] theorem setQueueAfterRemoval_inForce (rest : List QueueEntry) (s : State) :
    (setQueueAfterRemoval rest s).inForce = s.inForce := by
  unfold setQueueAfterRemoval
  simp only
  split <;> rfl

/-! ## Settings -/

/-- The application of a class to one field touches record memory only in the device causes (R160). -/
theorem applyField_record (f : SettingField) (s : State) :
    ∃ causes, (applyField f s).record = { s.record with deviceCauses := causes } := by
  unfold applyField
  simp only
  split
  · exact ⟨s.record.deviceCauses, rfl⟩
  · exact ⟨s.record.deviceCauses.with .settingsFault, by simp [dropMarks]⟩

theorem applyFields_record (l : List SettingField) (s : State) :
    ∃ causes, (applyFields l s).record = { s.record with deviceCauses := causes } := by
  induction l generalizing s with
  | nil => exact ⟨s.record.deviceCauses, rfl⟩
  | cons f rest ih =>
    obtain ⟨c1, h1⟩ := applyField_record f s
    obtain ⟨c2, h2⟩ := ih (applyField f s)
    exact ⟨c2, by simp only [applyFields, h2, h1]⟩

theorem applyField_inForce (f : SettingField) (s : State) : (applyField f s).inForce = settle s.stored s.inForce f := by
  unfold applyField
  simp only
  split
  · rfl
  · simp [dropMarks]

@[simp] theorem applyField_stored (f : SettingField) (s : State) : (applyField f s).stored = s.stored := by
  unfold applyField
  simp only
  split
  · rfl
  · simp [setDeviceCause, dropMarks]

end Sys2Proof.Machine
end

