-- ==== Sys2Proof/Laws/PerInstr.lean ====
section
/-!
SUPPORT. Per command: a command that is a request record carries a kind code of R173's table, but for BAD_REQUEST, which carries what the
refused record held (R168, R173).
-/

set_option Elab.async false

namespace Sys2Proof.Laws.Headed

/-- A request's kind code is in the table of R173, or the command is BAD_REQUEST with that code. -/
def Statement (i : Instr) : Prop :=
  ∀ kind tag, Machine.header i = some (kind, tag) →
    (Machine.bodyLength kind).isSome = true ∨ ∃ length reservedSet, i = .badRequest tag kind length reservedSet

theorem readStatus (tag : Half) :
    Statement (.readStatus tag) := by
  intro k t h
  simp only [Machine.header, Option.some.injEq, Prod.mk.injEq] at h
  obtain ⟨rfl, rfl⟩ := h
  exact .inl (by decide)

theorem readAttention (tag : Half) (start : Nat) :
    Statement (.readAttention tag start) := by
  intro k t h
  simp only [Machine.header, Option.some.injEq, Prod.mk.injEq] at h
  obtain ⟨rfl, rfl⟩ := h
  exact .inl (by decide)

theorem takeAttention (tag : Half) (subject slot : Nat) (causes : Half) :
    Statement (.takeAttention tag subject slot causes) := by
  intro k t h
  simp only [Machine.header, Option.some.injEq, Prod.mk.injEq] at h
  obtain ⟨rfl, rfl⟩ := h
  exact .inl (by decide)

theorem setMode (tag : Half) (target : Coded Mode) :
    Statement (.setMode tag target) := by
  intro k t h
  simp only [Machine.header, Option.some.injEq, Prod.mk.injEq] at h
  obtain ⟨rfl, rfl⟩ := h
  exact .inl (by decide)

theorem closeDay (tag : Half) :
    Statement (.closeDay tag) := by
  intro k t h
  simp only [Machine.header, Option.some.injEq, Prod.mk.injEq] at h
  obtain ⟨rfl, rfl⟩ := h
  exact .inl (by decide)

theorem writeSettings (tag : Half) (patch : SettingsPatch) :
    Statement (.writeSettings tag patch) := by
  intro k t h
  simp only [Machine.header, Option.some.injEq, Prod.mk.injEq] at h
  obtain ⟨rfl, rfl⟩ := h
  exact .inl (by decide)

theorem readSettings (tag : Half) :
    Statement (.readSettings tag) := by
  intro k t h
  simp only [Machine.header, Option.some.injEq, Prod.mk.injEq] at h
  obtain ⟨rfl, rfl⟩ := h
  exact .inl (by decide)

theorem restart (tag : Half) :
    Statement (.restart tag) := by
  intro k t h
  simp only [Machine.header, Option.some.injEq, Prod.mk.injEq] at h
  obtain ⟨rfl, rfl⟩ := h
  exact .inl (by decide)

theorem clearTables (tag : Half) :
    Statement (.clearTables tag) := by
  intro k t h
  simp only [Machine.header, Option.some.injEq, Prod.mk.injEq] at h
  obtain ⟨rfl, rfl⟩ := h
  exact .inl (by decide)

theorem enrolMeter (tag : Half) (fields : Enrolment) :
    Statement (.enrolMeter tag fields) := by
  intro k t h
  simp only [Machine.header, Option.some.injEq, Prod.mk.injEq] at h
  obtain ⟨rfl, rfl⟩ := h
  exact .inl (by decide)

theorem setMeter (tag : Half) (slot : Nat) (changes : MeterChanges) :
    Statement (.setMeter tag slot changes) := by
  intro k t h
  simp only [Machine.header, Option.some.injEq, Prod.mk.injEq] at h
  obtain ⟨rfl, rfl⟩ := h
  exact .inl (by decide)

theorem reassignMeter (tag : Half) (slot branch : Nat) :
    Statement (.reassignMeter tag slot branch) := by
  intro k t h
  simp only [Machine.header, Option.some.injEq, Prod.mk.injEq] at h
  obtain ⟨rfl, rfl⟩ := h
  exact .inl (by decide)

theorem closeMeter (tag : Half) (slot : Nat) :
    Statement (.closeMeter tag slot) := by
  intro k t h
  simp only [Machine.header, Option.some.injEq, Prod.mk.injEq] at h
  obtain ⟨rfl, rfl⟩ := h
  exact .inl (by decide)

theorem retireMeter (tag : Half) (slot : Nat) :
    Statement (.retireMeter tag slot) := by
  intro k t h
  simp only [Machine.header, Option.some.injEq, Prod.mk.injEq] at h
  obtain ⟨rfl, rfl⟩ := h
  exact .inl (by decide)

theorem readMeter (tag : Half) (slot : Nat) (take : Coded Bool) :
    Statement (.readMeter tag slot take) := by
  intro k t h
  simp only [Machine.header, Option.some.injEq, Prod.mk.injEq] at h
  obtain ⟨rfl, rfl⟩ := h
  exact .inl (by decide)

theorem meterReport (tag : Half) (slot : Nat) (sequence : Half) (ascending descending : Nat) :
    Statement (.meterReport tag slot sequence ascending descending) := by
  intro k t h
  simp only [Machine.header, Option.some.injEq, Prod.mk.injEq] at h
  obtain ⟨rfl, rfl⟩ := h
  exact .inl (by decide)

theorem resolveMeter (tag : Half) (slot ascending descending : Nat) :
    Statement (.resolveMeter tag slot ascending descending) := by
  intro k t h
  simp only [Machine.header, Option.some.injEq, Prod.mk.injEq] at h
  obtain ⟨rfl, rfl⟩ := h
  exact .inl (by decide)

theorem refillRequest (tag : Half) (slot amount : Nat) :
    Statement (.refillRequest tag slot amount) := by
  intro k t h
  simp only [Machine.header, Option.some.injEq, Prod.mk.injEq] at h
  obtain ⟨rfl, rfl⟩ := h
  exact .inl (by decide)

theorem limitRequest (tag : Half) (slot amount : Nat) :
    Statement (.limitRequest tag slot amount) := by
  intro k t h
  simp only [Machine.header, Option.some.injEq, Prod.mk.injEq] at h
  obtain ⟨rfl, rfl⟩ := h
  exact .inl (by decide)

theorem loadConfirm (tag : Half) (slot number total : Nat) :
    Statement (.loadConfirm tag slot number total) := by
  intro k t h
  simp only [Machine.header, Option.some.injEq, Prod.mk.injEq] at h
  obtain ⟨rfl, rfl⟩ := h
  exact .inl (by decide)

theorem cancelGrant (tag : Half) (slot number : Nat) :
    Statement (.cancelGrant tag slot number) := by
  intro k t h
  simp only [Machine.header, Option.some.injEq, Prod.mk.injEq] at h
  obtain ⟨rfl, rfl⟩ := h
  exact .inl (by decide)

theorem cancelQueued (tag : Half) (slot : Nat) :
    Statement (.cancelQueued tag slot) := by
  intro k t h
  simp only [Machine.header, Option.some.injEq, Prod.mk.injEq] at h
  obtain ⟨rfl, rfl⟩ := h
  exact .inl (by decide)

theorem readQueue (tag : Half) (start : Nat) :
    Statement (.readQueue tag start) := by
  intro k t h
  simp only [Machine.header, Option.some.injEq, Prod.mk.injEq] at h
  obtain ⟨rfl, rfl⟩ := h
  exact .inl (by decide)

theorem deposit (tag : Half) (amount : Nat) :
    Statement (.deposit tag amount) := by
  intro k t h
  simp only [Machine.header, Option.some.injEq, Prod.mk.injEq] at h
  obtain ⟨rfl, rfl⟩ := h
  exact .inl (by decide)

theorem refund (tag : Half) (amount : Nat) :
    Statement (.refund tag amount) := by
  intro k t h
  simp only [Machine.header, Option.some.injEq, Prod.mk.injEq] at h
  obtain ⟨rfl, rfl⟩ := h
  exact .inl (by decide)

theorem readPosition (tag : Half) :
    Statement (.readPosition tag) := by
  intro k t h
  simp only [Machine.header, Option.some.injEq, Prod.mk.injEq] at h
  obtain ⟨rfl, rfl⟩ := h
  exact .inl (by decide)

theorem openBranch (tag : Half) (code : Nat) :
    Statement (.openBranch tag code) := by
  intro k t h
  simp only [Machine.header, Option.some.injEq, Prod.mk.injEq] at h
  obtain ⟨rfl, rfl⟩ := h
  exact .inl (by decide)

theorem setBranch (tag : Half) (slot : Nat) (changes : BranchChanges) :
    Statement (.setBranch tag slot changes) := by
  intro k t h
  simp only [Machine.header, Option.some.injEq, Prod.mk.injEq] at h
  obtain ⟨rfl, rfl⟩ := h
  exact .inl (by decide)

theorem closeBranch (tag : Half) (slot : Nat) :
    Statement (.closeBranch tag slot) := by
  intro k t h
  simp only [Machine.header, Option.some.injEq, Prod.mk.injEq] at h
  obtain ⟨rfl, rfl⟩ := h
  exact .inl (by decide)

theorem cycleStart (tag : Half) (slot : Nat) (actionKnown : Bool) :
    Statement (.cycleStart tag slot actionKnown) := by
  intro k t h
  simp only [Machine.header, Option.some.injEq, Prod.mk.injEq] at h
  obtain ⟨rfl, rfl⟩ := h
  exact .inl (by decide)

theorem cycleStop (tag : Half) (slot : Nat) :
    Statement (.cycleStop tag slot) := by
  intro k t h
  simp only [Machine.header, Option.some.injEq, Prod.mk.injEq] at h
  obtain ⟨rfl, rfl⟩ := h
  exact .inl (by decide)

theorem cyclePause (tag : Half) (slot : Nat) :
    Statement (.cyclePause tag slot) := by
  intro k t h
  simp only [Machine.header, Option.some.injEq, Prod.mk.injEq] at h
  obtain ⟨rfl, rfl⟩ := h
  exact .inl (by decide)

theorem cycleResume (tag : Half) (slot : Nat) :
    Statement (.cycleResume tag slot) := by
  intro k t h
  simp only [Machine.header, Option.some.injEq, Prod.mk.injEq] at h
  obtain ⟨rfl, rfl⟩ := h
  exact .inl (by decide)

theorem readBranch (tag : Half) (slot : Nat) (take : Coded Bool) :
    Statement (.readBranch tag slot take) := by
  intro k t h
  simp only [Machine.header, Option.some.injEq, Prod.mk.injEq] at h
  obtain ⟨rfl, rfl⟩ := h
  exact .inl (by decide)

theorem defineDenomination (tag : Half) (face : Nat) :
    Statement (.defineDenomination tag face) := by
  intro k t h
  simp only [Machine.header, Option.some.injEq, Prod.mk.injEq] at h
  obtain ⟨rfl, rfl⟩ := h
  exact .inl (by decide)

theorem withdrawDenomination (tag : Half) (slot : Nat) :
    Statement (.withdrawDenomination tag slot) := by
  intro k t h
  simp only [Machine.header, Option.some.injEq, Prod.mk.injEq] at h
  obtain ⟨rfl, rfl⟩ := h
  exact .inl (by decide)

theorem retireDenomination (tag : Half) (slot : Nat) :
    Statement (.retireDenomination tag slot) := by
  intro k t h
  simp only [Machine.header, Option.some.injEq, Prod.mk.injEq] at h
  obtain ⟨rfl, rfl⟩ := h
  exact .inl (by decide)

theorem readDenominations (tag : Half) :
    Statement (.readDenominations tag) := by
  intro k t h
  simp only [Machine.header, Option.some.injEq, Prod.mk.injEq] at h
  obtain ⟨rfl, rfl⟩ := h
  exact .inl (by decide)

theorem purchaseStock (tag : Half) (branch denomination count : Nat) :
    Statement (.purchaseStock tag branch denomination count) := by
  intro k t h
  simp only [Machine.header, Option.some.injEq, Prod.mk.injEq] at h
  obtain ⟨rfl, rfl⟩ := h
  exact .inl (by decide)

theorem issueStock (tag : Half) (branch denomination count : Nat) :
    Statement (.issueStock tag branch denomination count) := by
  intro k t h
  simp only [Machine.header, Option.some.injEq, Prod.mk.injEq] at h
  obtain ⟨rfl, rfl⟩ := h
  exact .inl (by decide)

theorem writeOffStock (tag : Half) (branch denomination count : Nat) :
    Statement (.writeOffStock tag branch denomination count) := by
  intro k t h
  simp only [Machine.header, Option.some.injEq, Prod.mk.injEq] at h
  obtain ⟨rfl, rfl⟩ := h
  exact .inl (by decide)

theorem surrenderStock (tag : Half) (branch denomination count : Nat) :
    Statement (.surrenderStock tag branch denomination count) := by
  intro k t h
  simp only [Machine.header, Option.some.injEq, Prod.mk.injEq] at h
  obtain ⟨rfl, rfl⟩ := h
  exact .inl (by decide)

theorem dispatch (tag : Half) (origin destination denomination count : Nat) :
    Statement (.dispatch tag origin destination denomination count) := by
  intro k t h
  simp only [Machine.header, Option.some.injEq, Prod.mk.injEq] at h
  obtain ⟨rfl, rfl⟩ := h
  exact .inl (by decide)

theorem receive (tag : Half) (number count : Nat) :
    Statement (.receive tag number count) := by
  intro k t h
  simp only [Machine.header, Option.some.injEq, Prod.mk.injEq] at h
  obtain ⟨rfl, rfl⟩ := h
  exact .inl (by decide)

theorem cancelTransfer (tag : Half) (number : Nat) :
    Statement (.cancelTransfer tag number) := by
  intro k t h
  simp only [Machine.header, Option.some.injEq, Prod.mk.injEq] at h
  obtain ⟨rfl, rfl⟩ := h
  exact .inl (by decide)

theorem readTransfers (tag : Half) (start : Nat) :
    Statement (.readTransfers tag start) := by
  intro k t h
  simp only [Machine.header, Option.some.injEq, Prod.mk.injEq] at h
  obtain ⟨rfl, rfl⟩ := h
  exact .inl (by decide)

theorem beginCount (tag : Half) (branch : Nat) :
    Statement (.beginCount tag branch) := by
  intro k t h
  simp only [Machine.header, Option.some.injEq, Prod.mk.injEq] at h
  obtain ⟨rfl, rfl⟩ := h
  exact .inl (by decide)

theorem enterCount (tag : Half) (branch denomination figure : Nat) :
    Statement (.enterCount tag branch denomination figure) := by
  intro k t h
  simp only [Machine.header, Option.some.injEq, Prod.mk.injEq] at h
  obtain ⟨rfl, rfl⟩ := h
  exact .inl (by decide)

theorem closeCount (tag : Half) (branch : Nat) :
    Statement (.closeCount tag branch) := by
  intro k t h
  simp only [Machine.header, Option.some.injEq, Prod.mk.injEq] at h
  obtain ⟨rfl, rfl⟩ := h
  exact .inl (by decide)

theorem abandonCount (tag : Half) (branch : Nat) :
    Statement (.abandonCount tag branch) := by
  intro k t h
  simp only [Machine.header, Option.some.injEq, Prod.mk.injEq] at h
  obtain ⟨rfl, rfl⟩ := h
  exact .inl (by decide)

theorem readCount (tag : Half) (branch : Nat) :
    Statement (.readCount tag branch) := by
  intro k t h
  simp only [Machine.header, Option.some.injEq, Prod.mk.injEq] at h
  obtain ⟨rfl, rfl⟩ := h
  exact .inl (by decide)

theorem badRequest (tag kind length : Half) (reservedSet : Bool) :
    Statement (.badRequest tag kind length reservedSet) := by
  intro k t h
  simp only [Machine.header, Option.some.injEq, Prod.mk.injEq] at h
  obtain ⟨rfl, rfl⟩ := h
  exact .inr ⟨_, _, rfl⟩

theorem requestProducerIndexWrite (value : Word) :
    Statement (.requestProducerIndexWrite value) := by
  intro k t h
  simp [Machine.header] at h

theorem resultConsumerIndexWrite (value : Word) :
    Statement (.resultConsumerIndexWrite value) := by
  intro k t h
  simp [Machine.header] at h

theorem interruptEnableWordWrite (value : Word) :
    Statement (.interruptEnableWordWrite value) := by
  intro k t h
  simp [Machine.header] at h

theorem ignoredWindowWrite (offset width value : Nat) :
    Statement (.ignoredWindowWrite offset width value) := by
  intro k t h
  simp [Machine.header] at h

theorem powerOn :
    Statement (.powerOn) := by
  intro k t h
  simp [Machine.header] at h

theorem pcieReset :
    Statement (.pcieReset) := by
  intro k t h
  simp [Machine.header] at h

theorem loadSecondsTick :
    Statement (.loadSecondsTick) := by
  intro k t h
  simp [Machine.header] at h

theorem loadTimerExpiry (slot : Nat) :
    Statement (.loadTimerExpiry slot) := by
  intro k t h
  simp [Machine.header] at h

theorem msiPermissionChange (allowed : Bool) :
    Statement (.msiPermissionChange allowed) := by
  intro k t h
  simp [Machine.header] at h

theorem msiWrite :
    Statement (.msiWrite) := by
  intro k t h
  simp [Machine.header] at h

theorem powerLoss :
    Statement (.powerLoss) := by
  intro k t h
  simp [Machine.header] at h

theorem backupCellFailure :
    Statement (.backupCellFailure) := by
  intro k t h
  simp [Machine.header] at h

end Sys2Proof.Laws.Headed
end

