-- ==== Sys2Proof/Laws/Window.lean ====
section
/-!
SUPPORT. Laws of the memory window: the bytes of a slot are 128, and a byte written to the Request Ring is the byte read there afterwards,
every other byte staying as it was; the ring keeps its canonical form.
-/

namespace Sys2Proof.Machine

@[simp] theorem leBytes_length (size n : Nat) : (leBytes size n).length = size := by
  induction size generalizing n with
  | zero => rfl
  | succ size ih => simp [leBytes, ih]

/-- The number that the bytes of a number hold is that number, as far as they reach. -/
theorem leValue_leBytes (size n : Nat) : leValue (leBytes size n) = n % 256 ^ size := by
  induction size generalizing n with
  | zero => simp [leBytes, leValue, Nat.mod_one]
  | succ size ih =>
    have := Nat.mod_mul (x := n) (a := 256) (b := 256 ^ size)
    rw [leBytes, leValue, ih, BitVec.toNat_ofNat, show 256 ^ (size + 1) = 256 * 256 ^ size from Nat.pow_succ', this]

/-- The bytes of the number that bytes hold are these bytes. -/
theorem leValue_byte (l : List Byte) (i : Nat) : leValue l / 256 ^ i % 256 = (l[i]?.getD 0).toNat := by
  induction l generalizing i with
  | nil => simp [leValue]
  | cons b rest ih =>
    have hb := b.isLt
    cases i with
    | zero => simp [leValue]; omega
    | succ i =>
      rw [leValue, Nat.pow_succ', ← Nat.div_div_eq_div_mul, show (b.toNat + 256 * leValue rest) / 256 = leValue rest by omega, ih]
      simp

/-- A body with a layout takes at most 24 bytes. -/
theorem requestBody_length {c : Instr} {l : List Byte} (h : requestBody c = some l) : l.length ≤ 24 := by
  unfold requestBody at h
  split at h
  case h_1 | h_2 | h_3 | h_4 | h_5 | h_6 | h_7 =>
    cases h; simp
  all_goals first
    | (cases h; simp)
    | cases h

theorem padded_length {l : List Byte} (h : l.length ≤ Config.slotBytes) : (padded l).length = Config.slotBytes := by
  simp [padded]; omega

/-- A request record fills its slot. -/
theorem recordBytes_length (c : Instr) : (recordBytes c).length = Config.slotBytes := by
  unfold recordBytes
  split
  · rename_i l h
    apply padded_length
    unfold requestBytes at h
    split at h
    · rename_i hb
      cases h
      have := requestBody_length hb
      simp [requestHeader, Config.slotBytes]; omega
    · cases h
  · simp

/-- A slot in canonical form is of 128 bytes. -/
theorem slotBytes_length {x : Option RequestSlot} (h : ∀ y ∈ x, y.canonical = true) :
    (slotBytes x).length = Config.slotBytes := by
  match x with
  | none => rfl
  | some (.record c) => exact recordBytes_length c
  | some (.raw l) =>
    have := h _ rfl
    simp only [RequestSlot.canonical, decide_eq_true_eq] at this
    exact this.1

/-- The request that bytes spell has a record of exactly these bytes. -/
theorem recordBytes_spelled {l : List Byte} {c : Instr} (h : spelled l = some c) : recordBytes c = l := by
  simp only [spelled, Option.filter_eq_some_iff, decide_eq_true_eq] at h
  obtain ⟨-, h⟩ := h
  obtain ⟨r, hr, rfl⟩ := Option.map_eq_some_iff.1 h
  simp [recordBytes, hr]

/-- Bytes held as a slot are these bytes. -/
theorem slotBytes_slotOf (l : List Byte) : slotBytes (slotOf l) = l := by
  unfold slotOf
  split
  · rename_i h; simp [slotBytes, h]
  · split
    · rename_i h; exact recordBytes_spelled h
    · rfl

theorem slotOf_canonical {l : List Byte} (h : l.length = Config.slotBytes) : ∀ y ∈ slotOf l, y.canonical = true := by
  intro y hy
  unfold slotOf at hy
  split at hy
  · cases hy
  · split at hy <;> cases hy
    · rfl
    · simp_all [RequestSlot.canonical]

@[simp] theorem find_setSlot_self (ring : Table RequestSlot) (i : Nat) (x : Option RequestSlot) :
    Table.find (setSlot ring i x) i = x := by
  cases x <;> simp [setSlot]

theorem find_setSlot_ne (ring : Table RequestSlot) {i j : Nat} (x : Option RequestSlot) (h : j ≠ i) :
    Table.find (setSlot ring i x) j = Table.find ring j := by
  cases x
  · exact Table.find_erase_ne _ h
  · exact Table.find_put_ne _ _ h

/-- The canonical form of the Request Ring: slots strictly rising among the 32, each in canonical form. -/
abbrev RingCanonical (ring : Table RequestSlot) : Prop :=
  Table.Sorted ring ∧ ∀ e ∈ ring, e.1 < Config.ringSlots ∧ e.2.canonical

theorem canonical_find {ring : Table RequestSlot} (h : RingCanonical ring) (i : Nat) :
    ∀ y ∈ Table.find ring i, y.canonical = true :=
  fun _ hy => (h.2 _ (Table.mem_of_find hy)).2

theorem canonical_setSlot {ring : Table RequestSlot} (h : RingCanonical ring) {i : Nat} (hi : i < Config.ringSlots)
    {x : Option RequestSlot} (hx : ∀ y ∈ x, y.canonical = true) : RingCanonical (setSlot ring i x) := by
  cases x with
  | none => exact ⟨Table.sorted_erase h.1 i, fun e he => h.2 e (Table.mem_erase he).1⟩
  | some y =>
    refine ⟨Table.sorted_put h.1 i y, fun e he => ?_⟩
    rcases Table.mem_put he with rfl | he
    · exact ⟨hi, hx y rfl⟩
    · exact h.2 e he

/-- A byte written to the Request Ring keeps its canonical form. -/
theorem canonical_storeByte {ring : Table RequestSlot} (h : RingCanonical ring) {offset : Nat} (ho : offset < 0x1000)
    (b : Byte) : RingCanonical (storeByte ring offset b) := by
  simp only [storeByte]
  split
  · exact h
  · refine canonical_setSlot h (by simp only [Config.slotBytes, Config.ringSlots]; omega) (slotOf_canonical ?_)
    rw [List.length_set, slotBytes_length (canonical_find h _)]

/-- A byte written to the Request Ring is read there afterwards, and every other byte is as it was. -/
theorem requestByte_storeByte {ring : Table RequestSlot} (h : RingCanonical ring) (offset : Nat) (b : Byte) (x : Nat) :
    requestByte (storeByte ring offset b) x = if x = offset then b else requestByte ring x := by
  have hl := slotBytes_length (canonical_find h (offset / Config.slotBytes))
  have hm : offset % Config.slotBytes < Config.slotBytes := Nat.mod_lt _ (by decide)
  simp only [storeByte]
  split
  · rename_i hb
    split
    · rename_i hx; subst hx; simp [requestByte, hb]
    · rfl
  · by_cases hs : x / Config.slotBytes = offset / Config.slotBytes
    · rw [requestByte, hs, find_setSlot_self, slotBytes_slotOf, List.getElem?_set]
      by_cases hx : x = offset
      · subst hx; simp [hl, hm]
      · have hne : offset % Config.slotBytes ≠ x % Config.slotBytes := by
          simp only [Config.slotBytes] at hs ⊢; omega
        rw [if_neg hne, if_neg hx, requestByte, hs]
    · rw [requestByte, find_setSlot_ne _ _ hs, if_neg (by rintro rfl; exact hs rfl)]
      rfl

/-- The canonical form is kept by a window write. -/
theorem canonical_storeBytes {ring : Table RequestSlot} (h : RingCanonical ring) (offset : Nat) (l : List Byte) :
    RingCanonical (storeBytes ring offset l) := by
  induction l generalizing ring offset with
  | nil => exact h
  | cons b rest ih =>
    refine ih ?_ _
    split
    · exact canonical_storeByte h (by omega) b
    · exact h

/-- A window write stores the bytes that fall into the Request Ring and leaves every other byte of it. -/
theorem requestByte_storeBytes {ring : Table RequestSlot} (h : RingCanonical ring) (offset : Nat) (l : List Byte) {x : Nat}
    (hx : x < 0x1000) :
    requestByte (storeBytes ring offset l) x =
      if offset ≤ 0x1000 + x ∧ 0x1000 + x < offset + l.length then l.getD (0x1000 + x - offset) 0 else requestByte ring x := by
  induction l generalizing ring offset with
  | nil => rw [storeBytes, if_neg (by simp)]
  | cons b rest ih =>
    have hc : RingCanonical (if 0x1000 ≤ offset ∧ offset < 0x2000 then storeByte ring (offset - 0x1000) b else ring) := by
      split
      · exact canonical_storeByte h (by omega) b
      · exact h
    rw [storeBytes, ih hc]
    by_cases h1 : offset = 0x1000 + x
    · subst h1
      have h2 : 0x1000 + x < 0x2000 := by omega
      simp [requestByte_storeByte h, h2]
    · have h2 : requestByte (if 0x1000 ≤ offset ∧ offset < 0x2000 then storeByte ring (offset - 0x1000) b else ring) x
          = requestByte ring x := by
        split
        · rw [requestByte_storeByte h, if_neg (by omega)]
        · rfl
      rw [h2]
      simp only [List.length_cons]
      by_cases h3 : offset + 1 ≤ 0x1000 + x ∧ 0x1000 + x < offset + 1 + rest.length
      · rw [if_pos h3, if_pos (by omega), show 0x1000 + x - offset = (0x1000 + x - (offset + 1)) + 1 by omega]
        rfl
      · rw [if_neg h3, if_neg (by omega)]

end Sys2Proof.Machine
end

