-- ==== Sys2Proof/Tests/Slice0.lean ====
section
/-!
SUPPORT. The model's own tests: the ill-formed terms that each check of WellFormed refuses, one or two small steps for each command, with
expected results from the manual's worked examples and rules, and a witness for each statement that has hypotheses.
-/

set_option Elab.async false

namespace Sys2Proof.Tests

open Sys2Proof.Machine

/-! ## Helpers -/

/-- The state a command leaves. -/
def after (c : Instr) (s : State) : State :=
  match exec c s with
  | .next t => t
  | .fault _ => s
  | .refused _ => s

/-- The status and outcome a request gets. -/
def answer (c : Instr) (s : State) : Option Reply :=
  (Table.find (after c s).resultRing (s.resultProducer.toNat % 32)).map
    (fun e => { status := e.result.status, outcome := e.result.outcome })

/-- The status a request gets. -/
def status (c : Instr) (s : State) : Option Status :=
  (answer c s).map (·.status)

/-- The state with power, empty rings and no ring fault. -/
def ready (s : State) : State :=
  { s with
    powered := true, requestRing := [], requestProducer := 0, requestConsumer := 0, resultRing := [], resultProducer := 0
    resultConsumer := 0, ringFault := false }

/-- In a ready state every request whose result lists at most 500 figures is taken. -/
theorem ready_taken (kind : Half) {r : Reply} {s : State} (hs : s = ready s) (hr : Nat.ble (figures r.outcome) 500 = true) :
    Taken kind r s := by
  have h : figures r.outcome ≤ 500 := Nat.le_of_ble_eq_true hr
  have hm : mostSlots r ≤ 32 := by
    unfold mostSlots
    split
    · rename_i n hn
      unfold givenLength at hn
      split at hn <;> simp_all [slotsFor, figures, Config.headerBytes, Config.slotBytes] <;> omega
    · simp only [slotsFor, Config.headerBytes, Config.slotBytes]; omega
  have hl := slotsTaken_le kind r
  rw [hs]
  have hf : resultsFree (ready s) = 32 := by
    show 32 - ((0 : Byte) - 0).toNat = 32
    decide
  have hu : requestsInUse (ready s) = 0 := by
    show ((0 : Byte) - 0).toNat = 0
    decide
  exact ⟨rfl, hu, rfl, by omega⟩

/-- What holds of the one value of an option. -/
theorem option_ball {α : Type} {p : α → Prop} {a : α} (h : p a) : ∀ x ∈ some a, p x := by
  rintro _ ⟨⟩
  exact h

/-- A PREPAID meter in AUTO TOP-UP. -/
def preM : Meter where
  state := .active
  licence := 101
  branch := 0
  kind := .prepaid
  subMode := .second
  conditioning := .none
  standing := 50000
  ceiling := 300000
  markCode := 2
  interval := 7
  daysSince := 0
  credit := 100000
  loaded := 600000
  ascending := 500000
  lastSequence := some 10
  belowMark := false
  grantOut := none
  lastVoided := none
  nextGrant := 5
  refused := 0
  stale := 0
  mismatches := 0
  missed := 0
  voids := 0
  causes := {}

/-- A POSTPAID meter in DAILY RESET. -/
def postM : Meter :=
  { preM with licence := 102, kind := .postpaid, standing := 250000, ceiling := 400000 }

/-- An OPEN branch with 40 stamps of slot 2 and 1,000 of slot 3, and a level of 35 for slot 2. -/
def brn : Branch where
  code := 2017
  levels := [(2, 35)]
  variance := 0
  run := .stopped
  cycleLength := 0
  allowance := 0
  dayCount := 0
  spent := 0
  cycle := 0
  causes := {}
  onHand := [(2, 40), (3, 1000)]
  latch := none

/-- A branch with its allowance in force. -/
def rationed : Branch :=
  { brn with run := .running, cycleLength := 30, dayCount := 29, allowance := 1000000, spent := 420000, cycle := 5 }

/-- A branch that is COUNTING, with figures entered for slots 2 and 3. -/
def counted : Branch :=
  { brn with latch := some { day := 300, latched := brn.onHand, counted := [(2, 30), (3, 1001)] } }

/-- A grant out. -/
def out (kind : GrantKind) : GrantOut where
  number := 12
  amount := 50000
  kind := kind
  branch := 0
  counted := false
  cycle := 0
  remaining := 80

/-- A grant withdrawn. -/
def back (kind : GrantKind) : Voided where
  number := 12
  amount := 50000
  kind := kind

/-- An entry of the Refill Queue. -/
def entry (slot amount : Nat) : QueueEntry where
  slot := slot
  amount := amount
  origin := .host
  day := 300

/-- A transfer from branch 0 to branch 3. -/
def moving (number : Nat) : Transfer where
  number := number
  origin := 0
  destination := 3
  denomination := 2
  count := 10
  day := 300
  age := 0
  state := .inTransit

/-- An enrolment at the bounds of its fields. -/
def enrolment : Enrolment where
  licence := 999999
  branch := 3
  kind := .value .prepaid
  subMode := .value .first
  conditioning := .value .none
  standing := 99999999
  ceiling := 1000
  markCode := 7
  interval := 0
  ascending := 999999999999
  descending := 1000

/-- A board in SERVICE: meters 0 and 1, branches 0 and 3, slot 2 ON SALE at 2,500 and slot 3 WITHDRAWN at 900. -/
def board : State :=
  ready
    { State.reset with
      record :=
        { mode := .service, day := 300
          meters := [(0, preM), (1, postM)]
          branches := [(0, brn), (3, { brn with code := 44, onHand := [] })]
          denominations := [(2, { face := 2500, withdrawn := none }), (3, { face := 900, withdrawn := some 290 })]
          pool := { balance := 1000000, deposits := 3000000 } } }

/-- The board in a mode. -/
def inMode (m : Mode) : State :=
  { board with record.mode := m }

/-- The board with meter 0 as given. -/
def withMeter (m : Meter) : State :=
  board.putMeter 0 m

/-- The board with branch 0 as given. -/
def withBranch (b : Branch) : State :=
  board.putBranch 0 b

/-- A state with a queue. -/
def withQueue (q : List QueueEntry) (s : State) : State :=
  { s with record.queue := q, record.queuePeak := q.length }

/-- A state with a pool. -/
def withFunds (p : Pool) (s : State) : State :=
  { s with record.pool := p }

/-- The board with transfers. -/
def withTransfers (l : List Transfer) : State :=
  { board with record.transfers := l }

/-! ## Ill-formed terms -/

theorem test_fits_read_attention : (Instr.readAttention 0 (2 ^ 32)).wellFormed = false := by decide +kernel
theorem test_fits_take_attention :
    (Instr.takeAttention 0 256 0 0).wellFormed = false ∧ (Instr.takeAttention 0 0 65536 0).wellFormed = false := by decide +kernel
theorem test_fits_report :
    (Instr.meterReport 0 65536 0 0 0).wellFormed = false ∧ (Instr.meterReport 0 0 0 (2 ^ 64) 0).wellFormed = false
      ∧ (Instr.meterReport 0 0 0 0 (2 ^ 64)).wellFormed = false := by decide +kernel
theorem test_fits_grant_requests :
    (Instr.refillRequest 0 65536 0).wellFormed = false ∧ (Instr.limitRequest 0 0 (2 ^ 64)).wellFormed = false := by decide +kernel
theorem test_fits_enrolment :
    (Instr.enrolMeter 0
      { licence := 2 ^ 384, branch := 0, kind := .unknown, subMode := .unknown, conditioning := .unknown, standing := 0
        ceiling := 0, markCode := 0, interval := 0, ascending := 0, descending := 0 }).wellFormed = false := by decide +kernel
theorem test_fits_meter_changes : (Instr.setMeter 0 0 { ceiling := some (2 ^ 384) }).wellFormed = false := by decide +kernel
theorem test_fits_branch_changes :
    (Instr.setBranch 0 0 { levels := some [(2 ^ 768, 0)] }).wellFormed = false
      ∧ (Instr.setBranch 0 0 { levels := some (List.replicate 97 (0, 0)) }).wellFormed = false := by decide +kernel
theorem test_fits_four_bytes :
    (Instr.closeMeter 0 (2 ^ 32)).wellFormed = false ∧ (Instr.cancelGrant 0 0 (2 ^ 32)).wellFormed = false
      ∧ (Instr.openBranch 0 (2 ^ 32)).wellFormed = false ∧ (Instr.readCount 0 (2 ^ 32)).wellFormed = false := by decide +kernel
theorem test_fits_longer_bodies :
    (Instr.deposit 0 (2 ^ 64)).wellFormed = false ∧ (Instr.purchaseStock 0 (2 ^ 64) 0 0).wellFormed = false
      ∧ (Instr.dispatch 0 0 0 0 (2 ^ 96)).wellFormed = false ∧ (Instr.loadConfirm 0 0 0 (2 ^ 128)).wellFormed = false
      ∧ (Instr.resolveMeter 0 (2 ^ 192) 0 0).wellFormed = false := by decide +kernel
/-- A record that passes the header check is no BAD_REQUEST: DEPOSIT's kind code with its 8 bytes. -/
theorem test_bad_request_form :
    (Instr.badRequest 0 0x60 8 false).wellFormed = false ∧ (Instr.badRequest 0 0x60 9 false).wellFormed = true
      ∧ (Instr.badRequest 0 0x60 8 true).wellFormed = true ∧ (Instr.badRequest 0 0x99 0 false).wellFormed = true := by decide +kernel
/-- A 32-bit write of the request producer word and one past the window are not writes without a row; a 16-bit one of that word and one
into the Request Ring are. -/
theorem test_ignored_write_form :
    (Instr.ignoredWindowWrite 0 4 1).wellFormed = false ∧ (Instr.ignoredWindowWrite 0x1000 4 1).wellFormed = true
      ∧ (Instr.ignoredWindowWrite 0x3FFE 4 1).wellFormed = false ∧ (Instr.ignoredWindowWrite 0 2 1).wellFormed = true := by decide +kernel
theorem test_expiry_form : (Instr.loadTimerExpiry 512).wellFormed = false ∧ (Instr.loadTimerExpiry 511).wellFormed = true := by
  decide +kernel

/-! ## Rings and interrupts -/

/-- 10.7: 40 written to the producer while the consumer stands at 2 sets the ring fault. -/
theorem test_producer_write_fault :
    (after (.requestProducerIndexWrite 40) { board with requestProducer := 2, requestConsumer := 2 }).ringFault = true
      ∧ (after (.requestProducerIndexWrite 34) { board with requestProducer := 2, requestConsumer := 2 }).ringFault = false := by
  decide +kernel
/-- 10.7: the indices wrap: (2 - 250) mod 256 is 8. -/
theorem test_result_consumer_write :
    (after (.resultConsumerIndexWrite 250) { board with resultProducer := 2 }).ringFault = false
      ∧ (after (.resultConsumerIndexWrite 3) { board with resultProducer := 2 }).ringFault = true := by decide +kernel
/-- R170: turning an enable off clears its mark, in either order of the enables. In FROZEN the write is ignored. -/
theorem test_enable_word :
    (∀ first : Bool,
      (applyFields (applicationOrder first (enablePatch 0xFFFFFFFE))
        { board with stored.resultEnable := 0, resultMark := true, inForce.resultEnable := true }).resultMark = false)
      ∧ (after (.interruptEnableWordWrite 2) (inMode .frozen)).stored.attentionEnable = 0 := by decide +kernel
theorem test_ignored_write :
    after (.ignoredWindowWrite 8 4 5) board = board ∧ after (.ignoredWindowWrite 0x2000 4 5) board = board := by decide +kernel
/-- 10.7 by bytes: under the fault, RESTART's kind code 0x14 and tag 7 written into slot 2, which the consumer names, and read back. -/
theorem test_ring_write :
    let s := after (.ignoredWindowWrite 0x1100 8 0x00070014) { board with ringFault := true, requestProducer := 3, requestConsumer := 2 }
    firstRequest s = .restart 7 ∧ windowRead s 0x1102 2 = 7 ∧ (takeFirst s).resultProducer = 1 ∧ (takeFirst s).ringFault = false := by
  decide +kernel
/-- R168: a record rewritten while it waits is taken as rewritten: LIMIT REQUEST 0x41 in place of REFILL REQUEST 0x40. -/
theorem test_record_rewritten :
    let s := after (.refillRequest 7 1 200) { board with ringFault := true }
    firstRequest s = .refillRequest 7 1 200
      ∧ firstRequest (after (.ignoredWindowWrite 0x1000 1 0x41) s) = .limitRequest 7 1 200 := by decide +kernel
/-- A slot that nothing has written is 128 zeros: kind code 0 is in no table. -/
theorem test_empty_slot : firstRequest { board with requestProducer := 1 } = .badRequest 0 0 0 false := by decide +kernel
theorem test_msi :
    (after .msiWrite { board with resultMark := true, attentionMark := true, msiPermitted := true }).msiSent = 1
      ∧ (after .msiWrite { board with resultMark := true }).resultMark = true := by decide +kernel
theorem test_msi_permission : (after (.msiPermissionChange true) board).msiPermitted = true := by decide +kernel
theorem test_bad_request : answer (.badRequest 9 0x60 9 false) board = some (refuse .badRequest) := by decide +kernel
/-- R168: while the ring fault is set a request waits; so does one whose result does not fit. -/
theorem test_request_waits :
    after (.deposit 7 1) { board with ringFault := true }
        = { board with ringFault := true, requestRing := [(0, .record (.deposit 7 1))], requestProducer := 1 }
      ∧ (after (.deposit 7 1) { board with resultProducer := 32 }).requestConsumer = 0 := by decide +kernel
/-- A waiting record is taken by a step with no command once the host has read a result. -/
theorem test_waiting_record_taken :
    (match step
        { board with requestRing := [(0, .record (.deposit 7 1))], requestProducer := 1, resultProducer := 32, resultConsumer := 1 } with
      | .next t => t.record.pool.balance
      | .fault _ | .refused _ => 0) = 1000001 := by decide +kernel

/-! ## Modes, settings and start-up -/

theorem test_read_status : (after (.readStatus 7) board).record = board.record
    ∧ (after (.readStatus 7) board).requestConsumer = 1 := by decide +kernel
/-- R157: the stored refill step is applied at the entry to SERVICE alone. -/
theorem test_set_mode :
    (after (.setMode 7 (.value .service)) { inMode .setup with stored.refillStep := 10 }).inForce.refillStep = 10
      ∧ (after (.setMode 7 (.value .service)) { board with stored.refillStep := 10 }).inForce.refillStep = 100
      ∧ answer (.setMode 7 (.value .locked)) board = some (refuse .badValue) := by decide +kernel
/-- 1.8: at interval 3, days since report 3 is not greater and 4 is. -/
theorem test_close_day_overdue :
    ((after (.closeDay 7) (withMeter { preM with interval := 3, daysSince := 2 })).meter? 0).map (·.state) = some .active
      ∧ ((after (.closeDay 7) (withMeter { preM with interval := 3, daysSince := 3 })).meter? 0).map (·.state)
        = some .overdue := by decide +kernel
/-- R50: daily limit 250,000 and credit 38,500 ask for 211,500. -/
theorem test_close_day_limit :
    ((after (.closeDay 7) (board.putMeter 1 { postM with credit := 38500 })).meter? 1).map
      (fun m => m.grantOut.map (fun g => (g.number, g.amount, g.kind))) = some (some (5, 211500, .limit)) := by decide +kernel
/-- R159: conditioning is IMMEDIATE, the refill step is not; both are stored. -/
theorem test_write_settings :
    (after (.writeSettings 7 { conditioning := some 2, refillStep := some 10 }) board).stored.refillStep = 10
      ∧ (after (.writeSettings 7 { refillStep := some 10 }) board).inForce.refillStep = 100 := by decide +kernel
theorem test_read_settings :
    answer (.readSettings 7) { board with stored.refillStep := 250 } = some (done (.stored { refillStep := 250 })) := by
  decide +kernel
/-- 10.7: under a ring fault a RESTART is taken; its result stands in slot 0. Without the fault it waits behind another record. -/
theorem test_restart :
    (after (.restart 7) { board with ringFault := true, requestProducer := 3, requestConsumer := 2 }).resultProducer = 1
      ∧ (after (.restart 7) { board with ringFault := true, requestProducer := 3, requestConsumer := 2 }).ringFault = false
      ∧ (after (.restart 7) { board with requestProducer := 3, requestConsumer := 2 }).requestProducer = 4 := by
  decide +kernel
/-- R67: a start-up renews the load window of a grant out. -/
theorem test_pcie_reset :
    ((after .pcieReset (withMeter { preM with grantOut := some (out .refill) })).meter? 0).map
      (fun m => m.grantOut.map (·.remaining)) = some (some 120) := by decide +kernel
/-- 9.9: retention lost under CLEAR, with a refill step of 250 and a load timeout of 900 stored. -/
theorem test_power_on :
    (after .powerOn
      { board with
        record.retentionMarker := false, stored := { startMode := 2, backupLoss := 1, refillStep := 250, loadTimeout := 900
                                                     shortage := 1 } }).fallenBack = [.refillStep, .loadTimeout]
      ∧ (after .powerOn { board with record.retentionMarker := false, stored.backupLoss := 1 }).record
        = { mode := .setup, deviceCauses := { backupLost := true } } := by decide +kernel
theorem test_clear_tables :
    (after (.clearTables 7) (inMode .setup)).record = {} ∧ answer (.clearTables 7) board = some (refuse .wrongMode) := by
  decide +kernel
theorem test_power_loss : (after .powerLoss board).powered = false := by decide +kernel
theorem test_backup_cell_failure :
    (after .backupCellFailure { board with powered := false }).record.retentionMarker = false
      ∧ after .backupCellFailure board = board := by decide +kernel

/-! ## Meters -/

/-- R21: with ceiling 2,000,000 and k = 2 a meter is below its mark up to 499,999. -/
theorem test_low_mark :
    Meter.isBelow { preM with ceiling := 2000000, credit := 499999 } = true
      ∧ Meter.isBelow { preM with ceiling := 2000000, credit := 500000 } = false
      ∧ Meter.isBelow { preM with ceiling := 2000000, credit := 1662250 } = false := by decide
/-- 1.12: the enrolment, at the lowest EMPTY slot of this board. -/
theorem test_enrol_meter :
    answer (.enrolMeter 7
      { licence := 604117, branch := 0, kind := .value .prepaid, subMode := .value .second, conditioning := .value .none
        standing := 500000, ceiling := 2000000, markCode := 2, interval := 0, ascending := 18402115, descending := 350000 }) board
      = some (done (.enrolled 2 18752115 350000)) := by decide +kernel
theorem test_enrol_meter_full_of_checks :
    status (.enrolMeter 7
      { licence := 101, branch := 0, kind := .value .prepaid, subMode := .value .second, conditioning := .value .none
        standing := 0, ceiling := 2000000, markCode := 2, interval := 0, ascending := 0, descending := 0 }) board
      = some .duplicate := by decide +kernel
/-- 1.12: a change of kind gives the credit to the pool. 1.13: with the pool at 0 the way back is refused POOL_SHORT. -/
theorem test_set_meter :
    (after (.setMeter 7 0 { kind := some (.value .postpaid) }) board).record.pool.balance = 1100000
      ∧ ((after (.setMeter 7 1 { kind := some (.value .prepaid), ceiling := some 3000000 })
          (withFunds { arrears := 74300 } board)).meter? 1).map (·.ceiling) = some 400000 := by decide +kernel
theorem test_reassign_meter : answer (.reassignMeter 7 0 3) board = some (done (.reassigned 0 3)) := by decide +kernel
theorem test_close_meter :
    ((after (.closeMeter 7 0) board).meter? 0).map (·.state) = some .closing
      ∧ status (.closeMeter 7 0) (withMeter { preM with grantOut := some (out .refill) }) = some .grantOut := by decide +kernel
/-- 1.12: a forced retirement writes the credit off. -/
theorem test_retire_meter : answer (.retireMeter 7 0) board = some (done (.retired none 100000)) := by decide +kernel
/-- R24: the take zeroes the counters. -/
theorem test_read_meter :
    ((after (.readMeter 7 0 (.value true)) (withMeter { preM with voids := 3 })).meter? 0).map (·.voids) = some 0
      ∧ ((after (.readMeter 7 0 (.value false)) (withMeter { preM with voids := 3 })).meter? 0).map (·.voids) = some 3 := by
  decide +kernel

/-! ## Reports -/

/-- 2.2: last sequence 65,501 and q = 20 pass across the wrap with 54 missed; last 20 and q = 85 are stale. -/
theorem test_sequence_window :
    ((after (.meterReport 7 0 20 500000 100000) (withMeter { preM with lastSequence := some 65501 })).meter? 0).map (·.missed)
        = some 54
      ∧ answer (.meterReport 7 0 85 500000 100000) (withMeter { preM with lastSequence := some 20 })
        = some (refuseWith .staleReport (.lastSequence 20)) := by decide +kernel
/-- 2.5: the first report of slot 57, with its top-up. -/
theorem test_meter_report :
    answer (.meterReport 7 0 1207 72872190 86250)
      (withFunds { balance := 3000000 }
        (withMeter
          { preM with
            ceiling := 1500000, markCode := 3, credit := 640000, ascending := 72318440, loaded := 72958440
            lastSequence := some 1204, nextGrant := 19 }))
      = some (done (.report
        { settledFirst := .none, usage := 553750, missed := 2, credit := 86250, loaded := 72958440, charged := 0, arrearsAdded := 0
          retired := false, credited := 0, topUp := .issued 19 1413700 .none })) := by decide +kernel
/-- 2.6: a closing PREPAID meter retires into arrears of 212,500: V = 7,500. 2.9: a late settlement that the pool cannot cover. -/
theorem test_report_retires_into_arrears :
    (after (.meterReport 7 0 11 2105000 205000)
      (withFunds { arrears := 212500 }
        (withMeter { preM with state := .closing, credit := 310000, ascending := 2000000, loaded := 2310000 }))).record.pool.arrears
      = 7500 := by decide +kernel
/-- 2.9: the resolution is a pool debit of 600,000. -/
theorem test_resolve_meter :
    (after (.resolveMeter 7 0 5049300 675000)
      (withFunds { balance := 1250000 }
        (withMeter
          { preM with
            state := .dispute, ceiling := 800000, credit := 120000, ascending := 5004300, loaded := 5124300
            lastVoided := some { number := 7, amount := 600000, kind := .refill } }))).record.pool
      = { balance := 650000, franked := 45000 } := by decide +kernel

/-! ## Grants -/

/-- 3.11: a REFILL REQUEST for 300,000 against an allowance of 1,000,000 of which 420,000 is spent. -/
theorem test_refill_request :
    ((after (.refillRequest 7 0 200000) (withBranch rationed)).branch? 0).map (·.spent) = some 620000
      ∧ answer (.refillRequest 7 0 200000) board = some (done (.grant 5 .refill .none 120 0 200000 800000)) := by decide +kernel
/-- 6.7: A refill of 1,500,000 against Q = 1,200,000 grants 1,200,000 with reason ALLOWANCE. R58: 50 units at a step of 100. -/
theorem test_grant_amount :
    computeGrant 100 (some 1200000) { preM with ceiling := 9000000 } 1500000 = .grant 1200000 .allowance
      ∧ computeGrant 100 none preM 50 = .refused .atCeiling (.headroom 200000 100)
      ∧ computeGrant 100 (some 20) preM 900000 = .refused .allowanceSpent (.allowanceLeft 20) := by decide +kernel
/-- R60: while arrears stand a LIMIT REQUEST is refused POOL_SHORT and carries V. -/
theorem test_limit_request :
    answer (.limitRequest 7 1 200000) board = some (done (.grant 5 .limit .none 120 1 200000 800000))
      ∧ answer (.limitRequest 7 1 200000) (withFunds { arrears := 200000 } board)
        = some (refuseWith .poolShort (.arrears 200000)) := by decide +kernel
/-- 3.12: a total of neither L + G nor L is a mismatch; one equal to L declines. -/
theorem test_load_confirm :
    answer (.loadConfirm 7 0 12 660000) (withMeter { preM with grantOut := some (out .refill) })
        = some (refuseWith .controlMismatch (.confirmMismatch 600000 50000))
      ∧ answer (.loadConfirm 7 0 12 600000) (withMeter { preM with grantOut := some (out .refill) }) = some (done .declined) := by
  decide +kernel
/-- 3.12: the confirmation of a voided grant settles it late. -/
theorem test_load_confirm_late :
    answer (.loadConfirm 7 0 12 650000) (withMeter { preM with lastVoided := some (back .refill) })
      = some { status := .settledLate, outcome := .settled 12 50000 150000 650000 } := by decide +kernel
theorem test_cancel_grant :
    answer (.cancelGrant 7 0 12) (withMeter { preM with grantOut := some (out .refill) }) = some (done (.cancelled 12 50000))
      ∧ status (.cancelGrant 7 0 11) (withMeter { preM with grantOut := some (out .refill) }) = some .noGrant := by decide +kernel
theorem test_tick :
    ((after .loadSecondsTick (withMeter { preM with grantOut := some (out .refill) })).meter? 0).map
      (fun m => m.grantOut.map (·.remaining)) = some (some 79) := by decide +kernel
/-- 3.11: the expiry of a grant of an ended cycle leaves W as it is. -/
theorem test_expiry :
    ((after (.loadTimerExpiry 0)
      ((withBranch { rationed with cycle := 6, spent := 850000 }).putMeter 0
        { preM with
          grantOut := some { out .refill with counted := true, cycle := 5, remaining := 0 } })).branch? 0).map (·.spent)
        = some 850000
      ∧ (after (.loadTimerExpiry 0)
          (withMeter { preM with grantOut := some { out .refill with remaining := 0 } })).record.pool.balance = 1050000 := by
  decide +kernel

/-! ## The queue -/

/-- 4.3: slot 17 of the worked example is OVERDUE and dropped, and the next is issued. -/
theorem test_serving :
    (serveQueue
      (withQueue [entry 0 400000, entry 1 250000]
        (withFunds { balance := 1000000 }
          ((board.putMeter 0 { preM with state := .overdue }).putMeter 1
            { preM with licence := 7, ceiling := 5000000, credit := 0 })))).issued = 1 := by decide +kernel
/-- 4.3: under PARTIAL a head of 700,000 and a pool of 400,050 give 400,000. -/
theorem test_serving_partial :
    (serveQueue
      (withQueue [entry 0 700000]
        { withFunds { balance := 400050 } (withMeter { preM with ceiling := 1500000 }) with
          inForce.shortage := .partly })).state.record.pool = { balance := 50, reserved := 400000 } := by decide +kernel
/-- R82, R83: with 28 entries a host refill joins and a top-up under a margin of 4 is deferred. -/
theorem test_margin :
    queueRoom (withQueue ((List.range 28).map (fun i => entry (100 + i) 500)) board) .host = true
      ∧ queueRoom (withQueue ((List.range 28).map (fun i => entry (100 + i) 500)) board) .auto = false
      ∧ queueRoom (withQueue ((List.range 27).map (fun i => entry (100 + i) 500)) board) .auto = true := by decide +kernel
theorem test_cancel_queued :
    answer (.cancelQueued 7 0) (withQueue [entry 0 400000] board) = some (done (.entryRemoved 0 (entry 0 400000)))
      ∧ status (.cancelQueued 7 1) (withQueue [entry 0 400000] board) = some .notQueued := by decide +kernel
/-- R93: under PEAK a depth of 12 is returned once, and the peak restarts at the number of entries. -/
theorem test_read_queue :
    (after (.readQueue 7 0) { withQueue [entry 0 1, entry 1 1] board with record.queuePeak := 12 }).record.queuePeak = 2
      ∧ depthOf { withQueue [entry 0 1, entry 1 1] board with record.queuePeak := 12, inForce.depth := .peak } = 12 := by
  decide +kernel

/-! ## The pool -/

/-- 5.7 step 13: a deposit of 1,000,000 pays 200,000 of arrears. -/
theorem test_deposit :
    answer (.deposit 7 1000000) (withFunds { arrears := 200000, deposits := 10000000 } board)
      = some (done (.deposited 200000 800000 0 0 800000 0 11000000)) := by decide +kernel
theorem test_refund :
    answer (.refund 7 1000000) board = some (done (.refunded 0 2000000))
      ∧ answer (.refund 7 1000001) board = some (refuseWith .poolShort (.balance 1000000)) := by decide +kernel
theorem test_read_position : (after (.readPosition 7) board).record = board.record
    ∧ stockValue board = 40 * 2500 + 1000 * 900 := by decide +kernel
/-- R109: equal sides HOLD, unequal ones are BROKEN by their signed difference. -/
theorem test_identity : identityOf 7 7 = .holds ∧ identityOf 7 9 = .broken (-2) := by decide

/-! ## Branches -/

theorem test_open_branch :
    answer (.openBranch 7 4410) board = some (done (.slotChosen 1)) ∧ status (.openBranch 7 2017) board = some .duplicate := by
  decide +kernel
theorem test_set_branch :
    ((after (.setBranch 7 0 { allowance := some 2000000, levels := some [(2, 0), (15, 9999999)] }) board).branch? 0).map
      (fun b => (b.allowance, b.levels)) = some (2000000, [(15, 9999999)]) := by decide +kernel
/-- 6.8: the conditions in their order. -/
theorem test_close_branch :
    answer (.closeBranch 7 0) board = some (refuseWith .notEmpty (.branchHeld (.metersLinked 2)))
      ∧ answer (.closeBranch 7 3) (withTransfers [moving 1, moving 2])
        = some (refuseWith .notEmpty (.branchHeld (.transfers 2))) := by decide +kernel
/-- 6.7: START from STOPPED. -/
theorem test_cycle_start :
    answer (.cycleStart 7 0 true) (withBranch { rationed with run := .stopped }) = some (done (.cycle .running 0 0 6 1000000))
      ∧ status (.cycleStart 7 0 true) (withBranch rationed) = some .wrongState := by decide +kernel
theorem test_cycle_stop :
    answer (.cycleStop 7 0) (withBranch rationed) = some (done (.cycle .stopped 29 420000 5 580000)) := by decide +kernel
theorem test_cycle_pause : status (.cyclePause 7 0) (withBranch { rationed with run := .paused }) = some .wrongState := by
  decide +kernel
theorem test_cycle_resume :
    answer (.cycleResume 7 0) (withBranch { rationed with run := .paused }) = some (done (.cycle .running 29 420000 5 580000)) := by
  decide +kernel
/-- 3.11: the day count reaches its length: the cycle ends. -/
theorem test_cycle_end :
    ((after (.closeDay 7) (withBranch rationed)).branch? 0).map (fun b => (b.dayCount, b.spent, b.cycle, b.causes.cycleEnd))
      = some (0, 0, 6, true) := by decide +kernel
theorem test_read_branch :
    ((after (.readBranch 7 0 (.value true)) (withBranch { brn with variance := -18000 })).branch? 0).map (·.variance) = some 0
      ∧ answer (.readBranch 7 127 (.value true)) board = some (done (.emptySlot 127)) := by decide +kernel

/-! ## Stamp stock -/

theorem test_define_denomination :
    answer (.defineDenomination 7 900) board = some (done (.slotChosen 0))
      ∧ status (.defineDenomination 7 2500) board = some .duplicate := by decide +kernel
theorem test_withdraw_denomination :
    answer (.withdrawDenomination 7 2) (withTransfers [moving 1]) = some (done (.withdrawn 300 40 10)) := by decide +kernel
/-- 7.7 step 10: a WITHDRAWN slot with stock is not retired; step 12: without stock it is. -/
theorem test_retire_denomination :
    answer (.retireDenomination 7 3) board = some (refuseWith .notEmpty (.denominationHeld (.stockOnHand 0 1)))
      ∧ answer (.retireDenomination 7 3) (withBranch { brn with onHand := [] }) = some (done (.denominationRetired 900 10)) := by
  decide +kernel
theorem test_read_denominations : (after (.readDenominations 7) board).record = board.record := by decide +kernel
/-- 7.3: 400 stamps of 2,500 take the pool to 0; 401 are refused POOL_SHORT. -/
theorem test_purchase_stock :
    answer (.purchaseStock 7 0 2 400) board = some (done (.purchased 440 1000000 0))
      ∧ answer (.purchaseStock 7 0 2 401) board = some (refuseWith .poolShort (.purchaseShort 1000000 1002500)) := by
  decide +kernel
/-- 7.3: 41 of 40 stamps are refused SHORT_STOCK. R138: 40 down to 34 crosses the level of 35, down to 35 does not. -/
theorem test_issue_stock :
    answer (.issueStock 7 0 2 41) board = some (refuseWith .shortStock (.onHand 40))
      ∧ answer (.issueStock 7 0 2 6) board = some (done (.stockIssued 34 15000 15000 true))
      ∧ answer (.issueStock 7 0 2 5) board = some (done (.stockIssued 35 12500 12500 false)) := by decide +kernel
/-- 7.3: the whole count of a WITHDRAWN slot is written off. -/
theorem test_write_off_stock :
    answer (.writeOffStock 7 0 3 9999000) (withBranch { brn with onHand := [(3, 9999000)] })
      = some (done (.stockWrittenOff 0 8999100000 8999100000 false)) := by decide +kernel
/-- 7.3: v = 900,000 pays arrears of 300,000 and 600,000 reaches the pool. -/
theorem test_surrender_stock :
    answer (.surrenderStock 7 0 3 1000) (withFunds { arrears := 300000 } board)
        = some (done (.surrendered 0 900000 300000 600000 0 0 600000 0 false))
      ∧ answer (.surrenderStock 7 0 2 10) board = some (refuseWith .wrongState (.slotState .onSale)) := by decide +kernel

/-! ## Transfers and counts -/

/-- R143: with 65,534, 65,535 and 1 in the list and 65,534 next, the entry takes 2 and 3 is next. -/
theorem test_dispatch :
    answer (.dispatch 7 0 3 2 6) { withTransfers [moving 65534, moving 65535, moving 1] with record.nextTransfer := 65534 }
        = some (done (.dispatched 2 3 34 15000 true))
      ∧ (after (.dispatch 7 0 3 2 6)
          { withTransfers [moving 65534, moving 65535, moving 1] with record.nextTransfer := 65534 }).record.nextTransfer = 3 := by
  decide +kernel
/-- R145: 9 of 10 received: the missing stamp is written off. 8.5 step 5: a COUNTING destination refuses. -/
theorem test_receive :
    answer (.receive 7 1 9) (withTransfers [moving 1]) = some (done (.received (moving 1) 9 1 2500 9 true))
      ∧ status (.receive 7 1 9) ((withTransfers [moving 1]).putBranch 3 counted) = some .branchCounting := by decide +kernel
theorem test_cancel_transfer :
    answer (.cancelTransfer 7 1) (withTransfers [moving 1]) = some (done (.transferCancelled (moving 1) 50)) := by decide +kernel
/-- 8.5 steps 9 and 10: age 5 stays IN TRANSIT, age 6 is OVERDUE. -/
theorem test_transfer_ages :
    (after (.closeDay 7) (withTransfers [{ moving 1 with age := 4 }, { moving 2 with age := 5 }])).record.transfers.map (·.state)
      = [.inTransit, .overdue] := by decide +kernel
theorem test_read_transfers :
    answer (.readTransfers 7 1) (withTransfers [moving 1])
      = some (done (.transfers 1 1 300 5 25000 [])) := by decide +kernel
theorem test_begin_count :
    ((after (.beginCount 7 0) board).branch? 0).map (·.latch)
        = some (some { day := 300, latched := [(2, 40), (3, 1000)], counted := [] })
      ∧ status (.beginCount 7 0) (withBranch counted) = some .wrongState := by decide +kernel
theorem test_enter_count :
    answer (.enterCount 7 0 2 35) (withBranch counted) = some (done (.figureEntered 40 35 true (-5) (-12500))) := by
  decide +kernel
/-- R153: figures 30 and 1,001 against 40 and 1,000: N = -10 x 2,500 + 900. -/
theorem test_close_count :
    (after (.closeCount 7 0) (withBranch counted)).record.pool.writtenOff = 24100
      ∧ ((after (.closeCount 7 0) (withBranch counted)).branch? 0).map (fun b => (b.onHand, b.variance, b.causes.stockLow))
        = some ([(2, 30), (3, 1001)], -24100, true) := by decide +kernel
theorem test_abandon_count : answer (.abandonCount 7 0) (withBranch counted) = some (done (.countAbandoned 2)) := by
  decide +kernel
theorem test_read_count : (after (.readCount 7 0) (withBranch counted)).record = (withBranch counted).record
    ∧ status (.readCount 7 0) (inMode .locked) = some .wrongMode := by decide +kernel

/-! ## Attention -/

theorem test_read_attention :
    answer (.readAttention 7 0)
      { withMeter { preM with causes := { dispute := true, lowCredit := true } } with record.deviceCauses := { arrears := true } }
      = some (done (.attention [(0, 0x41), (640, 8)] 641)) := by decide +kernel
theorem test_take_attention :
    answer (.takeAttention 7 0 0 0x40) (withMeter { preM with causes := { dispute := true, lowCredit := true } })
        = some (done (.causesLeft 1))
      ∧ status (.takeAttention 7 2 0 0x10) board = some .badValue := by decide +kernel

/-! ## Layouts (R175) -/

/-- A METER REPORT of slot 0x0102, q = 0x0304, a = 0x05060708 and d = 9, byte by byte. -/
theorem test_report_bytes :
    parseRequest
      [0x30, 0, 0xEF, 0xBE, 24, 0, 0, 0, 2, 1, 4, 3, 0, 0, 0, 0, 8, 7, 6, 5, 0, 0, 0, 0, 9, 0, 0, 0, 0, 0, 0, 0]
      = some (.meterReport 0xBEEF 0x0102 0x0304 0x05060708 9) := by decide +kernel
/-- A TAKE ATTENTION of branch 5, causes 0x21; with a byte set that must be zero it is a BAD_REQUEST. -/
theorem test_take_attention_bytes :
    parseRequest [3, 0, 7, 0, 8, 0, 0, 0, 1, 0, 5, 0, 0x21, 0, 0, 0] = some (.takeAttention 7 1 5 0x21)
      ∧ parseRequest [3, 0, 7, 0, 8, 0, 0, 0, 1, 1, 5, 0, 0x21, 0, 0, 0] = some (.badRequest 7 3 8 true) := by decide +kernel
/-- The DONE result of a REFILL REQUEST: header, then the grant result of 24 bytes. -/
theorem test_grant_result_bytes :
    resultBytes
      { tag := 7, kind := 0x40, status := .done, length := 24, outcome := .grant 5 .refill .allowance 120 300 0x0100 0x0200 }
      = [7, 0, 0x40, 0, 0, 0, 24, 0, 5, 0, 0, 2, 120, 0, 44, 1, 0, 1, 0, 0, 0, 0, 0, 0, 0, 2, 0, 0, 0, 0, 0, 0] := by
  decide +kernel
/-- TAKE ATTENTION's outcome is the 16-bit cause set. -/
theorem test_causes_left_bytes :
    resultBytes { tag := 7, kind := 3, status := .done, length := 2, outcome := .causesLeft 0x41 }
      = [7, 0, 3, 0, 0, 0, 2, 0, 0x41, 0] := by decide +kernel
/-- R169: bit 31 of the request consumer word shows the ring fault. R167: a 16-bit read of a head word gives 0. -/
theorem test_head_words :
    windowRead { board with ringFault := true, requestConsumer := 2 } 4 4 = 0x80000002
      ∧ windowRead { board with requestConsumer := 2 } 4 2 = 0 ∧ windowRead board 0x1000 4 = 0 := by decide +kernel

/-! ## Witnesses

Each theorem applies a statement of the certificate at concrete states and operands, every hypothesis being met by evaluation, and says what the
statement then concludes. A variable that a hypothesis defines by an equation takes that value. -/

/-- The hypothesis that a request is taken, at a ready state. -/
theorem witness_taken : Taken 0x60 (done (.deposited 0 1 0 0 1 0 1)) board :=
  ready_taken _ rfl rfl

theorem witness_StepRunsFrontCommand (h : Obligations.StepRunsFrontCommand) :
    step { board with pending := [.msiWrite, .powerLoss] } = exec .msiWrite { board with pending := [.powerLoss] } :=
  h { board with pending := [.msiWrite, .powerLoss] } .msiWrite [.powerLoss] rfl

/-- The board with a record in the slot that its consumer names. -/
def holding (c : Instr) : State :=
  { board with requestRing := [(0, .record c)], requestProducer := 1 }

/-- An idle board; a DEPOSIT that waits and is taken; a RESTART under the fault; and a slot of zeros. -/
theorem witness_EmptyQueueTakesOldestRecord (h : Obligations.EmptyQueueTakesOldestRecord) :
    step board = .next board
      ∧ step (holding (.deposit 7 1)) = .next (post 0x60 7 (deposit 1 board).2 (deposit 1 (holding (.deposit 7 1))).1)
      ∧ (∃ t, step { holding (.restart 7) with ringFault := true } = .next t)
      ∧ step { holding (.restart 7) with resultProducer := 32 } = .next { holding (.restart 7) with resultProducer := 32 }
      ∧ firstRequest { board with requestProducer := 1 } = .badRequest 0 0 0 false
      ∧ firstRequest { board with requestProducer := 1, requestRing := [(0, .raw [3])] } = readBytes [3] := by
  refine ⟨(h board rfl).1 (.inr rfl), ?_, ?_, ?_, (h { board with requestProducer := 1 } rfl).2.2.2.2.1 rfl,
    (h { board with requestProducer := 1, requestRing := [(0, .raw [3])] } rfl).2.2.2.2.2 [3] rfl⟩
  · rw [(h (holding (.deposit 7 1)) rfl).2.1 (.deposit 7 1) 0x60 7 _ rfl (by decide) rfl rfl rfl rfl]
    exact congrArg _ (if_pos ⟨rfl, by decide +kernel⟩)
  · obtain ⟨t, -, h1⟩ := ((h { holding (.restart 7) with ringFault := true } rfl).2.2.1 7 rfl (by decide) rfl).1 (.inl rfl)
    exact ⟨_, h1⟩
  · exact ((h { holding (.restart 7) with resultProducer := 32 } rfl).2.2.1 7 rfl (by decide) rfl).2 rfl (by decide)

/-- A DEPOSIT that is taken, and one that waits under the ring fault as the 33rd record. -/
theorem witness_RequestTakenOrWaits (h : Obligations.RequestTakenOrWaits) :
    (∃ u, exec (.deposit 7 1) board = .next u ∧ u.requestConsumer = 1)
      ∧ (∃ u, exec (.deposit 7 1) { board with requestProducer := 32 } = .next u ∧ u.ringFault = true)
      ∧ slotsTaken 2 (done (.attention (List.replicate 60 (0, 1)) 0)) = 2 ∧ slotsTaken 2 (done (.attention (List.replicate 29 (0, 1)) 0)) = 1
      ∧ outcomeBytes 0x40 (done (.grant 1 .refill .none 1 1 0 0)) = 24 := by
  refine ⟨?_, ?_, ?_, ?_, (h.2.1 0x40 _).2.2.1 1 .refill .none 1 1 0 0 rfl⟩
  · obtain ⟨u, h1, h2, -⟩ := (h.1 (.deposit 7 1) 0x60 7 board _ _ (by decide) rfl rfl rfl rfl).1 rfl rfl (by decide +kernel)
    exact ⟨u, h1, by rw [h2]; rfl⟩
  · exact ⟨_, (h.1 (.deposit 7 1) 0x60 7 { board with requestProducer := 32 } _ _ (by decide) rfl rfl rfl rfl).2
      (fun ht => absurd ht.1 (by decide)), by decide +kernel⟩
  · rw [(h.2.1 2 _).1, (h.2.1 2 _).2.2.2.1 (List.replicate 60 (0, 1)) 0 rfl]
    rfl
  · rw [(h.2.1 2 _).1, (h.2.1 2 _).2.2.2.1 (List.replicate 29 (0, 1)) 0 rfl]
    rfl

theorem witness_BadRequestAnswered (h : Obligations.BadRequestAnswered) :
    (∃ t, exec (.badRequest 9 0x99 0 false) board = .next t) ∧ (∃ t, exec (.badRequest 9 0x60 9 false) board = .next t)
      ∧ ∃ t, exec (.badRequest 9 0x60 8 true) board = .next t :=
  ⟨⟨_, (h.1 9 0x99 0 false board (.inl (by decide))).1 (ready_taken _ rfl rfl)⟩,
   ⟨_, (h.1 9 0x60 9 false board (.inl (by decide))).1 (ready_taken _ rfl rfl)⟩,
   ⟨_, (h.1 9 0x60 8 true board (.inr rfl)).1 (ready_taken _ rfl rfl)⟩⟩

/-- The head words and a 16-bit read of one; the last byte of each ring; writes of the indices, of the rings' bounds and of the enables. -/
theorem witness_WindowReadsAndWrites (h : Obligations.WindowReadsAndWrites) :
    windowRead { board with ringFault := true } 4 4 = 2 ^ 31 ∧ windowRead board 0x10 2 = 0 ∧ windowRead board 0xFFC 4 = 0
      ∧ windowRead board 0x1FFF 1 / 256 ^ 0 % 256 = (requestByte board.requestRing 0xFFF).toNat
      ∧ windowRead board 0x2FFF 1 / 256 ^ 0 % 256 = (resultByte board.resultRing 0xFFF).toNat
      ∧ (∃ t, exec (.requestProducerIndexWrite 33) board = .next t ∧ t.ringFault = true)
      ∧ (∃ t, exec (.resultConsumerIndexWrite 0) { board with resultProducer := 32 } = .next t ∧ t.ringFault = false)
      ∧ exec (.ignoredWindowWrite 0xFFC 4 1) board = .next board ∧ exec (.ignoredWindowWrite 0x2000 4 1) board = .next board
      ∧ (∃ ring, exec (.ignoredWindowWrite 0xFFF 2 0x0501) board = .next { board with requestRing := ring } ∧ requestByte ring 0 = 5)
      ∧ ∃ t, exec (.interruptEnableWordWrite 3) board = .next t ∧ t.inForce.attentionEnable = true := by
  refine ⟨(h { board with ringFault := true }).1.2.1, (h board).2.1 0x10 2 (.inl (by decide)) (.inl (by decide)),
    (h board).2.1 0xFFC 4 (.inr (.inr (by decide))) (.inl (by decide)), ((h board).2.2.1 0x1FFF 1 0 (by decide)).1 (by decide) (by decide),
    ((h board).2.2.1 0x2FFF 1 0 (by decide)).2 (by decide) (by decide), ⟨_, (h board).2.2.2.1 33 rfl, by decide +kernel⟩,
    ⟨_, (h { board with resultProducer := 32 }).2.2.2.2.1 0 rfl, by decide +kernel⟩,
    (h board).2.2.2.2.2.1 0xFFC 4 1 (.inl (by decide)), (h board).2.2.2.2.2.1 0x2000 4 1 (.inr (by decide)), ?_,
    ⟨_, (h board).2.2.2.2.2.2.2.2.2 3 rfl, by decide +kernel⟩⟩
  obtain ⟨ring, h1, h2⟩ := (h board).2.2.2.2.2.2.1 0xFFF 2 0x0501 rfl (by decide +kernel)
  exact ⟨ring, h1, by rw [h2 0 (by decide)]; decide⟩

theorem witness_MessagesSent (h : Obligations.MessagesSent) :
    exec (.msiPermissionChange true) board = .next { board with msiPermitted := true }
      ∧ exec .msiWrite { board with msiPermitted := true, attentionMark := true } = .next { board with msiPermitted := true, msiSent := 1 }
      ∧ exec .msiWrite { board with attentionMark := true } = .next { board with attentionMark := true }
      ∧ exec .msiWrite { board with msiPermitted := true } = .next { board with msiPermitted := true } :=
  ⟨(h board rfl).1 true, (h { board with msiPermitted := true, attentionMark := true } rfl).2.1 rfl (.inr rfl),
   (h { board with attentionMark := true } rfl).2.2 (.inl rfl), (h { board with msiPermitted := true } rfl).2.2 (.inr ⟨rfl, rfl⟩)⟩

theorem witness_PowerLossAndCellFailure (h : Obligations.PowerLossAndCellFailure) :
    exec .backupCellFailure board = .next board
      ∧ exec .backupCellFailure { board with powered := false }
        = .next { board with powered := false, record := { retentionMarker := false } }
      ∧ exec (.deposit 7 1) { board with powered := false } = .next { board with powered := false } :=
  ⟨(h board).2.1 rfl, (h { board with powered := false }).2.2.1 rfl,
   (h { board with powered := false }).2.2.2 (.deposit 7 1) rfl (by decide) (by decide) (by decide)⟩

theorem witness_SecondsCount (h : Obligations.SecondsCount) :
    ∃ t, exec .loadSecondsTick (withMeter { preM with grantOut := some (out .refill) }) = .next t
      ∧ (t.meter? 0).map (fun m => m.grantOut.map (·.remaining)) = some (some 79) := by
  obtain ⟨t, h1, -, h2⟩ := h (withMeter { preM with grantOut := some (out .refill) }) rfl
  refine ⟨t, h1, ?_⟩
  rw [h2]
  decide

/-- The three start-ups; a RESTART under a ring fault, one with an empty ring and one free slot, two that wait, and one that is the 33rd
record. -/
theorem witness_StartUpKeepsRecordMemory (h : Obligations.StartUpKeepsRecordMemory) :
    (∃ t, exec .powerOn board = .next t ∧ t.record.mode = .setup) ∧ (∃ t, exec .pcieReset board = .next t ∧ t.retention = none)
      ∧ (∃ t, exec (.restart 7) { board with ringFault := true, requestProducer := 3 } = .next t)
      ∧ (∃ t, exec (.restart 7) { board with resultProducer := 31 } = .next t)
      ∧ (∃ t, exec (.restart 7) { board with requestProducer := 31 } = .next t ∧ t.requestProducer = 32 ∧ t.ringFault = false)
      ∧ (∃ t, exec (.restart 7) { board with resultProducer := 32 } = .next t ∧ t.requestProducer = 1)
      ∧ ∃ t, exec (.restart 7) { board with requestProducer := 32 } = .next t ∧ t.lastStart = .restart := by
  refine ⟨⟨_, (h board).1 rfl, by decide +kernel⟩, ⟨_, (h board).2.1 rfl, by decide +kernel⟩, ?_, ?_,
    ⟨_, ((h { board with requestProducer := 31 }).2.2.2 7 _ rfl rfl (.inl (by decide)) rfl).1 (.inl (by decide)), by decide, by decide⟩,
    ⟨_, ((h { board with resultProducer := 32 }).2.2.2 7 _ rfl rfl (.inr (by decide)) rfl).1 (.inl (by decide)), by decide⟩, ?_⟩
  · obtain ⟨t, -, h1⟩ := (h { board with ringFault := true, requestProducer := 3 }).2.2.1 7 rfl (.inl rfl)
    exact ⟨_, h1⟩
  · obtain ⟨t, -, h1⟩ := (h { board with resultProducer := 31 }).2.2.1 7 rfl (.inr ⟨rfl, by decide⟩)
    exact ⟨_, h1⟩
  · have h1 := (h { board with requestProducer := 32 }).2.2.2 7 _ rfl rfl (.inl (by decide)) rfl
    obtain ⟨t, h2, h3⟩ := h1.2.1 7 (h1.2.2 (by decide)).1 (h1.2.2 (by decide)).2
    refine ⟨_, h3, ?_⟩
    rw [h2]
    rfl

theorem witness_PowerOnFindsRetentionLost (h : Obligations.PowerOnFindsRetentionLost) :
    (∃ t, exec .powerOn { board with record.retentionMarker := false } = .next t ∧ t.record.mode = .locked)
      ∧ ∃ t, exec .powerOn { board with record.retentionMarker := false, stored.backupLoss := 1 } = .next t ∧ t.record.mode = .setup :=
  ⟨⟨_, h { board with record.retentionMarker := false } rfl, by decide +kernel⟩,
   ⟨_, h { board with record.retentionMarker := false, stored.backupLoss := 1 } rfl, by decide +kernel⟩⟩

theorem witness_ClearTablesEmptiesRecords (h : Obligations.ClearTablesEmptiesRecords) :
    (∃ t, exec (.clearTables 7) (inMode .locked) = .next t ∧ t.record.mode = .setup ∧ t.record.meters = [])
      ∧ ∃ t, exec (.clearTables 7) board = .next t ∧ t.record = board.record :=
  ⟨⟨_, h 7 (inMode .locked) (ready_taken _ rfl rfl), by decide +kernel⟩,
   ⟨_, h 7 board (ready_taken _ rfl rfl), by decide +kernel⟩⟩

theorem witness_ReadsWithoutFields (h : Obligations.ReadsWithoutFields) :
    (∃ t, exec (.readStatus 7) board = .next t ∧ t.record = board.record)
      ∧ (∃ t, exec (.readSettings 7) board = .next t ∧ t.record = board.record)
      ∧ (∃ t, exec (.readPosition 7) board = .next t ∧ t.record = board.record)
      ∧ (∃ t, exec (.readPosition 7) (inMode .locked) = .next t ∧ t.record.mode = .locked)
      ∧ ∃ t, exec (.readDenominations 7) board = .next t ∧ t.record = board.record :=
  ⟨⟨_, (h.1 7 board).1 (ready_taken _ rfl rfl), rfl⟩, ⟨_, (h.1 7 board).2.1 (ready_taken _ rfl rfl), rfl⟩,
   ⟨_, (h.1 7 board).2.2.1 (ready_taken _ rfl rfl), rfl⟩, ⟨_, (h.1 7 (inMode .locked)).2.2.1 (ready_taken _ rfl rfl), rfl⟩,
   ⟨_, (h.1 7 board).2.2.2 (ready_taken _ rfl rfl), rfl⟩⟩

theorem witness_SetModeAnswered (h : Obligations.SetModeAnswered) :
    (∃ t, exec (.setMode 7 (.value .setup)) (inMode .locked) = .next t ∧ t.record.mode = .locked)
      ∧ (∃ t, exec (.setMode 7 .unknown) board = .next t) ∧ (∃ t, exec (.setMode 7 (.value .frozen)) board = .next t ∧ t.record.mode = .frozen)
      ∧ ∃ t, exec (.setMode 7 (.value .service)) (inMode .setup) = .next t := by
  refine ⟨⟨_, (h 7 (inMode .locked)).1 _ rfl (ready_taken _ rfl rfl), rfl⟩,
    ⟨_, ((h 7 board).2.1 (by decide)).1 (ready_taken _ rfl rfl)⟩,
    ⟨_, (h 7 board).2.2.1 .frozen (by decide) (by decide) (.inr rfl) (ready_taken _ rfl rfl), rfl⟩, ?_⟩
  obtain ⟨e, h1, -⟩ := (h 7 (inMode .setup)).2.2.2 (.inl rfl)
  exact ⟨_, h1 (ready_taken _ rfl rfl)⟩

/-- A mode that refuses; and in SERVICE an ACTIVE meter past its interval, another within it, one in DISPUTE at age 255,
and a POSTPAID one under HOLD. -/
theorem witness_CloseDayAgesMeters (h : Obligations.CloseDayAgesMeters) :
    (∃ t, exec (.closeDay 7) (inMode .frozen) = .next t ∧ t.record.day = 300)
      ∧ ∃ (t : State) (m0 m1 m2 : Meter), t.meter? 0 = some m0 ∧ m0.state = .overdue ∧ t.meter? 1 = some m1 ∧ m1.daysSince = 7 ∧ m1.state = .active
        ∧ t.meter? 2 = some m2 ∧ m2.daysSince = 255 ∧ m2.state = .dispute ∧ (t.meter? 3).map (·.grantOut) = some none := by
  refine ⟨⟨_, (h 7 (inMode .frozen)).1 (by decide) (ready_taken _ rfl rfl), rfl⟩, ?_⟩
  obtain ⟨t, -, -, -, -, h1⟩ := (h 7 ((((withMeter { preM with daysSince := 7 }).putMeter 1 { preM with daysSince := 6 }).putMeter 2
    { preM with state := .dispute, daysSince := 255 }).putMeter 3 { postM with conditioning := .hold })).2 rfl
  obtain ⟨m0, h2, -, h3, -⟩ := (h1 0).2 { preM with daysSince := 7 } (by decide)
  obtain ⟨m1, h4, h5, -, -, h6⟩ := (h1 1).2 { preM with daysSince := 6 } (by decide)
  obtain ⟨m2, h7, h8, -, h9, -⟩ := (h1 2).2 { preM with state := .dispute, daysSince := 255 } (by decide)
  obtain ⟨m3, h10, -, -, -, h11⟩ := (h1 3).2 { postM with conditioning := .hold } (by decide)
  refine ⟨t, m0, m1, m2, h2, ?_, h4, by rw [h5]; decide, ?_, h7, by rw [h8]; decide, ?_, ?_⟩
  · rw [(h3 rfl (by decide)).1]
  · rw [h6 (by decide) (.inl rfl)]
    rfl
  · rw [h9 (by decide)]
  · rw [h10, h11 (by decide) (.inr (.inr (.inr (.inl (by decide)))))]
    rfl

/-- Credit at the limit, a limit issued, one refused for arrears and one at the ceiling. -/
theorem witness_CloseDayGivesDailyLimits (h : Obligations.CloseDayGivesDailyLimits) :
    (∃ t : State, t.meter? 1 = some { postM with credit := 250000, daysSince := 1 })
      ∧ (∃ t : State, (t.meter? 1).map (fun m => m.grantOut.map (·.amount)) = some (some 150000) ∧ t.attentionMark = true)
      ∧ (∃ t : State, (t.meter? 1).map (·.refused) = some 1)
      ∧ ∃ t : State, (t.meter? 1).map (fun m => m.causes.refillRefused) = some true := by
  refine ⟨?_, ?_, ?_, ?_⟩
  · obtain ⟨t, -, h1⟩ := h 7 (board.putMeter 1 { postM with credit := 250000 }) rfl
    exact ⟨t, (h1 1 { postM with credit := 250000 } (by decide) rfl rfl rfl (by decide) rfl (.inl rfl) _ rfl).1 (by decide)⟩
  · obtain ⟨t, -, h1⟩ := h 7 { board with inForce.attentionEnable := true } rfl
    obtain ⟨c, h2, hm, -⟩ := (h1 1 postM (by decide) rfl rfl rfl (by decide) rfl (.inl rfl) _ rfl).2.1 150000 .none (by decide) (by decide) rfl
    exact ⟨t, by rw [h2]; rfl, hm (by decide)⟩
  · obtain ⟨t, -, h1⟩ := h 7 (withFunds { arrears := 1 } board) rfl
    obtain ⟨h2, -⟩ := (h1 1 postM (by decide) rfl rfl rfl (by decide) rfl (.inl rfl) _ rfl).2.2.1 150000 .none (by decide) (by decide) (by decide)
    exact ⟨t, by rw [h2]; rfl⟩
  · obtain ⟨t, -, h1⟩ := h 7 (board.putMeter 1 { postM with ceiling := 100099 }) rfl
    obtain ⟨h2, -⟩ := (h1 1 { postM with ceiling := 100099 } (by decide) rfl rfl rfl (by decide) rfl (.inl rfl) _ rfl).2.2.2
      (.headroom 99 100) (by decide) (by decide)
    exact ⟨t, by rw [h2]; rfl⟩

theorem witness_CloseDayAgesBranchesAndTransfers (h : Obligations.CloseDayAgesBranchesAndTransfers) :
    (∃ u, exec (.closeDay 7) ((withTransfers [{ moving 1 with age := 5 }]).putBranch 0 { rationed with latch := counted.latch }) = .next u)
      ∧ ∃ t b, State.branch? t 0 = some b ∧ b.dayCount = 0 ∧ b.causes.transferOverdue = true := by
  obtain ⟨t, h1, -, h2⟩ := h 7 ((withTransfers [{ moving 1 with age := 5 }]).putBranch 0 { rationed with latch := counted.latch }) rfl
  obtain ⟨e, l, h3, h4, h5, -⟩ := (h2 0).2 { rationed with latch := counted.latch } (by decide)
  have he : e = true := h3.2 (by decide)
  have hl : l = true := h4.2 (by decide)
  subst he hl
  exact ⟨⟨_, h1 (ready_taken _ rfl rfl)⟩, t, _, h5, rfl, rfl⟩

theorem witness_WriteSettingsStoresAndApplies (h : Obligations.WriteSettingsStoresAndApplies) :
    (∃ t, exec (.writeSettings 7 {}) (inMode .frozen) = .next t)
      ∧ ∃ t, exec (.writeSettings 7 { depth := some 2, attentionEnable := some 1 }) board = .next t := by
  refine ⟨⟨_, (h.1 7 {} (inMode .frozen)).1 rfl (ready_taken _ rfl rfl)⟩, ?_⟩
  obtain ⟨t, h1, -⟩ := (h.1 7 { depth := some 2, attentionEnable := some 1 } board).2 (by decide)
  exact ⟨_, h1 (ready_taken _ rfl rfl)⟩

/-- A refused enrolment (a ceiling below its range), and a PREPAID and a POSTPAID one at the bounds of their fields. -/
theorem witness_EnrolMeterAnswered (h : Obligations.EnrolMeterAnswered) :
    (∃ t, exec (.enrolMeter 7 { enrolment with ceiling := 999 }) board = .next t ∧ t.record = board.record)
      ∧ (∃ t, exec (.enrolMeter 7 enrolment) board = .next t ∧ t.record.pool.balance = 999000)
      ∧ ∃ t, exec (.enrolMeter 7 { enrolment with kind := .value .postpaid, markCode := 0, interval := 60 }) board = .next t
        ∧ t.record.pool.balance = 1000000 :=
  ⟨⟨_, (h 7 { enrolment with ceiling := 999 } board).1 .badValue (by decide +kernel) (ready_taken _ rfl rfl), rfl⟩,
   ⟨_, (h 7 enrolment board).2 .prepaid .first .none 2 (by decide) (by decide) (by decide) (by decide) rfl rfl rfl (by decide)
      (by decide) (by decide) (by decide) (by decide) (by decide) (by decide) (by decide) (by decide) (by decide) (by decide)
      (by decide) (by decide) _ rfl (ready_taken _ rfl rfl), by decide +kernel⟩,
   ⟨_, (h 7 { enrolment with kind := .value .postpaid, markCode := 0, interval := 60 } board).2 .postpaid .first .none 2 (by decide)
      (by decide) (by decide) (by decide) rfl rfl rfl (by decide) (by decide) (by decide) (by decide) (by decide) (by decide)
      (by decide) (by decide) (by decide) (by decide) (by decide) (by decide) (by decide) _ rfl (ready_taken _ rfl rfl),
    by decide +kernel⟩⟩

theorem witness_SetMeterChangesFields (h : Obligations.SetMeterChangesFields) :
    (∃ t, exec (.setMeter 7 0 { interval := some 61 }) board = .next t) ∧ (∃ t, exec (.setMeter 7 511 {}) board = .next t)
      ∧ (∃ t, exec (.setMeter 7 0 { licence := some 102 }) board = .next t)
      ∧ (∃ t, exec (.setMeter 7 0 { ceiling := some 149999 }) (withMeter { preM with grantOut := some (out .refill) }) = .next t)
      ∧ ∃ t, exec (.setMeter 7 0 { licence := some 999999, ceiling := some 150000, markCode := some 7, interval := some 60 })
        (withMeter { preM with grantOut := some (out .refill) }) = .next t
      ∧ (t.meter? 0).map (fun m => (m.ceiling, m.causes.lowCredit)) = some (150000, true) :=
  ⟨⟨_, (h.1 7 0 { interval := some 61 } board).1 .badValue (by decide +kernel) (ready_taken _ rfl rfl)⟩,
   ⟨_, (h.1 7 511 {} board).1 .unknownMeter (by decide +kernel) (ready_taken _ rfl rfl)⟩,
   ⟨_, (h.1 7 0 { licence := some 102 } board).1 .duplicate (by decide +kernel) (ready_taken _ rfl rfl)⟩,
   ⟨_, (h.1 7 0 { ceiling := some 149999 } (withMeter { preM with grantOut := some (out .refill) })).1 .badValue (by decide +kernel)
      (ready_taken _ rfl rfl)⟩,
   ⟨_, (h.1 7 0 { licence := some 999999, ceiling := some 150000, markCode := some 7, interval := some 60 }
      (withMeter { preM with grantOut := some (out .refill) })).2 { preM with grantOut := some (out .refill) } (by decide) (by decide)
      (by decide) (by decide) (.inl rfl) (by decide) (by decide) (by decide) (by decide) (by decide) (by decide) (by decide)
      (by decide) _ _ _ _ rfl rfl rfl rfl _ rfl (ready_taken _ rfl rfl), by decide +kernel⟩⟩

/-- A change refused GRANT_OUT, one to POSTPAID that pays arrears, one to POSTPAID with no credit, and one to PREPAID whose credit is the
whole pool. -/
theorem witness_KindChangeMovesCredit (h : Obligations.KindChangeMovesCredit) :
    (∃ t, exec (.setMeter 7 0 { kind := some (.value .postpaid) }) (withMeter { preM with grantOut := some (out .refill) }) = .next t
        ∧ (t.meter? 0).map (·.kind) = some .prepaid)
      ∧ (∃ t, exec (.setMeter 7 0 { kind := some (.value .postpaid) }) (withFunds { arrears := 40000 } board) = .next t
        ∧ t.record.pool.balance = 60000)
      ∧ ∃ t, exec (.setMeter 7 1 { kind := some (.value .prepaid) }) (withFunds { balance := 100000 } board) = .next t
        ∧ t.record.pool.balance = 0 := by
  refine ⟨⟨_, (h 7 0 { kind := some (.value .postpaid) } .postpaid { preM with grantOut := some (out .refill) }
      (withMeter { preM with grantOut := some (out .refill) }) (by decide) (by decide) (by decide) rfl (by decide) (by decide) (by decide)
      (by decide) (by decide) (by decide) (by decide) (by decide) (by decide) (by decide)).1 .grantOut (by decide)
      (ready_taken _ rfl rfl), rfl⟩,
    ⟨_, (((h 7 0 { kind := some (.value .postpaid) } .postpaid preM (withFunds { arrears := 40000 } board) (by decide) (by decide)
      (by decide) rfl (by decide) (by decide) (by decide) (by decide) (by decide) (by decide) (by decide) (by decide) (by decide)
      (by decide)).2 _ _ _ _ rfl rfl rfl rfl _ rfl (by decide) rfl (by decide)).2 rfl _ rfl _ rfl (ready_taken _ rfl rfl)),
      by decide +kernel⟩,
    ⟨_, (((h 7 1 { kind := some (.value .prepaid) } .prepaid postM (withFunds { balance := 100000 } board) (by decide) (by decide)
      (by decide) rfl (by decide) (by decide) (by decide) (by decide) (by decide) (by decide) (by decide) (by decide) (by decide)
      (by decide)).2 _ _ _ _ rfl rfl rfl rfl _ rfl (by decide) rfl (by decide)).1 rfl (by decide) (ready_taken _ rfl rfl)),
      by decide +kernel⟩⟩

theorem witness_ReassignAndCloseMeter (h : Obligations.ReassignAndCloseMeter) :
    (∃ t, exec (.reassignMeter 7 0 3) board = .next t ∧ (t.meter? 0).map (·.branch) = some 3)
      ∧ (∃ t, exec (.reassignMeter 7 512 3) board = .next t)
      ∧ ∃ t, exec (.closeMeter 7 0) board = .next t ∧ (t.meter? 0).map (·.state) = some .closing :=
  ⟨⟨_, (h 7 0 3 board).1 (ready_taken _ rfl rfl), by decide +kernel⟩, ⟨_, (h 7 512 3 board).1 (ready_taken _ rfl rfl)⟩,
   ⟨_, (h 7 0 3 board).2 (ready_taken _ rfl rfl), by decide +kernel⟩⟩

/-- A written-off total at its bound refuses; one below it by the credit does not, and the head's removal serves the next entry. -/
theorem witness_RetireMeterWithoutGrant (h : Obligations.RetireMeterWithoutGrant) :
    (∃ t, exec (.retireMeter 7 0) (withFunds { writtenOff := 2 ^ 47 - 100000 } board) = .next t ∧ (t.meter? 0).isSome = true)
      ∧ ∃ t, exec (.retireMeter 7 0) (withQueue [entry 0 1, entry 1 1] (withFunds { writtenOff := 2 ^ 47 - 100001 } board)) = .next t
        ∧ t.record.pool.writtenOff = 2 ^ 47 - 1 :=
  ⟨⟨_, (h 7 0 (withFunds { writtenOff := 2 ^ 47 - 100000 } board)).1 .badValue (by decide +kernel) (ready_taken _ rfl rfl),
    by decide +kernel⟩,
   ⟨_, (h 7 0 (withQueue [entry 0 1, entry 1 1] (withFunds { writtenOff := 2 ^ 47 - 100001 } board))).2 preM rfl (by decide) (by decide)
      rfl (by decide +kernel) _ rfl _ rfl (ready_taken _ rfl rfl), by decide +kernel⟩⟩

theorem witness_ReadMeterAndReadBranch (h : Obligations.ReadMeterAndReadBranch) :
    (∃ t, exec (.readMeter 7 0 (.value true)) (withMeter { preM with voids := 65535 }) = .next t
        ∧ (t.meter? 0).map (·.voids) = some 0)
      ∧ (∃ t, exec (.readMeter 7 511 (.value true)) board = .next t) ∧ (∃ t, exec (.readBranch 7 127 (.value true)) board = .next t)
      ∧ ∃ t, exec (.readBranch 7 0 (.value true)) (withBranch { brn with variance := -5 }) = .next t
        ∧ (t.branch? 0).map (·.variance) = some 0 :=
  ⟨⟨_, (h 7 0 (.value true) (withMeter { preM with voids := 65535 })).1 (ready_taken _ rfl rfl), by decide +kernel⟩,
   ⟨_, (h 7 511 (.value true) board).1 (ready_taken _ rfl rfl)⟩, ⟨_, (h 7 127 (.value true) board).2 (ready_taken _ rfl rfl)⟩,
   ⟨_, (h 7 0 (.value true) (withBranch { brn with variance := -5 })).2 (ready_taken _ rfl rfl), by decide +kernel⟩⟩

/-- A register above its range, a sequence 65 ahead at a full counter, and a franked total that the usage would take past its bound. -/
theorem witness_MeterReportRefusedBeforeControl (h : Obligations.MeterReportRefusedBeforeControl) :
    (∃ t, exec (.meterReport 7 0 11 1000000000000 0) board = .next t ∧ t.record = board.record)
      ∧ (∃ t, exec (.meterReport 7 0 75 500000 100000) (withMeter { preM with stale := 65535 }) = .next t
        ∧ (t.meter? 0).map (·.stale) = some 65535)
      ∧ ∃ t, exec (.meterReport 7 0 11 500001 99999) (withFunds { franked := 2 ^ 47 - 1 } board) = .next t
        ∧ t.record.pool.franked = 2 ^ 47 - 1 :=
  ⟨⟨_, (h 7 0 11 1000000000000 0 board).1 .badValue (by decide +kernel) (ready_taken _ rfl rfl), rfl⟩,
   ⟨_, ((h 7 0 75 500000 100000 (withMeter { preM with stale := 65535 })).2 { preM with stale := 65535 } rfl (by decide) (by decide)
      (by decide) (by decide) (by decide)).1 10 rfl (by decide) (ready_taken _ rfl rfl), by decide +kernel⟩,
   ⟨_, ((h 7 0 11 500001 99999 (withFunds { franked := 2 ^ 47 - 1 } board)).2 preM rfl (by decide) (by decide) (by decide) (by decide)
      (by decide)).2 (option_ball (by decide)) (by decide) (by decide +kernel) (ready_taken _ rfl rfl), by decide +kernel⟩⟩

/-- A total one above L, a late settlement one unit beyond the pool, and registers that went back after a settlement. -/
theorem witness_MeterReportEntersDispute (h : Obligations.MeterReportEntersDispute) :
    (∃ t, exec (.meterReport 7 0 11 500001 100000) board = .next t ∧ (t.meter? 0).map (·.state) = some .dispute)
      ∧ (∃ t, exec (.meterReport 7 0 74 500000 150000)
          (withFunds { balance := 49999 } (withMeter { preM with lastVoided := some (back .refill) })) = .next t
        ∧ (t.meter? 0).map (·.mismatches) = some 0)
      ∧ ∃ t, exec (.meterReport 7 0 11 490000 160000) (withMeter { preM with grantOut := some (out .refill) }) = .next t
        ∧ (t.meter? 0).map (fun m => (m.credit, m.mismatches, m.state)) = some (150000, 1, .dispute) :=
  ⟨⟨_, (h 7 0 11 500001 100000 preM board rfl (by decide) (by decide) (by decide) (by decide) (by decide) (option_ball (by decide)) (by decide)
      (by decide)).1 (by decide) (by decide) (.inl (by decide)) (ready_taken _ rfl rfl), by decide +kernel⟩,
   ⟨_, (h 7 0 74 500000 150000 { preM with lastVoided := some (back .refill) }
      (withFunds { balance := 49999 } (withMeter { preM with lastVoided := some (back .refill) })) rfl (by decide) (by decide) (by decide)
      (by decide) (by decide) (option_ball (by decide)) (by decide) (by decide)).2.1 (back .refill) (by decide) rfl rfl (by decide)
      (by decide) (by decide) (ready_taken _ rfl rfl), by decide +kernel⟩,
   ⟨_, (h 7 0 11 490000 160000 { preM with grantOut := some (out .refill) } (withMeter { preM with grantOut := some (out .refill) }) rfl
      (by decide) (by decide) (by decide) (by decide) (by decide) (option_ball (by decide)) (by decide) (by decide)).2.2 (.grant (out .refill))
      (.grant 12 50000) _ { preM with credit := 150000, loaded := 650000 } (.inl ⟨_, rfl, by decide, by decide, rfl, rfl⟩) rfl
      (by decide +kernel) (.inr (.inl (by decide))) (ready_taken _ rfl rfl), by decide +kernel⟩⟩

/-- No settlement first, with a top-up considered; the grant out settled first; the last voided grant settled first; a closing meter; and what each
settlement leaves, one for which the pool is a unit short among them. -/
theorem witness_MeterReportAccepted (h : Obligations.MeterReportAccepted) :
    (∃ t, exec (.meterReport 7 0 74 560000 40000) board = .next t)
      ∧ (∃ t, exec (.meterReport 7 0 11 500000 150000) (withMeter { preM with grantOut := some (out .refill) }) = .next t)
      ∧ (∃ t, exec (.meterReport 7 0 11 500000 150000) (withMeter { preM with lastVoided := some (back .refill) }) = .next t)
      ∧ (∃ t, exec (.meterReport 7 0 11 600000 0) (withMeter { preM with state := .closing }) = .next t)
      ∧ settleFor 0 preM board .none = some board
      ∧ (∃ t, settleFor 0 preM (withFunds { reserved := 50000 } board) (.grant (out .refill)) = some t ∧ t.record.pool.reserved = 0)
      ∧ (∃ t, settleFor 0 preM board (.late (back .limit)) = some t ∧ t.record.pool.balance = 1000000)
      ∧ (∃ t, settleFor 0 preM board (.late (back .refill)) = some t ∧ t.record.pool.balance = 950000)
      ∧ (∃ t, settleFor 0 preM (withBranch rationed) (.late (back .refill)) = some t ∧ (t.branch? 0).map (·.spent) = some (rationed.spent + 50000))
      ∧ settleFor 0 preM (withFunds { balance := 49999 } board) (.late (back .refill)) = none :=
  ⟨⟨_, h.1 7 0 74 560000 40000 preM preM .none board board rfl (by decide) (by decide) (by decide) rfl (by decide) (option_ball (by decide)) (by decide)
      (by decide) (by decide) (.inr ⟨by decide, .inr ⟨by decide, rfl⟩⟩) rfl rfl (by decide) (by decide) _ _ _ _ _ _ _ rfl rfl rfl rfl
      rfl rfl rfl _ rfl _ rfl _ rfl (ready_taken _ rfl rfl)⟩,
   ⟨_, h.1 7 0 11 500000 150000 { preM with grantOut := some (out .refill) } { preM with credit := 150000, loaded := 650000 }
      (.grant (out .refill)) (withMeter { preM with grantOut := some (out .refill) }) _ rfl (by decide) (by decide) (by decide) rfl
      (by decide) (option_ball (by decide)) (by decide) (by decide) (by decide) (.inl ⟨_, rfl, by decide, by decide, rfl⟩) rfl (by decide +kernel)
      (by decide) (by decide) _ _ _ _ _ _ _ rfl rfl rfl rfl rfl rfl rfl _ rfl _ rfl _ rfl (ready_taken _ rfl rfl)⟩,
   ⟨_, h.1 7 0 11 500000 150000 { preM with lastVoided := some (back .refill) } { preM with credit := 150000, loaded := 650000 }
      (.late (back .refill)) (withMeter { preM with lastVoided := some (back .refill) }) _ rfl (by decide) (by decide) (by decide) rfl
      (by decide) (option_ball (by decide)) (by decide) (by decide) (by decide)
      (.inr ⟨by decide, .inl ⟨_, rfl, by decide, by decide, rfl⟩⟩) rfl (by decide +kernel) (by decide) (by decide) _ _ _ _ _ _ _ rfl
      rfl rfl rfl rfl rfl rfl _ rfl _ rfl _ rfl (ready_taken _ rfl rfl)⟩,
   ⟨_, h.1 7 0 11 600000 0 { preM with state := .closing } { preM with state := .closing } .none
      (withMeter { preM with state := .closing }) (withMeter { preM with state := .closing }) rfl (by decide) (by decide) (by decide) rfl
      (by decide) (option_ball (by decide)) (by decide) (by decide) (by decide) (.inr ⟨by decide, .inr ⟨by decide, rfl⟩⟩) rfl rfl (by decide)
      (by decide) _ _ _ _ _ _ _ rfl rfl rfl rfl rfl rfl rfl _ rfl _ rfl _ rfl (ready_taken _ rfl rfl)⟩,
   (h.2 0 preM board rfl).1, ⟨_, (h.2 0 preM (withFunds { reserved := 50000 } board) rfl).2.1 (out .refill) _ _ rfl rfl, by decide +kernel⟩,
   ⟨_, ((h.2 0 preM board rfl).2.2 (back .limit) _ _ _ rfl rfl rfl).1 rfl, by decide +kernel⟩,
   ⟨_, ((h.2 0 preM board rfl).2.2 (back .refill) _ _ _ rfl rfl rfl).2.1 rfl (by decide) rfl, by decide +kernel⟩,
   ⟨_, ((h.2 0 preM (withBranch rationed) rfl).2.2 (back .refill) _ _ _ rfl rfl rfl).2.2.1 rationed rfl (by decide) rfl (by decide) (by decide)
      _ _ rfl rfl, by decide +kernel⟩,
   ((h.2 0 preM (withFunds { balance := 49999 } board) rfl).2.2 (back .refill) _ _ _ rfl rfl rfl).2.2.2 rfl (by decide)⟩

/-- Not due above the mark; due below it: issued, queued behind an entry, deferred within the margin; and the margin's two sides. -/
theorem witness_TopUpAfterReport (h : Obligations.TopUpAfterReport) :
    topUp 0 board = (board, .notOriginated)
      ∧ (topUp 0 (withMeter { preM with belowMark := true })).2 = .issued 5 200000 .none
      ∧ (topUp 0 (withQueue [entry 1 5] (withMeter { preM with belowMark := true }))).2 = .queued
      ∧ (topUp 0 (withQueue (List.replicate 28 (entry 9 5)) (withMeter { preM with belowMark := true }))).2 = .deferred .queueFull
      ∧ decideRefill (withQueue (List.replicate 27 (entry 9 5)) (withMeter { preM with belowMark := true })) { preM with belowMark := true }
          .auto 200000 200000 = .join 200000
      ∧ decideRefill (withQueue (List.replicate 28 (entry 9 5)) (withMeter { preM with belowMark := true })) { preM with belowMark := true }
          .auto 200000 200000 = .refused .queueFull .none := by
  refine ⟨(h 0 preM board rfl _ Iff.rfl).1 (by decide), ?_, ?_, ?_,
    ((h 0 { preM with belowMark := true } (withQueue (List.replicate 27 (entry 9 5)) (withMeter { preM with belowMark := true })) rfl _
      Iff.rfl).2 (by decide) 200000 200000 rfl rfl).2.2.2.2 200000 .none (by decide +kernel) _ _ rfl rfl,
    ((h 0 { preM with belowMark := true } (withQueue (List.replicate 28 (entry 9 5)) (withMeter { preM with belowMark := true })) rfl _
      Iff.rfl).2 (by decide) 200000 200000 rfl rfl).2.2.2.2 200000 .none (by decide +kernel) _ _ rfl rfl⟩
  · rw [((h 0 { preM with belowMark := true } (withMeter { preM with belowMark := true }) rfl _ Iff.rfl).2 (by decide) _ _ rfl rfl).1
      200000 .none (by decide +kernel)]
    rfl
  · rw [((h 0 { preM with belowMark := true } (withQueue [entry 1 5] (withMeter { preM with belowMark := true })) rfl _ Iff.rfl).2
      (by decide) _ _ rfl rfl).2.1 200000 (by decide +kernel)]
  · rw [((h 0 { preM with belowMark := true } (withQueue (List.replicate 28 (entry 9 5)) (withMeter { preM with belowMark := true })) rfl _
      Iff.rfl).2 (by decide) _ _ rfl rfl).2.2.1 .queueFull .none (by decide +kernel)]
    rfl

/-- A meter not in DISPUTE; a debit of the whole pool; a credit that pays arrears after a void; and a POSTPAID usage beyond the pool. -/
theorem witness_ResolveMeterTakesRegisters (h : Obligations.ResolveMeterTakesRegisters) :
    (∃ t, exec (.resolveMeter 7 0 500000 0) board = .next t ∧ t.record = board.record)
      ∧ (∃ t, exec (.resolveMeter 7 0 500000 200000)
          (withFunds { balance := 100000 } (withMeter { preM with state := .dispute })) = .next t ∧ t.record.pool.balance = 0)
      ∧ (∃ t, exec (.resolveMeter 7 0 500000 50000)
          (withFunds { arrears := 100000, reserved := 50000 }
            (withMeter { preM with state := .dispute, grantOut := some (out .refill) })) = .next t ∧ t.record.pool.arrears = 0)
      ∧ (∃ t, exec (.resolveMeter 7 1 500010 0)
          (withFunds { balance := 3 } (board.putMeter 1 { postM with state := .dispute })) = .next t ∧ t.record.pool.arrears = 7)
      ∧ (voidGrant 0 { preM with grantOut := some (out .refill) } (out .refill)
          (withMeter { preM with grantOut := some (out .refill) })).meter? 0
        = some { preM with lastVoided := some (back .refill), voids := 1, causes := { grantVoided := true } } :=
  ⟨⟨_, (h.1 7 0 500000 0 board).1 .wrongState (by decide +kernel) (ready_taken _ rfl rfl), rfl⟩,
   ⟨_, (((h.1 7 0 500000 200000 (withFunds { balance := 100000 } (withMeter { preM with state := .dispute }))).2
      { preM with state := .dispute } { preM with state := .dispute } _ rfl (by decide) (by decide) (by decide) rfl rfl (by decide)
      (by decide) rfl rfl _ _ _ _ rfl rfl rfl rfl _ rfl _ (fun _ _ _ => rfl)).1 rfl (by decide) (by decide) (by decide)
      (ready_taken _ rfl rfl)), by decide +kernel⟩,
   ⟨_, (((h.1 7 0 500000 50000 (withFunds { arrears := 100000, reserved := 50000 }
      (withMeter { preM with state := .dispute, grantOut := some (out .refill) }))).2
      { preM with state := .dispute, grantOut := some (out .refill) }
      { preM with state := .dispute, lastVoided := some (back .refill), voids := 1, causes := { grantVoided := true } } _ rfl (by decide)
      (by decide) (by decide) rfl rfl (by decide) (by decide) rfl (by decide +kernel) _ _ _ _ rfl rfl rfl rfl _ rfl _
      (fun _ _ _ => rfl)).2.1 rfl (by decide) (by decide) _ _ rfl rfl (ready_taken _ rfl rfl)), by decide +kernel⟩,
   ⟨_, (((h.1 7 1 500010 0 (withFunds { balance := 3 } (board.putMeter 1 { postM with state := .dispute }))).2
      { postM with state := .dispute } { postM with state := .dispute } _ rfl (by decide) (by decide) (by decide) rfl rfl (by decide)
      (by decide) rfl rfl _ _ _ _ rfl rfl rfl rfl _ rfl _ (fun _ _ _ => rfl)).2.2 rfl _ _ rfl rfl (by decide)
      (ready_taken _ rfl rfl)), by decide +kernel⟩,
   by rw [(h.2 0 { preM with grantOut := some (out .refill) } (out .refill) (withMeter { preM with grantOut := some (out .refill) })
        rfl).2]; decide +kernel⟩

/-- An amount of exactly the headroom at one step, a headroom one below the step, and an allowance one below it. -/
theorem witness_GrantAmountIsLargest (h : Obligations.GrantAmountIsLargest) :
    ((100 : Nat) ∣ 100 ∧ preM.credit + 100 ≤ { preM with ceiling := 100100 }.ceiling)
      ∧ (({ preM with ceiling := 100099 }.ceiling : Int) - preM.credit < (100 : Nat) ∨ (200 : Nat) < 100)
      ∧ (∃ q ∈ some 99, q < 100)
      ∧ allowanceOf (board.putBranch 0 { rationed with run := .paused, allowance := 5, spent := 9 }) 0 = some 0 := by
  refine ⟨?_, ?_, ?_, ((h.2 _ preM).1 0 0).2 ⟨_, rfl, .inr rfl, by decide, by decide⟩⟩
  · obtain ⟨-, -, -, h1, -, h2, -⟩ := (h.1 100 none { preM with ceiling := 100100 } 200 (by decide)).2 100 .ceiling (by decide +kernel)
    exact ⟨h1, h2⟩
  · have h1 := (h.1 100 none { preM with ceiling := 100099 } 200 (by decide)).1 .atCeiling (.headroom 99 100) (by decide +kernel)
    rcases h1 with ⟨h2, -⟩ | ⟨-, -, -, -, h2⟩ | ⟨-, -, h2, -⟩
    · cases h2
    · exact h2.imp id And.left
    · cases h2
  · have h1 := (h.1 100 (some 99) preM 200 (by decide)).1 .allowanceSpent (.allowanceLeft 99) (by decide +kernel)
    rcases h1 with ⟨h2, -⟩ | ⟨-, -, h2, -⟩ | ⟨-, -, -, -, q, h2, -, h3, -⟩
    · cases h2
    · cases h2
    · exact ⟨q, h2, h3⟩

/-- The whole pool granted with no allowance; under PARTIAL a pool of exactly one step, from an allowance. -/
theorem witness_RefillRequestIssued (h : Obligations.RefillRequestIssued) :
    (∃ t, exec (.refillRequest 7 0 1000) (withFunds { balance := 1000 } board) = .next t ∧ t.record.pool.reserved = 1000)
      ∧ ∃ t, exec (.refillRequest 7 0 1000)
          { withFunds { balance := 100 } (withBranch { rationed with spent := 999701, allowance := 1000000 }) with
            inForce.shortage := .partly } = .next t
        ∧ (t.branch? 0).map (·.spent) = some 999801 :=
  ⟨⟨_, (h 7 0 1000 1000 1000 1000 .none .none preM (withFunds { balance := 1000 } board) (by decide) rfl rfl rfl (.inl (by decide)) rfl
      rfl rfl (by decide +kernel) (.inl (by decide)) _ (fun _ _ => rfl)).1 rfl (ready_taken _ rfl rfl), by decide +kernel⟩,
   ⟨_, (h 7 0 1000 1000 200 100 .allowance .pool preM
      { withFunds { balance := 100 } (withBranch { rationed with spent := 999701, allowance := 1000000 }) with
        inForce.shortage := .partly } (by decide) rfl rfl rfl (.inl (by decide)) rfl
      rfl rfl (by decide +kernel) (by decide) _ (fun _ _ => rfl)).2 { rationed with spent := 999701, allowance := 1000000 } rfl (by decide)
      (by decide) _ _ rfl rfl (ready_taken _ rfl rfl), by decide +kernel⟩⟩

/-- A pool one unit short under WAIT with the queue empty; an entry waiting; and 32 entries. -/
theorem witness_RefillRequestJoinsQueue (h : Obligations.RefillRequestJoinsQueue) :
    (∃ t, exec (.refillRequest 7 0 1000) (withFunds { balance := 999 } board) = .next t ∧ t.record.deviceCauses.poolWait = true)
      ∧ (∃ t, exec (.refillRequest 7 0 1000) (withQueue (List.replicate 31 (entry 9 5)) board) = .next t
        ∧ t.record.queue.length = 32)
      ∧ ∃ t, exec (.refillRequest 7 0 1000) (withQueue (List.replicate 32 (entry 9 5)) board) = .next t
        ∧ (t.meter? 0).map (·.refused) = some 1 :=
  ⟨⟨_, (h 7 0 1000 1000 1000 .none preM (withFunds { balance := 999 } board) (by decide) rfl rfl rfl (.inl (by decide)) rfl (by decide)
      rfl (by decide +kernel) (.inr (by decide))).1 (by decide) _ rfl (ready_taken _ rfl rfl), by decide +kernel⟩,
   ⟨_, (h 7 0 1000 1000 1000 .none preM (withQueue (List.replicate 31 (entry 9 5)) board) (by decide) rfl rfl rfl (.inl (by decide)) rfl
      (by decide) rfl (by decide +kernel) (.inl (by decide))).1 (by decide) _ rfl (ready_taken _ rfl rfl), by decide +kernel⟩,
   ⟨_, (h 7 0 1000 1000 1000 .none preM (withQueue (List.replicate 32 (entry 9 5)) board) (by decide) rfl rfl rfl (.inl (by decide)) rfl
      (by decide) rfl (by decide +kernel) (.inl (by decide))).2 (by decide) (ready_taken _ rfl rfl), by decide +kernel⟩⟩

theorem witness_LimitRequestAnswered (h : Obligations.LimitRequestAnswered) :
    (∃ t, exec (.limitRequest 7 1 1000) (board.putMeter 1 { postM with nextGrant := 65535 }) = .next t
        ∧ (t.meter? 1).map (·.nextGrant) = some 1)
      ∧ ∃ t, exec (.limitRequest 7 1 1000) (withFunds { arrears := 1 } board) = .next t
        ∧ (t.meter? 1).map (·.refused) = some 1 :=
  ⟨⟨_, (h 7 1 1000 1000 1000 .none { postM with nextGrant := 65535 } (board.putMeter 1 { postM with nextGrant := 65535 }) (by decide) rfl
      rfl rfl (.inl (by decide)) rfl (by decide) rfl (by decide +kernel)).1 rfl (ready_taken _ rfl rfl), by decide +kernel⟩,
   ⟨_, (h 7 1 1000 1000 1000 .none postM (withFunds { arrears := 1 } board) (by decide) rfl rfl rfl (.inl (by decide)) rfl (by decide) rfl
      (by decide +kernel)).2 (by decide) (ready_taken _ rfl rfl), by decide +kernel⟩⟩

/-- A slot out of range, an EMPTY slot, a wrong mode, TRIAL, and a refusal of the computation; REFILL and LIMIT. -/
theorem witness_GrantRequestRefusedOrTrial (h : Obligations.GrantRequestRefusedOrTrial) :
    (∃ t, exec (.refillRequest 7 512 1) board = .next t) ∧ (∃ t, exec (.limitRequest 7 511 1) board = .next t)
      ∧ (∃ t, exec (.refillRequest 7 0 1) (inMode .frozen) = .next t ∧ (t.meter? 0).map (·.refused) = some 0)
      ∧ (∃ t, exec (.refillRequest 7 0 1000) (withMeter { preM with conditioning := .trial }) = .next t
        ∧ t.record.pool.reserved = 0)
      ∧ ∃ t, exec (.limitRequest 7 0 1000) (withMeter { preM with refused := 65535 }) = .next t
        ∧ (t.meter? 0).map (·.refused) = some 65535 :=
  ⟨⟨_, (h 7 .refill 512 1 board (.refillRequest 7 512 1) 0x40 (.inl ⟨rfl, rfl, rfl⟩)).1 (by decide) (ready_taken _ rfl rfl)⟩,
   ⟨_, (h 7 .limit 511 1 board (.limitRequest 7 511 1) 0x41 (.inr ⟨rfl, rfl, rfl⟩)).2.1 (by decide) rfl (ready_taken _ rfl rfl)⟩,
   ⟨_, ((h 7 .refill 0 1 (inMode .frozen) (.refillRequest 7 0 1) 0x40 (.inl ⟨rfl, rfl, rfl⟩)).2.2 preM (by decide) rfl).1 (by decide)
      (ready_taken _ rfl rfl), rfl⟩,
   ⟨_, ((h 7 .refill 0 1000 (withMeter { preM with conditioning := .trial }) (.refillRequest 7 0 1000) 0x40 (.inl ⟨rfl, rfl, rfl⟩)).2.2
      { preM with conditioning := .trial } (by decide) rfl).2.1 rfl rfl _ rfl (ready_taken _ rfl (by decide +kernel)), rfl⟩,
   ⟨_, ((h 7 .limit 0 1000 (withMeter { preM with refused := 65535 }) (.limitRequest 7 0 1000) 0x41 (.inr ⟨rfl, rfl, rfl⟩)).2.2
      { preM with refused := 65535 } (by decide) rfl).2.2 rfl (by decide) .wrongState .none _ rfl (by decide +kernel)
      (ready_taken _ rfl rfl), by decide +kernel⟩⟩

/-- The refusals; settled at the credit capacity and a mismatch one above it; another number; no number; and late: a limit, a refill of the whole pool with
no allowance, one counted in an allowance, and one beyond the pool. -/
theorem witness_LoadConfirmSettles (h : Obligations.LoadConfirmSettles) :
    (∃ t, exec (.loadConfirm 7 0 12 1) (inMode .locked) = .next t) ∧ (∃ t, exec (.loadConfirm 7 512 12 1) board = .next t)
      ∧ (∃ t, exec (.loadConfirm 7 0 12 1000099999999) board = .next t) ∧ (∃ t, exec (.loadConfirm 7 511 65535 0) board = .next t)
      ∧ (∃ t, exec (.loadConfirm 7 0 12 99999999)
          (withMeter { preM with loaded := 99949999, credit := 99949999, ascending := 0, grantOut := some (out .limit) }) = .next t)
      ∧ (∃ t, exec (.loadConfirm 7 0 12 100000000)
          (withMeter { preM with loaded := 99950000, credit := 99950000, ascending := 0, grantOut := some (out .limit) }) = .next t)
      ∧ (∃ t, exec (.loadConfirm 7 0 65535 1) (withMeter { preM with grantOut := some (out .limit) }) = .next t)
      ∧ (∃ t, exec (.loadConfirm 7 0 1 1000099999998) board = .next t)
      ∧ (∃ t, exec (.loadConfirm 7 1 12 650000) (board.putMeter 1 { postM with lastVoided := some (back .limit) }) = .next t)
      ∧ (∃ t, exec (.loadConfirm 7 0 12 650000)
          (withFunds { balance := 50000 } (withMeter { preM with lastVoided := some (back .refill) })) = .next t)
      ∧ (∃ t, exec (.loadConfirm 7 0 12 650000)
          ((withBranch rationed).putMeter 0 { preM with lastVoided := some (back .refill) }) = .next t)
      ∧ ∃ t, exec (.loadConfirm 7 0 12 650000)
          (withFunds { balance := 49999 } (withMeter { preM with lastVoided := some (back .refill) })) = .next t := by
  refine ⟨⟨_, (h 7 0 12 1 (inMode .locked)).1 .wrongMode (by decide +kernel) (ready_taken _ rfl rfl)⟩,
    ⟨_, (h 7 512 12 1 board).1 .badValue (by decide +kernel) (ready_taken _ rfl rfl)⟩,
    ⟨_, (h 7 0 12 1000099999999 board).1 .badValue (by decide +kernel) (ready_taken _ rfl rfl)⟩,
    ⟨_, (h 7 511 65535 0 board).1 .unknownMeter (by decide +kernel) (ready_taken _ rfl rfl)⟩, ?_, ?_, ?_, ?_, ?_, ?_, ?_, ?_⟩
  · exact ⟨_, (((h 7 0 12 99999999 (withMeter { preM with loaded := 99949999, credit := 99949999, ascending := 0, grantOut := some (out .limit) })).2 _ (by decide) (by decide) (by decide) (by decide) (by decide) rfl).1 (out .limit) rfl rfl _ rfl).1 (by decide) (by decide)
      (ready_taken _ rfl rfl)⟩
  · exact ⟨_, (((h 7 0 12 100000000 (withMeter { preM with loaded := 99950000, credit := 99950000, ascending := 0, grantOut := some (out .limit) })).2 _ (by decide) (by decide) (by decide) (by decide) (by decide) rfl).1 (out .limit) rfl rfl _ rfl).2 (by decide) (.inr (by decide))
      (ready_taken _ rfl rfl)⟩
  · exact ⟨_, ((h 7 0 65535 1 (withMeter { preM with grantOut := some (out .limit) })).2 _ (by decide) (by decide) (by decide) (by decide) (by decide) rfl).2.1 (out .limit) rfl (by decide) (ready_taken _ rfl rfl)⟩
  · exact ⟨_, ((h 7 0 1 1000099999998 board).2 preM (by decide) (by decide) (by decide) (by decide) (by decide) rfl).2.2.1 rfl (by decide)
      (ready_taken _ rfl rfl)⟩
  · exact ⟨_, (((h 7 1 12 650000 (board.putMeter 1 { postM with lastVoided := some (back .limit) })).2 { postM with lastVoided := some (back .limit) } (by decide) (by decide) (by decide) (by decide) (by decide) rfl).2.2.2 (back .limit) rfl rfl rfl (by decide) (by decide) _ _ _ rfl rfl
      rfl).1 rfl (ready_taken _ rfl rfl)⟩
  · exact ⟨_, (((h 7 0 12 650000 (withFunds { balance := 50000 } (withMeter { preM with lastVoided := some (back .refill) }))).2 { preM with lastVoided := some (back .refill) } (by decide) (by decide) (by decide) (by decide) (by decide) rfl).2.2.2 (back .refill) rfl rfl rfl (by decide) (by decide) _ _ _ rfl rfl
      rfl).2.1 rfl (by decide) rfl (ready_taken _ rfl rfl)⟩
  · exact ⟨_, (((h 7 0 12 650000 ((withBranch rationed).putMeter 0 { preM with lastVoided := some (back .refill) })).2 { preM with lastVoided := some (back .refill) } (by decide) (by decide) (by decide) (by decide) (by decide) rfl).2.2.2 (back .refill) rfl rfl rfl (by decide) (by decide) _ _ _ rfl rfl
      rfl).2.2.1 rationed rfl (by decide) rfl (by decide) (by decide) _ _ rfl rfl (ready_taken _ rfl rfl)⟩
  · exact ⟨_, (((h 7 0 12 650000 (withFunds { balance := 49999 } (withMeter { preM with lastVoided := some (back .refill) }))).2 { preM with lastVoided := some (back .refill) } (by decide) (by decide) (by decide) (by decide) (by decide) rfl).2.2.2 (back .refill) rfl rfl rfl (by decide) (by decide) _ _ _ rfl rfl
      rfl).2.2.2 rfl (by decide) (ready_taken _ rfl rfl)⟩

/-- Expiry at 0, cancellation, a decline, another number, and a retirement whose credit takes X to its bound. -/
theorem witness_GrantVoided (h : Obligations.GrantVoided) :
    (∃ t, exec (.loadTimerExpiry 0) (withMeter { preM with grantOut := some { out .refill with remaining := 0 } }) = .next t
        ∧ t.record.pool.balance = 1050000)
      ∧ (∃ t, exec (.cancelGrant 7 0 12) (withMeter { preM with grantOut := some (out .limit) }) = .next t
        ∧ t.record.pool.balance = 1000000)
      ∧ (∃ t, exec (.loadConfirm 7 0 12 600000) (withMeter { preM with grantOut := some (out .limit) }) = .next t
        ∧ (t.meter? 0).map (·.voids) = some 1)
      ∧ (∃ t, exec (.cancelGrant 7 0 65535) (withMeter { preM with grantOut := some (out .limit) }) = .next t)
      ∧ (∃ t, exec (.cancelGrant 7 0 1) board = .next t) ∧ (∃ t, exec (.cancelGrant 7 0 0) board = .next t)
      ∧ (∃ t, exec (.cancelGrant 7 511 1) board = .next t)
      ∧ (∃ t, exec (.retireMeter 7 0)
          (withFunds { writtenOff := 2 ^ 47 - 100001 } (withMeter { preM with grantOut := some (out .limit) })) = .next t
        ∧ t.record.pool.writtenOff = 2 ^ 47 - 1)
      ∧ exec (.loadTimerExpiry 0) board = .next board ∧ exec (.loadTimerExpiry 511) board = .next board
      ∧ exec (.loadTimerExpiry 0) (withMeter { preM with grantOut := some { out .refill with remaining := 1 } })
        = .next (withMeter { preM with grantOut := some { out .refill with remaining := 1 } }) := by
  refine ⟨?_, ?_, ?_,
    ⟨_, (h 7 0 (withMeter { preM with grantOut := some (out .limit) })).1 65535 .noGrant (by decide +kernel) (ready_taken _ rfl rfl)⟩,
    ⟨_, (h 7 0 board).1 1 .noGrant (by decide +kernel) (ready_taken _ rfl rfl)⟩,
    ⟨_, (h 7 0 board).1 0 .badValue (by decide +kernel) (ready_taken _ rfl rfl)⟩,
    ⟨_, (h 7 511 board).1 1 .unknownMeter (by decide +kernel) (ready_taken _ rfl rfl)⟩, ?_,
    (h 7 0 board).2.1 (fun m hm g hg => ?_), (h 7 511 board).2.1 (fun m hm => by cases hm),
    (h 7 0 (withMeter { preM with grantOut := some { out .refill with remaining := 1 } })).2.1 (fun m hm g hg => ?_)⟩
  · exact ⟨_, ((h 7 0 (withMeter { preM with grantOut := some { out .refill with remaining := 0 } })).2.2
      { preM with grantOut := some { out .refill with remaining := 0 } } { out .refill with remaining := 0 } (by decide) rfl rfl (by decide) _ _ _ _ rfl rfl rfl
      rfl).1 rfl rfl, by decide +kernel⟩
  · exact ⟨_, (((h 7 0 (withMeter { preM with grantOut := some (out .limit) })).2.2 { preM with grantOut := some (out .limit) } (out .limit)
      (by decide) rfl rfl (by decide) _ _ _ _ rfl rfl rfl rfl).2.1 (by decide) (by decide) (by decide)).1 (ready_taken _ rfl rfl),
      by decide +kernel⟩
  · exact ⟨_, (((h 7 0 (withMeter { preM with grantOut := some (out .limit) })).2.2 { preM with grantOut := some (out .limit) } (out .limit)
      (by decide) rfl rfl (by decide) _ _ _ _ rfl rfl rfl rfl).2.1 (by decide) (by decide) (by decide)).2 (by decide) (by decide)
      (ready_taken _ rfl rfl), by decide +kernel⟩
  · exact ⟨_, ((h 7 0 (withFunds { writtenOff := 2 ^ 47 - 100001 } (withMeter { preM with grantOut := some (out .limit) }))).2.2
      { preM with grantOut := some (out .limit) } (out .limit) (by decide) rfl rfl (by decide)
      _ _ _ _ rfl rfl rfl rfl).2.2 _ rfl rfl (by decide +kernel) (ready_taken _ rfl rfl), by decide +kernel⟩
  · cases hm
    cases hg
  · cases hm
    cases hg
    decide

theorem witness_ServingStopsAtUncoveredHead (h : Obligations.ServingStopsAtUncoveredHead) :
    serveQueue (inMode .frozen) = { state := inMode .frozen, issued := 0, removed := 0 }
      ∧ serveRound board = .stop ∧ serveQueue (withQueue [entry 0 1000] (withFunds { balance := 999 } board))
        = { state := withQueue [entry 0 1000] (withFunds { balance := 999 } board), issued := 0, removed := 0 }
      ∧ (∃ t, serveQueue (withQueue [entry 0 1000] board) = { serveQueue t with issued := (serveQueue t).issued + 1 })
      ∧ (∃ t, serveQueue (withQueue [entry 9 1000] board) = { serveQueue t with removed := (serveQueue t).removed + 1 })
      ∧ (serveQueue (withQueue [entry 0 400000] board)).state.meter? 1 = some postM := by
  refine ⟨(h (inMode .frozen)).1 (by decide), ((h board).2.1 rfl).1 (.inl rfl),
    ((h (withQueue [entry 0 1000] (withFunds { balance := 999 } board))).2.1 rfl).2.1 (by decide +kernel),
    ⟨_, ((h (withQueue [entry 0 1000] board)).2.1 rfl).2.2.1 _ rfl⟩, ⟨_, ((h (withQueue [entry 9 1000] board)).2.1 rfl).2.2.2 _ rfl⟩, ?_⟩
  obtain ⟨-, -, -, -, h1⟩ := (h (withQueue [entry 0 400000] board)).2.2 rfl _ rfl
  rw [h1 1 (by decide)]
  rfl

/-- A meter not ACTIVE; a computation that refuses; a pool that covers exactly; PARTIAL with exactly one step; WAIT one unit short. -/
theorem witness_ServingRoundOutcomes (h : Obligations.ServingRoundOutcomes) :
    (∃ t, serveRound (withQueue [entry 0 1000] (withMeter { preM with state := .overdue })) = .removed t)
      ∧ (∃ t, serveRound (withQueue [entry 0 99] board) = .removed t)
      ∧ (∃ t, serveRound (withQueue [entry 0 1000] (withFunds { balance := 1000 } board)) = .issued t)
      ∧ (∃ t, serveRound { withQueue [entry 0 1000] (withFunds { balance := 100 } board) with inForce.shortage := .partly } = .issued t)
      ∧ serveRound (withQueue [entry 0 1000] (withFunds { balance := 999 } board)) = .stop
      ∧ (setMeterCause 0 .grantReady (issueGrant 0 { preM with nextGrant := 65535 } .refill 1000
          (withMeter { preM with nextGrant := 65535 }))).record.pool.balance = 999000
      ∧ ((setMeterCause 0 .grantReady (issueGrant 0 preM .refill 1000 (board.putBranch 0 rationed))).branch? 0).map (·.spent)
        = some (rationed.spent + 1000) := by
  refine ⟨?_, ?_, ?_, ?_, ?_, ?_, ?_⟩
  · exact ⟨_, (h.1 (withQueue [entry 0 1000] (withMeter { preM with state := .overdue })) _ (entry 0 1000) [] { preM with state := .overdue } _ _
      rfl (by decide) rfl rfl Iff.rfl rfl).1 (by decide)⟩
  · exact ⟨_, (h.1 (withQueue [entry 0 99] board) _ (entry 0 99) [] preM _ _ rfl (by decide) rfl rfl Iff.rfl rfl).2.1 (by decide) .atCeiling
      (.headroom 200000 100) (by decide +kernel)⟩
  · exact ⟨_, ((h.1 (withQueue [entry 0 1000] (withFunds { balance := 1000 } board)) _ (entry 0 1000) [] preM _ _ rfl (by decide) rfl rfl Iff.rfl
      rfl).2.2 (by decide) 1000 .none (by decide +kernel)).1 (by decide)⟩
  · exact ⟨_, (((h.1 { withQueue [entry 0 1000] (withFunds { balance := 100 } board) with inForce.shortage := .partly } _ (entry 0 1000) [] preM _ _
      rfl (by decide) rfl rfl Iff.rfl rfl).2.2 (by decide) 1000 .none (by decide +kernel)).2 (by decide) _ rfl).1 rfl (by decide)⟩
  · exact (((h.1 (withQueue [entry 0 1000] (withFunds { balance := 999 } board)) _ (entry 0 1000) [] preM _ _ rfl (by decide) rfl rfl Iff.rfl
      rfl).2.2 (by decide) 1000 .none (by decide +kernel)).2 (by decide) _ rfl).2 (.inl rfl)
  · rw [(h.2 0 1000 { preM with nextGrant := 65535 } (withMeter { preM with nextGrant := 65535 }) rfl _ (fun _ _ => rfl)).1 (by decide)]
    rfl
  · rw [(h.2 0 1000 preM (board.putBranch 0 rationed) rfl _ (fun _ _ => rfl)).2 rationed rfl (by decide) (by decide) _ rfl]
    decide +kernel

theorem witness_QueueCancelledAndRead (h : Obligations.QueueCancelledAndRead) :
    (∃ t, exec (.cancelQueued 7 512) board = .next t) ∧ (∃ t, exec (.cancelQueued 7 1) board = .next t)
      ∧ (∃ t, exec (.cancelQueued 7 0) (withQueue [entry 1 5, entry 0 5] board) = .next t ∧ t.record.queue = [entry 1 5])
      ∧ (∃ t, exec (.readQueue 7 31) (withQueue [entry 1 5] board) = .next t) ∧ ∃ t, exec (.readQueue 7 32) board = .next t :=
  ⟨⟨_, ((h 7 board).1 512).1 .badValue (by decide +kernel) (ready_taken _ rfl rfl)⟩,
   ⟨_, ((h 7 board).1 1).1 .notQueued (by decide +kernel) (ready_taken _ rfl rfl)⟩,
   ⟨_, ((h 7 (withQueue [entry 1 5, entry 0 5] board)).1 0).2 [entry 1 5] [] (entry 0 5) rfl (by decide) rfl rfl rfl (by decide) _ rfl
      (ready_taken _ rfl rfl), by decide +kernel⟩,
   ⟨_, (h 7 (withQueue [entry 1 5] board)).2 31 (ready_taken _ rfl rfl)⟩, ⟨_, (h 7 board).2 32 (ready_taken _ rfl rfl)⟩⟩

/-- An amount of 0; net deposits at their bound; a refund of the whole pool; a refund while arrears stand. -/
theorem witness_DepositAndRefund (h : Obligations.DepositAndRefund) :
    (∃ t, exec (.deposit 7 0) board = .next t ∧ t.record.pool = board.record.pool)
      ∧ (∃ t, exec (.deposit 7 99999999) (withFunds { deposits := 2 ^ 47 - 100000000, arrears := 5 } board) = .next t
        ∧ t.record.pool.deposits = 2 ^ 47 - 1)
      ∧ (∃ t, exec (.refund 7 1000000) board = .next t ∧ t.record.pool.balance = 0)
      ∧ ∃ t, exec (.refund 7 1) (withFunds { arrears := 5 } board) = .next t :=
  ⟨⟨_, (h 7 0 board).1 .badValue (by decide +kernel) (ready_taken _ rfl rfl), rfl⟩,
   ⟨_, (h 7 99999999 (withFunds { deposits := 2 ^ 47 - 100000000, arrears := 5 } board)).2.1 (.inr rfl) (by decide) (by decide)
      (by decide +kernel) _ _ _ rfl (by decide +kernel) rfl rfl (ready_taken _ rfl rfl), by decide +kernel⟩,
   ⟨_, (h 7 1000000 board).2.2.1 (ready_taken _ rfl rfl), by decide +kernel⟩,
   ⟨_, (h 7 1 (withFunds { arrears := 5 } board)).2.2.2 (.inl rfl) (by decide) (.inr rfl) (by decide) (by decide) (ready_taken _ rfl rfl)⟩⟩

theorem witness_NewRecordFillsLowestSlot (h : Obligations.NewRecordFillsLowestSlot) :
    (∃ t, exec (.openBranch 7 10000) board = .next t) ∧ (∃ t, exec (.openBranch 7 9999) board = .next t ∧ (t.branch? 1).isSome = true)
      ∧ (∃ t, exec (.defineDenomination 7 2500) board = .next t)
      ∧ ∃ t, exec (.defineDenomination 7 900) board = .next t ∧ (t.denomination? 0).isSome = true :=
  ⟨⟨_, (h 7 10000 board).1 .badValue (by decide +kernel) (ready_taken _ rfl rfl)⟩,
   ⟨_, (h 7 9999 board).2.1 1 (.inr rfl) (by decide) (by decide) (by decide) (by decide) rfl (by decide) (ready_taken _ rfl rfl),
    by decide +kernel⟩,
   ⟨_, (h 7 2500 board).2.2.1 .duplicate (by decide +kernel) (ready_taken _ rfl rfl)⟩,
   ⟨_, (h 7 900 board).2.2.2 0 (.inr rfl) (by decide) (by decide) (by decide) (by decide) rfl (by decide) (ready_taken _ rfl rfl),
    by decide +kernel⟩⟩

theorem witness_SetBranchChangesFields (h : Obligations.SetBranchChangesFields) :
    (∃ t, exec (.setBranch 7 0 { levels := some [(2, 1), (2, 1)] }) board = .next t)
      ∧ ∃ t, exec (.setBranch 7 0 { cycleLength := some 255, levels := some [(15, 9999999)] }) board = .next t := by
  refine ⟨⟨_, (h 7 0 { levels := some [(2, 1), (2, 1)] } board).1 .badValue (by decide +kernel) (ready_taken _ rfl rfl)⟩, ?_⟩
  obtain ⟨b', h1, -⟩ := (h 7 0 { cycleLength := some 255, levels := some [(15, 9999999)] } board).2 brn (.inr rfl) (by decide) rfl
    (option_ball (by decide)) (by decide) (option_ball (by decide))
  exact ⟨_, h1 (ready_taken _ rfl rfl)⟩

/-- An EMPTY slot; COUNTING; linked meters; stock; transfers; and a branch that closes. -/
theorem witness_CloseBranchEmptiesSlot (h : Obligations.CloseBranchEmptiesSlot) :
    (∃ t, exec (.closeBranch 7 127) board = .next t)
      ∧ (∃ t, exec (.closeBranch 7 0) (withBranch counted) = .next t ∧ (t.branch? 0).isSome = true)
      ∧ (∃ t, exec (.closeBranch 7 0) board = .next t ∧ (t.branch? 0).isSome = true)
      ∧ (∃ t, exec (.closeBranch 7 3) (board.putBranch 3 { brn with onHand := [(0, 1), (15, 1)] }) = .next t)
      ∧ (∃ t, exec (.closeBranch 7 3) (withTransfers [moving 1]) = .next t) ∧ ∃ t, exec (.closeBranch 7 3) board = .next t := by
  refine ⟨⟨_, (h 7 127 board).1 .unknownBranch (by decide +kernel) (ready_taken _ rfl rfl)⟩,
    ⟨_, ((h 7 0 (withBranch counted)).2 counted 2 0 (.inr rfl) (by decide) rfl (by decide) (by decide)).1 rfl (ready_taken _ rfl rfl), rfl⟩,
    ⟨_, ((h 7 0 board).2 brn 2 0 (.inr rfl) (by decide) rfl (by decide) (by decide)).2.1 rfl (by decide) (ready_taken _ rfl rfl), rfl⟩,
    ⟨_, ((h 7 3 (board.putBranch 3 { brn with onHand := [(0, 1), (15, 1)] })).2 { brn with onHand := [(0, 1), (15, 1)] } 0 0 (.inr rfl)
      (by decide) rfl (by decide) (by decide)).2.2.1 0 rfl rfl (by decide) (by decide) (by decide) (ready_taken _ rfl rfl)⟩,
    ⟨_, ((h 7 3 (withTransfers [moving 1])).2 { brn with code := 44, onHand := [] } 0 1 (.inr rfl) (by decide) rfl (by decide)
      (by decide)).2.2.2.1 rfl rfl rfl (by decide) (ready_taken _ rfl rfl)⟩, ?_⟩
  obtain ⟨t, h1, -⟩ := ((h 7 3 board).2 { brn with code := 44, onHand := [] } 0 0 (.inr rfl) (by decide) rfl (by decide)
    (by decide)).2.2.2.2 rfl rfl rfl rfl
  exact ⟨_, h1 (ready_taken _ rfl rfl)⟩

/-- A slot out of range, an unknown action, a START that wraps the cycle number, and one from RUNNING; the other three actions. -/
theorem witness_CycleControlMovesRunState (h : Obligations.CycleControlMovesRunState) :
    (∃ t, exec (.cycleStop 7 128) board = .next t) ∧ (∃ t, exec (.cycleStart 7 0 false) board = .next t)
      ∧ (∃ t, exec (.cycleStart 7 0 true) (withBranch { brn with cycle := 255 }) = .next t ∧ (t.branch? 0).map (·.cycle) = some 0)
      ∧ (∃ t, exec (.cycleStart 7 0 true) (withBranch rationed) = .next t ∧ (t.branch? 0).map (·.cycle) = some 5)
      ∧ (∃ t, exec (.cycleStop 7 0) (withBranch rationed) = .next t ∧ (t.branch? 0).map (·.run) = some .stopped)
      ∧ (∃ t, exec (.cyclePause 7 0) (withBranch rationed) = .next t ∧ (t.branch? 0).map (·.run) = some .paused)
      ∧ ∃ t, exec (.cycleResume 7 0) (withBranch { rationed with run := .paused }) = .next t
        ∧ (t.branch? 0).map (·.run) = some .running :=
  ⟨⟨_, (h 7 128 (.cycleStop 7 128) board (by decide)).1 .badValue (by decide +kernel) (ready_taken _ rfl rfl)⟩,
   ⟨_, (h 7 0 (.cycleStart 7 0 false) board (by decide)).1 .badValue (by decide +kernel) (ready_taken _ rfl rfl)⟩,
   ⟨_, ((h 7 0 (.cycleStart 7 0 true) (withBranch { brn with cycle := 255 }) (by decide)).2 { brn with cycle := 255 } rfl (by decide) rfl
      (by decide) _ rfl).2 { brn with cycle := 0, run := .running } (by decide) (ready_taken _ rfl rfl), by decide +kernel⟩,
   ⟨_, ((h 7 0 (.cycleStart 7 0 true) (withBranch rationed) (by decide)).2 rationed rfl (by decide) rfl (by decide) _ rfl).1 (by decide)
      (ready_taken _ rfl rfl), by decide +kernel⟩,
   ⟨_, ((h 7 0 (.cycleStop 7 0) (withBranch rationed) (by decide)).2 rationed rfl (by decide) rfl (by decide) _ rfl).2
      { rationed with run := .stopped } (by decide) (ready_taken _ rfl rfl), by decide +kernel⟩,
   ⟨_, ((h 7 0 (.cyclePause 7 0) (withBranch rationed) (by decide)).2 rationed rfl (by decide) rfl (by decide) _ rfl).2
      { rationed with run := .paused } (by decide) (ready_taken _ rfl rfl), by decide +kernel⟩,
   ⟨_, ((h 7 0 (.cycleResume 7 0) (withBranch { rationed with run := .paused }) (by decide)).2 { rationed with run := .paused } rfl (by decide)
      rfl (by decide) _ rfl).2 rationed (by decide) (ready_taken _ rfl rfl), by decide +kernel⟩⟩

theorem witness_WithdrawAndRetireDenomination (h : Obligations.WithdrawAndRetireDenomination) :
    (∃ t, exec (.withdrawDenomination 7 2) board = .next t ∧ (t.denomination? 2).map (·.withdrawn) = some (some 300))
      ∧ (∃ t, exec (.retireDenomination 7 16) board = .next t)
      ∧ (∃ t, exec (.retireDenomination 7 3) board = .next t ∧ (t.denomination? 3).isSome = true)
      ∧ ∃ t, exec (.retireDenomination 7 3) (withBranch { brn with onHand := [] }) = .next t ∧ t.denomination? 3 = none :=
  ⟨⟨_, (h 7 2 board).1 (ready_taken _ rfl rfl), by decide +kernel⟩,
   ⟨_, (h 7 16 board).2.1 .badValue (by decide +kernel) (ready_taken _ rfl rfl)⟩,
   ⟨_, (h 7 3 board).2.2 _ 290 _ _ _ rfl (by decide) rfl rfl rfl rfl rfl (ready_taken _ rfl rfl), rfl⟩,
   ⟨_, (h 7 3 (withBranch { brn with onHand := [] })).2.2 _ 290 _ _ _ rfl (by decide) rfl rfl rfl rfl rfl (ready_taken _ rfl rfl),
    by decide +kernel⟩⟩

/-- A count of 0, a WITHDRAWN slot bought, an ON SALE slot surrendered, a COUNTING branch. -/
theorem witness_StockMovementChecks (h : Obligations.StockMovementChecks) :
    (∃ t, exec (.purchaseStock 7 0 2 0) board = .next t) ∧ (∃ t, exec (.purchaseStock 7 0 3 1) board = .next t)
      ∧ (∃ t, exec (.surrenderStock 7 0 2 1) board = .next t) ∧ (∃ t, exec (.issueStock 7 127 2 9999999) board = .next t)
      ∧ ∃ t, exec (.writeOffStock 7 0 2 1) (withBranch counted) = .next t :=
  ⟨⟨_, h 7 0 2 0 (.purchaseStock 7 0 2 0) 0x84 board (by decide) _ rfl (ready_taken _ rfl rfl)⟩,
   ⟨_, h 7 0 3 1 (.purchaseStock 7 0 3 1) 0x84 board (by decide) (refuseWith .wrongState (.slotState .withdrawn)) (by decide +kernel)
      (ready_taken _ rfl rfl)⟩,
   ⟨_, h 7 0 2 1 (.surrenderStock 7 0 2 1) 0x87 board (by decide) (refuseWith .wrongState (.slotState .onSale)) (by decide +kernel)
      (ready_taken _ rfl rfl)⟩,
   ⟨_, h 7 127 2 9999999 (.issueStock 7 127 2 9999999) 0x85 board (by decide) (refuse .unknownBranch) (by decide +kernel)
      (ready_taken _ rfl rfl)⟩,
   ⟨_, h 7 0 2 1 (.writeOffStock 7 0 2 1) 0x86 (withBranch counted) (by decide) (refuse .branchCounting) (by decide +kernel)
      (ready_taken _ rfl rfl)⟩⟩

/-- A purchase of the whole pool, one stamp more, a count at its bound; a surrender that pays arrears, and one of more than is held. -/
theorem witness_PurchaseAndSurrenderStock (h : Obligations.PurchaseAndSurrenderStock) :
    (∃ t, exec (.purchaseStock 7 0 2 400) board = .next t ∧ t.record.pool.balance = 0)
      ∧ (∃ t, exec (.purchaseStock 7 0 2 401) board = .next t ∧ t.record.pool.balance = 1000000)
      ∧ (∃ t, exec (.purchaseStock 7 0 2 9999960) board = .next t)
      ∧ (∃ t, exec (.surrenderStock 7 0 3 1000) (withFunds { arrears := 900000 } board) = .next t ∧ t.record.pool.arrears = 0)
      ∧ ∃ t, exec (.surrenderStock 7 0 3 1001) board = .next t ∧ t.record.pool.balance = 1000000 :=
  ⟨⟨_, (h 7 0 2 400 brn { face := 2500, withdrawn := none } board rfl (by decide) (by decide) (by decide) (by decide) rfl rfl rfl _ _ rfl
      rfl).1 rfl (ready_taken _ rfl rfl), by decide +kernel⟩,
   ⟨_, (h 7 0 2 401 brn { face := 2500, withdrawn := none } board rfl (by decide) (by decide) (by decide) (by decide) rfl rfl rfl _ _ rfl
      rfl).1 rfl (ready_taken _ rfl (by decide +kernel)), by decide +kernel⟩,
   ⟨_, (h 7 0 2 9999960 brn { face := 2500, withdrawn := none } board rfl (by decide) (by decide) (by decide) (by decide) rfl rfl rfl _ _
      rfl rfl).1 rfl (ready_taken _ rfl (by decide +kernel))⟩,
   ⟨_, (h 7 0 3 1000 brn { face := 900, withdrawn := some 290 } (withFunds { arrears := 900000 } board) rfl (by decide) (by decide)
      (by decide) (by decide) rfl rfl rfl _ _ rfl rfl).2 rfl _ _ _ _ rfl rfl rfl (by decide) rfl (ready_taken _ rfl (by decide +kernel)),
    by decide +kernel⟩,
   ⟨_, (h 7 0 3 1001 brn { face := 900, withdrawn := some 290 } board rfl (by decide) (by decide)
      (by decide) (by decide) rfl rfl rfl _ _ rfl rfl).2 rfl _ _ _ _ rfl rfl rfl (by decide) rfl (ready_taken _ rfl (by decide +kernel)),
    by decide +kernel⟩⟩

theorem witness_IssueAndWriteOffStock (h : Obligations.IssueAndWriteOffStock) :
    (∃ t, exec (.issueStock 7 0 2 40) board = .next t ∧ t.record.pool.issued = 100000)
      ∧ (∃ t, exec (.issueStock 7 0 2 41) board = .next t ∧ t.record.pool.issued = 0)
      ∧ ∃ t, exec (.writeOffStock 7 0 2 40) board = .next t ∧ t.record.pool.writtenOff = 100000 :=
  ⟨⟨_, (h 7 0 2 40 brn { face := 2500, withdrawn := none } board rfl (by decide) (by decide) (by decide) (by decide) rfl rfl rfl _ _ _ _
      rfl rfl rfl rfl).1 (ready_taken _ rfl (by decide +kernel)), by decide +kernel⟩,
   ⟨_, (h 7 0 2 41 brn { face := 2500, withdrawn := none } board rfl (by decide) (by decide) (by decide) (by decide) rfl rfl rfl _ _ _ _
      rfl rfl rfl rfl).1 (ready_taken _ rfl (by decide +kernel)), by decide +kernel⟩,
   ⟨_, (h 7 0 2 40 brn { face := 2500, withdrawn := none } board rfl (by decide) (by decide) (by decide) (by decide) rfl rfl rfl _ _ _ _
      rfl rfl rfl rfl).2 (ready_taken _ rfl (by decide +kernel)), by decide +kernel⟩⟩

/-- Origin and destination the same; the last place of the list; and the list full. -/
theorem witness_DispatchAddsTransfer (h : Obligations.DispatchAddsTransfer) :
    (∃ t, exec (.dispatch 7 3 3 2 1) board = .next t)
      ∧ (∃ t, exec (.dispatch 7 0 3 2 40) (withTransfers ((List.range 63).map (fun n => moving (n + 1)))) = .next t)
      ∧ ∃ t, exec (.dispatch 7 0 3 2 40) (withTransfers ((List.range 64).map (fun n => moving (n + 1)))) = .next t := by
  refine ⟨⟨_, (h 7 3 3 2 1 board).1 _ rfl (ready_taken _ rfl rfl)⟩, ?_,
    ⟨_, (h 7 0 3 2 40 (withTransfers ((List.range 64).map (fun n => moving (n + 1))))).1 (refuse .tableFull) (by decide +kernel)
      (ready_taken _ rfl rfl)⟩⟩
  obtain ⟨p, n, -, -, -, -, h1⟩ := (h 7 0 3 2 40 (withTransfers ((List.range 63).map (fun n => moving (n + 1))))).2 brn
    { face := 2500, withdrawn := none } rfl (by decide) (by decide) (by decide) (by decide) (by decide) (by decide) rfl rfl rfl rfl
    (by decide) (by decide) _ _ rfl rfl
  exact ⟨_, h1 (ready_taken _ rfl rfl)⟩

/-- A number out of range, an unknown one, a receipt of nothing, one of more than was dispatched, and a cancellation. -/
theorem witness_TransferReceivedOrCancelled (h : Obligations.TransferReceivedOrCancelled) :
    (∃ t, exec (.receive 7 65536 0) board = .next t) ∧ (∃ t, exec (.cancelTransfer 7 65535) board = .next t)
      ∧ (∃ t, exec (.receive 7 2 0) (withTransfers [moving 1, moving 2]) = .next t ∧ t.record.pool.writtenOff = 25000)
      ∧ (∃ t, exec (.receive 7 2 11) (withTransfers [moving 1, moving 2]) = .next t ∧ t.record.transfers.length = 2)
      ∧ ∃ t, exec (.cancelTransfer 7 2) (withTransfers [moving 1, moving 2]) = .next t ∧ t.record.transfers = [moving 1] :=
  ⟨⟨_, (h 7 65536 0 board).1 .badValue (by decide +kernel) (ready_taken _ rfl rfl)⟩,
   ⟨_, (h 7 65535 0 board).2.1 .unknownTransfer (by decide +kernel) (ready_taken _ rfl rfl)⟩,
   ⟨_, ((h 7 2 0 (withTransfers [moving 1, moving 2])).2.2 [moving 1] [] (moving 2) { face := 2500, withdrawn := none }
      { brn with code := 44, onHand := [] } _ rfl (by decide) (by decide) rfl rfl (by decide) rfl rfl).1 rfl (by decide) _ rfl
      (ready_taken _ rfl (by decide +kernel)), by decide +kernel⟩,
   ⟨_, ((h 7 2 11 (withTransfers [moving 1, moving 2])).2.2 [moving 1] [] (moving 2) { face := 2500, withdrawn := none }
      { brn with code := 44, onHand := [] } _ rfl (by decide) (by decide) rfl rfl (by decide) rfl rfl).1 rfl (by decide) _ rfl
      (ready_taken _ rfl (by decide +kernel)), by decide +kernel⟩,
   ⟨_, ((h 7 2 0 (withTransfers [moving 1, moving 2])).2.2 [moving 1] [] (moving 2) { face := 2500, withdrawn := none } brn _ rfl (by decide)
      (by decide) rfl rfl (by decide) rfl rfl).2 rfl (ready_taken _ rfl (by decide +kernel)), by decide +kernel⟩⟩

theorem witness_ReadTransfersAndReadCount (h : Obligations.ReadTransfersAndReadCount) :
    (∃ t, exec (.readTransfers 7 63) (withTransfers [moving 1]) = .next t) ∧ (∃ t, exec (.readTransfers 7 64) board = .next t)
      ∧ (∃ t, exec (.readCount 7 0) (withBranch counted) = .next t) ∧ ∃ t, exec (.readCount 7 0) board = .next t :=
  ⟨⟨_, (h 7 (withTransfers [moving 1])).1 63 (ready_taken _ rfl (by decide +kernel))⟩,
   ⟨_, (h 7 board).1 64 (ready_taken _ rfl (by decide +kernel))⟩,
   ⟨_, (h 7 (withBranch counted)).2 0 (ready_taken _ rfl (by decide +kernel))⟩,
   ⟨_, (h 7 board).2 0 (ready_taken _ rfl (by decide +kernel))⟩⟩

theorem witness_CountBegunEnteredAbandoned (h : Obligations.CountBegunEnteredAbandoned) :
    (∃ t, exec (.beginCount 7 0) board = .next t) ∧ (∃ t, exec (.enterCount 7 0 2 9999999) (withBranch counted) = .next t)
      ∧ (∃ t, exec (.enterCount 7 0 15 0) (withBranch counted) = .next t) ∧ ∃ t, exec (.abandonCount 7 0) (withBranch counted) = .next t :=
  ⟨⟨_, (h 7 0 0 0 board).1 (ready_taken _ rfl (by decide +kernel))⟩,
   ⟨_, (h 7 0 2 9999999 (withBranch counted)).2.1 (ready_taken _ rfl (by decide +kernel))⟩,
   ⟨_, (h 7 0 15 0 (withBranch counted)).2.1 (ready_taken _ rfl (by decide +kernel))⟩,
   ⟨_, (h 7 0 0 0 (withBranch counted)).2.2 (ready_taken _ rfl (by decide +kernel))⟩⟩

/-- An OPEN branch; a variance total that the net value -24,100 would take below its bound; and one that it takes to it. -/
theorem witness_CloseCountAppliesFigures (h : Obligations.CloseCountAppliesFigures) :
    (∃ t, exec (.closeCount 7 0) board = .next t)
      ∧ (∃ t, exec (.closeCount 7 0) (withBranch { counted with variance := -(2 ^ 47 - 1) + 24099 }) = .next t)
      ∧ ∃ t, exec (.closeCount 7 0) (withBranch { counted with variance := -(2 ^ 47 - 1) + 24100 }) = .next t := by
  refine ⟨⟨_, (h 7 0 board).1 .wrongState (by decide +kernel) (ready_taken _ rfl rfl)⟩,
    ⟨_, ((h 7 0 (withBranch { counted with variance := -(2 ^ 47 - 1) + 24099 })).2 { counted with variance := -(2 ^ 47 - 1) + 24099 }
      { day := 300, latched := brn.onHand, counted := [(2, 30), (3, 1001)] } _ _ rfl (by decide) rfl rfl (by decide) rfl Iff.rfl).1
      (by decide +kernel) (ready_taken _ rfl rfl)⟩, ?_⟩
  obtain ⟨b', c, -, -, -, l, hl, h1⟩ := ((h 7 0 (withBranch { counted with variance := -(2 ^ 47 - 1) + 24100 })).2
    { counted with variance := -(2 ^ 47 - 1) + 24100 } { day := 300, latched := brn.onHand, counted := [(2, 30), (3, 1001)] } _ _ rfl
    (by decide) rfl rfl (by decide) rfl Iff.rfl).2 (by decide +kernel)
  subst hl
  exact ⟨_, h1 (ready_taken _ rfl rfl)⟩

/-- A page; a start above 640; and takes of a meter, a branch and the device, with a slot and a set at and past their bounds. -/
theorem witness_AttentionReadAndTaken (h : Obligations.AttentionReadAndTaken) :
    (∃ t, exec (.readAttention 7 640) board = .next t) ∧ (∃ t, exec (.readAttention 7 641) board = .next t)
      ∧ (∃ t, exec (.takeAttention 7 0 0 1) (inMode .locked) = .next t) ∧ (∃ t, exec (.takeAttention 7 3 0 1) board = .next t)
      ∧ (∃ t, exec (.takeAttention 7 0 512 1) board = .next t) ∧ (∃ t, exec (.takeAttention 7 0 511 255) board = .next t)
      ∧ (∃ t, exec (.takeAttention 7 0 0 255) board = .next t) ∧ (∃ t, exec (.takeAttention 7 1 0 64) board = .next t)
      ∧ (∃ t, exec (.takeAttention 7 1 127 63) board = .next t) ∧ (∃ t, exec (.takeAttention 7 1 0 63) board = .next t)
      ∧ (∃ t, exec (.takeAttention 7 2 0 16) board = .next t) ∧ ∃ t, exec (.takeAttention 7 2 0 15) board = .next t := by
  refine ⟨⟨_, (h 7 board).1 640 _ rfl (ready_taken _ rfl (by decide +kernel))⟩, ⟨_, (h 7 board).1 641 _ rfl (ready_taken _ rfl (by decide +kernel))⟩,
    ⟨_, ((h 7 (inMode .locked)).2 0 1).1 0 rfl (ready_taken _ rfl rfl)⟩,
    ⟨_, (((h 7 board).2 0 1).2 (by decide)).1 3 (by decide) (ready_taken _ rfl rfl)⟩,
    ⟨_, (((h 7 board).2 512 1).2 (by decide)).2.1 (.inl (by decide)) (ready_taken _ rfl rfl)⟩,
    ⟨_, ((((h 7 board).2 511 255).2 (by decide)).2.2.1 (by decide) (by decide)).1 rfl (ready_taken _ rfl rfl)⟩, ?_,
    ⟨_, (((h 7 board).2 0 64).2 (by decide)).2.2.2.1 (.inr (by decide)) (ready_taken _ rfl rfl)⟩,
    ⟨_, ((((h 7 board).2 127 63).2 (by decide)).2.2.2.2.1 (by decide) (by decide)).1 rfl (ready_taken _ rfl rfl)⟩, ?_,
    ⟨_, (((h 7 board).2 0 16).2 (by decide)).2.2.2.2.2.1 (.inr (by decide)) (ready_taken _ rfl rfl)⟩, ?_⟩
  · obtain ⟨l, -, h1⟩ := ((((h 7 board).2 0 255).2 (by decide)).2.2.1 (by decide) (by decide)).2 preM rfl
    exact ⟨_, h1 (ready_taken _ rfl rfl)⟩
  · obtain ⟨l, -, h1⟩ := ((((h 7 board).2 0 63).2 (by decide)).2.2.2.2.1 (by decide) (by decide)).2 brn rfl
    exact ⟨_, h1 (ready_taken _ rfl rfl)⟩
  · obtain ⟨l, -, h1⟩ := (((h 7 board).2 0 15).2 (by decide)).2.2.2.2.2.2 rfl (by decide)
    exact ⟨_, h1 (ready_taken _ rfl rfl)⟩

/-- One request of each line of the table. -/
theorem witness_ModesCloseRequests (h : Obligations.ModesCloseRequests) :
    (∃ t, exec (.writeSettings 7 {}) (inMode .frozen) = .next t) ∧ (∃ t, exec (.clearTables 7) board = .next t)
      ∧ (∃ t, exec (.readCount 7 0) (inMode .locked) = .next t) ∧ (∃ t, exec (.deposit 7 1) (inMode .locked) = .next t)
      ∧ ∃ t, exec (.abandonCount 7 0) (inMode .setup) = .next t :=
  ⟨⟨_, h (.writeSettings 7 {}) 0x12 7 (inMode .frozen) rfl (fun _ _ _ _ hc => by cases hc) (.inl (by decide)) (ready_taken _ rfl rfl)⟩,
   ⟨_, h (.clearTables 7) 0x15 7 board rfl (fun _ _ _ _ hc => by cases hc) (.inr (.inl (by decide))) (ready_taken _ rfl rfl)⟩,
   ⟨_, h (.readCount 7 0) 0x98 7 (inMode .locked) rfl (fun _ _ _ _ hc => by cases hc) (.inr (.inr (.inl (by decide))))
      (ready_taken _ rfl rfl)⟩,
   ⟨_, h (.deposit 7 1) 0x60 7 (inMode .locked) rfl (fun _ _ _ _ hc => by cases hc) (.inr (.inr (.inr (.inl (by decide)))))
      (ready_taken _ rfl rfl)⟩,
   ⟨_, h (.abandonCount 7 0) 0x97 7 (inMode .setup) rfl (fun _ _ _ _ hc => by cases hc) (.inr (.inr (.inr (.inr (by decide)))))
      (ready_taken _ rfl rfl)⟩⟩

/-- A sound state with meters, stock and transfers, its funds identity balanced. -/
def soundBoard : State :=
  withFunds { balance := 1000000, deposits := 2177500, reserved := 50000, franked := 5000, writtenOff := -2500 }
    { (withTransfers [moving 1]).putMeter 0 { preM with grantOut := some (out .refill) } with
      record.queue := [], record.nextTransfer := 2, pending := [.deposit 7 1] }

theorem witness_sound : Sound soundBoard := by
  constructor <;> decide +kernel

theorem witness_FormPoolLoadedAndRangesKept :
    TablesCanonical soundBoard ∧ PoolLaw soundBoard ∧ LoadedLaw soundBoard ∧ SettingsInRange soundBoard ∧ RecordsInRange soundBoard
      ∧ MarksLaw soundBoard ∧ IndexLaw soundBoard ∧ ∃ t, step soundBoard = .next t :=
  ⟨by decide +kernel, by decide +kernel, by decide +kernel, by decide +kernel, by decide +kernel, by decide +kernel, by decide +kernel, _, rfl⟩

theorem witness_GrantsKept : GrantsSound soundBoard ∧ ∃ t, step soundBoard = .next t :=
  ⟨by constructor <;> decide +kernel, _, rfl⟩

theorem witness_StockKept : StockSound soundBoard ∧ ∃ t, step soundBoard = .next t :=
  ⟨by constructor <;> decide +kernel, _, rfl⟩

theorem witness_SoundKept : Sound soundBoard ∧ ∃ t, step soundBoard = .next t :=
  ⟨witness_sound, _, rfl⟩

/-- A METER REPORT, a LIMIT REQUEST and a TAKE ATTENTION with every field at its top value; a kind code in no table; the grant result, two subjects and a cause set at their top
values; and the last byte of a slot. -/
theorem witness_LayoutsReadBack (h : Obligations.LayoutsReadBack) :
    (∀ l, requestBytes (.meterReport 0xFFFF 65535 0xFFFF (2 ^ 64 - 1) (2 ^ 64 - 1)) = some l →
        readBytes (padded l) = .meterReport 0xFFFF 65535 0xFFFF (2 ^ 64 - 1) (2 ^ 64 - 1))
      ∧ (∃ l, requestBytes (.meterReport 0xFFFF 65535 0xFFFF (2 ^ 64 - 1) (2 ^ 64 - 1)) = some l ∧ field l 8 2 = 65535)
      ∧ (∃ l, requestBytes (.limitRequest 7 65535 (2 ^ 64 - 1)) = some l ∧ field l 16 8 = 2 ^ 64 - 1)
      ∧ (∃ l, requestBytes (.takeAttention 7 255 65535 0xFFFF) = some l ∧ field l 12 2 = 65535)
      ∧ (∃ f, readBytes [0x99, 0, 7, 0, 0, 0, 0, 0] = .badRequest 7 0x99 0 f)
      ∧ readBytes ([3, 0, 7, 0, 8, 0, 0, 0, 0, 0x80] ++ List.replicate 118 0) = .badRequest 7 3 8 true
      ∧ readBytes ([3, 0, 7, 0, 8, 0, 0, 0, 0, 0, 0, 0, 0, 0, 0, 1] ++ List.replicate 112 0) = .badRequest 7 3 8 true
      ∧ readBytes ([0x40, 0, 7, 0, 16, 0, 0, 0, 0, 0, 1] ++ List.replicate 117 0) = .badRequest 7 0x40 16 true
      ∧ readBytes ([0x41, 0, 7, 0, 16, 0, 0, 0, 0, 0, 0, 0, 0, 0, 0, 0x80] ++ List.replicate 112 0) = .badRequest 7 0x41 16 true
      ∧ readBytes ([0x30, 0, 7, 0, 24, 0, 0, 0, 0, 0, 0, 0, 0, 0, 0, 1] ++ List.replicate 112 0) = .badRequest 7 0x30 24 true
      ∧ (∀ l, l = resultBytes
            { tag := 7, kind := 0x41, status := .done, length := 24
              outcome := .grant 65535 .limit .pool 65535 65535 (2 ^ 64 - 1) (2 ^ 64 - 1) } →
          l.length = 32 ∧ field l 24 8 = 2 ^ 64 - 1)
      ∧ (∀ l, l = resultBytes
            { tag := 7, kind := 2, status := .done, length := 12, outcome := .attention [(0, 1), (65535, 0xFFFF)] 65535 } →
          field l 16 2 = 65535)
      ∧ (∀ l, l = resultBytes { tag := 7, kind := 3, status := .done, length := 2, outcome := .causesLeft 0xFFFF } →
          field l 8 2 = 65535)
      ∧ (resultSlotBytes (some { result := { tag := 7, kind := 3, status := .done, length := 2, outcome := .causesLeft 0xFFFF }, part := 0 }))[127]?
        = some 0 := by
  refine ⟨fun l hl => (h.1 _ l (by decide +kernel) hl).2.1, ?_, ?_, ?_, (h.2.2.2.2.1 [0x99, 0, 7, 0, 0, 0, 0, 0] (.inl (by decide))).imp (fun _ => And.left),
    ?_, ?_, ?_, ?_, ?_, fun l hl => ?_,
    fun l hl => ?_, fun l hl => ((h.2.2.2.2.2.2.2.2.2 _ l hl).2.2.2.2.1 _ rfl).2, ?_⟩
  · obtain ⟨l, h1, h2, -⟩ := h.2.1 0xFFFF 65535 0xFFFF (2 ^ 64 - 1) (2 ^ 64 - 1) (by decide +kernel)
    exact ⟨l, h1, h2⟩
  · obtain ⟨l, h1, -, -, h2⟩ := h.2.2.1 7 65535 (2 ^ 64 - 1) _ (.inr rfl) (by decide +kernel)
    exact ⟨l, h1, h2⟩
  · obtain ⟨l, h1, -, -, -, h2, -⟩ := h.2.2.2.1 7 255 65535 0xFFFF (by decide +kernel)
    exact ⟨l, h1, h2⟩
  · obtain ⟨f, h1, h2⟩ := h.2.2.2.2.1 ([3, 0, 7, 0, 8, 0, 0, 0, 0, 0x80] ++ List.replicate 118 0) (.inr (.inr (.inr (.inr ⟨by decide +kernel, .inl (by decide +kernel)⟩))))
    rw [h1, h2 (by decide +kernel)]
    rfl
  · obtain ⟨f, h1, h2⟩ := h.2.2.2.2.1 ([3, 0, 7, 0, 8, 0, 0, 0, 0, 0, 0, 0, 0, 0, 0, 1] ++ List.replicate 112 0) (.inr (.inr (.inr (.inr ⟨by decide +kernel, .inr (by decide +kernel)⟩))))
    rw [h1, h2 (by decide +kernel)]
    rfl
  · obtain ⟨f, h1, h2⟩ := h.2.2.2.2.1 ([0x40, 0, 7, 0, 16, 0, 0, 0, 0, 0, 1] ++ List.replicate 117 0) (.inr (.inr (.inr (.inl ⟨by decide +kernel, by decide +kernel⟩))))
    rw [h1, h2 (by decide +kernel)]
    rfl
  · obtain ⟨f, h1, h2⟩ := h.2.2.2.2.1 ([0x41, 0, 7, 0, 16, 0, 0, 0, 0, 0, 0, 0, 0, 0, 0, 0x80] ++ List.replicate 112 0) (.inr (.inr (.inr (.inl ⟨by decide +kernel, by decide +kernel⟩))))
    rw [h1, h2 (by decide +kernel)]
    rfl
  · obtain ⟨f, h1, h2⟩ := h.2.2.2.2.1 ([0x30, 0, 7, 0, 24, 0, 0, 0, 0, 0, 0, 0, 0, 0, 0, 1] ++ List.replicate 112 0) (.inr (.inr (.inl ⟨by decide +kernel, by decide +kernel⟩)))
    rw [h1, h2 (by decide +kernel)]
    rfl
  · obtain ⟨h1, -, -, -, -, -, -, h2⟩ := (h.2.2.2.2.2.2.2.2.2 _ l hl).2.2.1 _ _ _ _ _ _ _ rfl (by decide) (by decide) (by decide) (by decide) (by decide)
    exact ⟨h1, h2⟩
  · exact (((h.2.2.2.2.2.2.2.2.2 _ l hl).2.2.2.1 _ _ rfl (by decide) (by decide) (by decide)).2.2.2 1 (by decide)).1
  · rw [(h.2.2.2.2.2.2.2.2.2 { tag := 7, kind := 3, status := .done, length := 2, outcome := .causesLeft 0xFFFF } _ rfl).2.2.2.2.2 0 127 (by decide)]
    decide +kernel

end Sys2Proof.Tests
end

section
/-!
SUPPORT. Further laws of the tables that the invariants use: a key that no two records share, and membership after a filling.
-/

namespace Sys2Proof.Table

variable {α β : Type}

/-- In canonical form every record of a table with a slot filled is the new record, or stood in another slot. -/
theorem mem_put_sorted {t : Table α} (hs : Sorted t) {i : Nat} {v : α} {e : Nat × α} (h : e ∈ put t i v) :
    e = (i, v) ∨ e ∈ t ∧ e.1 ≠ i := by
  by_cases hi : e.1 = i
  · have h1 := find_of_mem (sorted_put hs i v) (i := e.1) (v := e.2) h
    rw [hi, find_put_self] at h1
    exact .inl (Prod.ext hi (Option.some.inj h1).symm)
  · rcases mem_put h with rfl | h
    · exact absurd rfl hi
    · exact .inr ⟨h, hi⟩

/-- A key that no two records share is still shared by none after a slot is filled with a record of a key of its own. -/
theorem nodup_put (f : α → β) {t : Table α} (hs : Sorted t) (hn : (t.map (fun e => f e.2)).Nodup) {i : Nat} {v : α}
    (hv : ∀ e ∈ t, e.1 ≠ i → f e.2 ≠ f v) : ((put t i v).map (fun e => f e.2)).Nodup := by
  induction t with
  | nil => simp [put]
  | cons e t ih =>
    obtain ⟨k, w⟩ := e
    simp only [Sorted, List.pairwise_cons, List.map_cons, List.nodup_cons] at hs hn
    have htail : ∀ e ∈ t, e.1 ≠ i → f e.2 ≠ f v := fun e he => hv e (List.mem_cons_of_mem _ he)
    simp only [put]
    split
    · rename_i hik
      refine List.nodup_cons.2 ⟨?_, List.nodup_cons.2 hn⟩
      intro hm
      obtain ⟨e, he, hev⟩ := List.mem_map.1 hm
      have hne : e.1 ≠ i := by
        rcases List.mem_cons.1 he with rfl | he
        · exact Nat.ne_of_gt hik
        · exact Nat.ne_of_gt (Nat.lt_trans hik (hs.1 e he))
      exact hv e he hne hev
    · split
      · rename_i hki
        refine List.nodup_cons.2 ⟨?_, hn.2⟩
        intro hm
        obtain ⟨e, he, hev⟩ := List.mem_map.1 hm
        exact htail e he (fun h => by have : k < e.1 := hs.1 e he; omega) hev
      · rename_i h1 h2
        refine List.nodup_cons.2 ⟨?_, ih hs.2 hn.2 htail⟩
        intro hm
        obtain ⟨e, he, hev⟩ := List.mem_map.1 hm
        rcases mem_put_sorted hs.2 he with rfl | ⟨he, -⟩
        · exact hv (k, w) (by simp) (fun h => h2 h.symm) hev.symm
        · exact hn.1 (List.mem_map.2 ⟨e, he, hev⟩)

theorem nodup_erase (f : α → β) {t : Table α} (hn : (t.map (fun e => f e.2)).Nodup) (i : Nat) :
    ((erase t i).map (fun e => f e.2)).Nodup :=
  hn.sublist (List.filter_sublist.map _)

/-- Where no two records share a key, a record of another slot has another key. -/
theorem key_ne_of_nodup (f : α → β) {t : Table α} (hn : (t.map (fun e => f e.2)).Nodup) {i : Nat} {v : α}
    (hv : find t i = some v) : ∀ e ∈ t, e.1 ≠ i → f e.2 ≠ f v := by
  intro e he hi heq
  have := List.inj_on_of_nodup_map hn he (mem_of_find hv) heq
  exact hi (by rw [this])

theorem mem_mapRecords {f : Nat → α → β} {t : Table α} {e : Nat × β} (h : e ∈ mapRecords f t) :
    ∃ v, (e.1, v) ∈ t ∧ e.2 = f e.1 v := by
  obtain ⟨d, hd, rfl⟩ := List.mem_map.1 h
  exact ⟨d.2, hd, rfl⟩

end Sys2Proof.Table
end

section
/-!
SUPPORT. The laws of Safety.lean regrouped for the invariant proofs. `OutsideKept` is what a block leaves outside record memory; `AccountsSound`
are the laws of the meters and the queue, `StockSide` those of the branches, denominations and transfers, `Balanced` those of the pool's figures.
`Ledger b due owed s` holds of a state s that a block has reached from b: `due` is what the pool is still to be credited with before the funds
identity is true again, and `owed` by how much the reserved total is above the refills out. At the end of a block both are 0 (`Sound.ledger`,
`Ledger.sound`).
-/

namespace Sys2Proof.Machine

/-! ## Outside record memory -/

/-- What a block leaves of the state outside record memory: rings, indices and ring fault as they stand, and the laws of the settings in
force and of the marks. -/
structure OutsideKept (s t : State) : Prop where
  requestRing : t.requestRing = s.requestRing
  resultRing : t.resultRing = s.resultRing
  requestProducer : t.requestProducer = s.requestProducer
  requestConsumer : t.requestConsumer = s.requestConsumer
  resultProducer : t.resultProducer = s.resultProducer
  resultConsumer : t.resultConsumer = s.resultConsumer
  ringFault : t.ringFault = s.ringFault
  settings : SettingsInRange s → SettingsInRange t
  marks : MarksLaw s → MarksLaw t

theorem OutsideKept.refl (s : State) : OutsideKept s s :=
  ⟨rfl, rfl, rfl, rfl, rfl, rfl, rfl, id, id⟩

theorem OutsideKept.trans {s t u : State} (h : OutsideKept s t) (k : OutsideKept t u) : OutsideKept s u where
  requestRing := k.requestRing.trans h.requestRing
  resultRing := k.resultRing.trans h.resultRing
  requestProducer := k.requestProducer.trans h.requestProducer
  requestConsumer := k.requestConsumer.trans h.requestConsumer
  resultProducer := k.resultProducer.trans h.resultProducer
  resultConsumer := k.resultConsumer.trans h.resultConsumer
  ringFault := k.ringFault.trans h.ringFault
  settings := k.settings ∘ h.settings
  marks := k.marks ∘ h.marks

/-- A change of record memory alone. -/
theorem OutsideKept.withRecord {b s : State} (h : OutsideKept b s) (r : RecordMemory) : OutsideKept b { s with record := r } :=
  h.trans ⟨rfl, rfl, rfl, rfl, rfl, rfl, rfl, id, id⟩

theorem OutsideKept.raiseAttention {b s : State} (h : OutsideKept b s) : OutsideKept b (raiseAttention s) := by
  refine h.trans ⟨by simp, by simp, by simp, by simp, by simp, by simp, by simp, by simp [SettingsInRange], fun hm => ?_⟩
  refine ⟨by simpa using hm.1, fun ha => ?_⟩
  rw [raiseAttention_attentionMark, Bool.or_eq_true] at ha
  rw [raiseAttention_inForce]
  exact ha.elim hm.2 id

/-! ## The meters and the queue -/

/-- The laws of one meter record: R3, the kinds of its grants (R62, R10), R40, and the ranges of R1. -/
abbrev Meter.Lawful (m : Meter) : Prop :=
  m.loaded = m.ascending + m.credit
    ∧ ((∀ g ∈ m.grantOut, m.kind = kindFor g.kind) ∧ ∀ v ∈ m.lastVoided, m.kind = kindFor v.kind)
    ∧ (m.state = .closing → m.grantOut = none) ∧ m.InRange

/-- The sum of the refills out (R64). -/
def refillsOut (s : State) : Nat :=
  Table.sum (fun _ m => refillOut m) s.record.meters

/-- The laws of the Account Table and the Refill Queue; the reserved total is above the sum of the refills out by `owed`. -/
structure AccountsSound (owed : Int) (s : State) : Prop where
  sorted : Table.Sorted s.record.meters
  meters : ∀ e ∈ s.record.meters, meterSlotOk e.1 ∧ e.2.Lawful
  licences : LicenceLaw s
  reserved : (s.record.pool.reserved : Int) = refillsOut s + owed
  queue : QueueLaw s
  entries : ∀ e ∈ s.record.queue, meterSlotOk e.slot ∧ amountOk e.amount
  peak : s.record.queue.length ≤ s.record.queuePeak ∧ s.record.queuePeak ≤ Config.queuePlaces

/-! ## The branches, denominations and transfers -/

/-- The laws of one branch record: its canonical form, its ranges, and R149. -/
abbrev Branch.Lawful (b : Branch) : Prop :=
  b.Canonical ∧ b.InRange ∧ ∀ l ∈ b.latch, l.latched = b.onHand

/-- The laws of the Branch Table, the Denomination Table, the Stock Unit and the Transfer List. -/
structure StockSide (s : State) : Prop where
  branchesSorted : Table.Sorted s.record.branches
  denominationsSorted : Table.Sorted s.record.denominations
  branches : ∀ e ∈ s.record.branches, branchSlotOk e.1 ∧ e.2.Lawful
  codes : BranchCodeLaw s
  emptySlots : EmptySlotLaw s
  transfers : TransferLaw s
  denominations : ∀ e ∈ s.record.denominations, denominationSlotOk e.1 ∧ within 1 Config.faceMax e.2.face
  entries : ∀ t ∈ s.record.transfers, denominationSlotOk t.denomination ∧ stampsOk t.count ∧ t.age ≤ Config.ageMax

/-! ## The funds -/

/-- The laws of the pool's figures beside a sum of prepaid credit and a stock value, while the pool is still to be credited with `due`:
R102, R108, R95, R96 and R132. -/
structure Balanced (due : Int) (p : Pool) (credit stock : Nat) : Prop where
  one : p.balance = 0 ∨ p.arrears = 0
  identity : ((p.balance + p.reserved + credit + p.franked + stock + p.issued : Nat) : Int) + p.writtenOff + due
    = ((p.deposits + p.arrears : Nat) : Int)
  committed : ((p.balance + p.reserved + credit : Nat) : Int) + due ≤ (Config.totalMax : Int)
  arrears : p.arrears ≤ Config.totalMax
  deposits : p.deposits ≤ Config.totalMax
  franked : p.franked ≤ Config.totalMax
  issued : p.issued ≤ Config.totalMax
  writtenOff : -(Config.totalMax : Int) ≤ p.writtenOff ∧ p.writtenOff ≤ (Config.totalMax : Int)
  stock : stock ≤ Config.totalMax

/-! ## The ledger of a block -/

/-- The laws that hold of a state s that a block has reached from b, `due` and `owed` being what is still to be settled. -/
structure Ledger (b : State) (due owed : Int) (s : State) : Prop where
  outside : OutsideKept b s
  accounts : AccountsSound owed s
  stock : StockSide s
  linked : MeterBranchLaw s
  funds : Balanced due s.record.pool (prepaidCredit s) (stockValue s)

theorem Sound.ledger {s : State} (h : Sound s) : Ledger s 0 0 s := by
  obtain ⟨hms, hbs, hds, -, -, -, -, hbc⟩ := h.canonical
  obtain ⟨hmr, hbr, hdr, hqr, hp1, hp2, htr⟩ := h.records
  obtain ⟨hc, ha, hd, hf, hi, hx⟩ := h.range
  refine ⟨.refl s, ⟨hms, fun e he => ?_, h.licences, ?_, h.queue, hqr, hp1, hp2⟩,
    ⟨hbs, hds, fun e he => ?_, h.branchCodes, h.emptySlots, h.transfers, hdr, htr⟩, h.meterBranches, ?_⟩
  · exact ⟨(hmr e he).1, h.loaded e he, h.kinds e he, h.closing e he, (hmr e he).2⟩
  · have hr := h.reserved
    simp only [ReservedLaw] at hr
    rw [hr, refillsOut]; simp
  · exact ⟨(hbr e he).1, hbc e he, (hbr e he).2, h.counts e he⟩
  · have hid := h.identity
    simp only [FundsIdentity, leftSide, rightSide, committedFunds] at hid hc
    simp only [signedTotalOk, Bool.and_eq_true, decide_eq_true_eq] at hx
    exact ⟨h.pool, by omega, by omega, ha, hd, hf, hi, hx, h.stockValues⟩

/-- A block that leaves nothing to be settled keeps every law. -/
theorem Ledger.sound {b s : State} (h : Ledger b 0 0 s) (hb : Sound b) : Sound s := by
  obtain ⟨-, -, -, hqs, hqc, hrs, hrc, -⟩ := hb.canonical
  obtain ⟨ho, ha, hst, hl, hf⟩ := h
  have hid := hf.identity
  have hcom := hf.committed
  have hx := hf.writtenOff
  exact
    { canonical := by
        refine ⟨ha.sorted, hst.branchesSorted, hst.denominationsSorted, ?_, ?_, ?_, ?_, fun e he => (hst.branches e he).2.1⟩
        · rw [ho.requestRing]; exact hqs
        · rw [ho.requestRing]; exact hqc
        · rw [ho.resultRing]; exact hrs
        · rw [ho.resultRing]; exact hrc
      pool := hf.one
      loaded := fun e he => (ha.meters e he).2.1
      licences := ha.licences
      meterBranches := hl
      branchCodes := hst.codes
      reserved := by have := ha.reserved; simp only [refillsOut] at this; simp only [ReservedLaw]; omega
      queue := ha.queue
      kinds := fun e he => (ha.meters e he).2.2.1
      closing := fun e he => (ha.meters e he).2.2.2.1
      counts := fun e he => (hst.branches e he).2.2.2
      emptySlots := hst.emptySlots
      transfers := hst.transfers
      stockValues := hf.stock
      identity := by simp only [FundsIdentity, leftSide, rightSide, committedFunds]; omega
      range := by
        refine ⟨?_, hf.arrears, hf.deposits, hf.franked, hf.issued, ?_⟩
        · simp only [committedFunds]; omega
        · simp only [signedTotalOk, Bool.and_eq_true, decide_eq_true_eq]; exact hx
      records := by
        refine ⟨fun e he => ⟨(ha.meters e he).1, (ha.meters e he).2.2.2.2⟩,
          fun e he => ⟨(hst.branches e he).1, (hst.branches e he).2.2.1⟩, hst.denominations, ha.entries, ha.peak.1,
          ha.peak.2, hst.entries⟩
      settings := ho.settings hb.settings
      marks := ho.marks hb.marks
      indices := by
        intro hr
        have := hb.indices (ho.ringFault ▸ hr)
        simpa only [requestsInUse, resultsInUse, ho.requestProducer, ho.requestConsumer, ho.resultProducer,
          ho.resultConsumer] using this }

end Sys2Proof.Machine
end

section
/-!
SUPPORT. What each update of the state does to a ledger: one lemma per update.
-/

namespace Sys2Proof.Machine

variable {b s t : State} {due owed due' owed' : Int}

/-! ## What each part of a ledger reads -/

theorem AccountsSound.congr (h : AccountsSound owed s) (hm : t.record.meters = s.record.meters)
    (hq : t.record.queue = s.record.queue) (hk : t.record.queuePeak = s.record.queuePeak)
    (hp : t.record.pool.reserved = s.record.pool.reserved) : AccountsSound owed t := by
  obtain ⟨a1, a2, a3, a4, a5, a6, a7⟩ := h
  refine ⟨?_, ?_, ?_, ?_, ?_, ?_, ?_⟩
  all_goals simpa only [LicenceLaw, refillsOut, QueueLaw, State.meter?, hm, hq, hk, hp] using ‹_›

theorem StockSide.congr (h : StockSide s) (hb : t.record.branches = s.record.branches)
    (hd : t.record.denominations = s.record.denominations) (ht : t.record.transfers = s.record.transfers)
    (hn : t.record.nextTransfer = s.record.nextTransfer) : StockSide t := by
  obtain ⟨s1, s2, s3, s4, s5, s6, s7, s8⟩ := h
  refine ⟨?_, ?_, ?_, ?_, ?_, ?_, ?_, ?_⟩
  all_goals
    simpa only [BranchCodeLaw, EmptySlotLaw, TransferLaw, State.branch?, State.denomination?, hb, hd, ht, hn] using ‹_›

theorem face_congr (hd : t.record.denominations = s.record.denominations) : t.face = s.face := by
  funext d
  simp only [State.face, State.denomination?, hd]

theorem figuresValue_congr (hd : t.record.denominations = s.record.denominations) : figuresValue t = figuresValue s := by
  funext f
  simp only [figuresValue, face_congr hd]

theorem transferValue_congr (hd : t.record.denominations = s.record.denominations) : transferValue t = transferValue s := by
  funext x
  simp only [transferValue, face_congr hd]

theorem stockValue_congr (hb : t.record.branches = s.record.branches)
    (hd : t.record.denominations = s.record.denominations) (ht : t.record.transfers = s.record.transfers) :
    stockValue t = stockValue s := by
  simp only [stockValue, onHandValue, transitValue, figuresValue_congr hd, transferValue_congr hd, hb, ht]

/-- A ledger depends on the state's record memory and on what a block leaves outside it; the device causes, the mode and the day
are in no law. -/
theorem Ledger.congr (h : Ledger b due owed s) (ho : OutsideKept b t) (hm : t.record.meters = s.record.meters)
    (hq : t.record.queue = s.record.queue) (hk : t.record.queuePeak = s.record.queuePeak)
    (hp : t.record.pool = s.record.pool) (hb : t.record.branches = s.record.branches)
    (hd : t.record.denominations = s.record.denominations) (ht : t.record.transfers = s.record.transfers)
    (hn : t.record.nextTransfer = s.record.nextTransfer) : Ledger b due owed t where
  outside := ho
  accounts := h.accounts.congr hm hq hk (by rw [hp])
  stock := h.stock.congr hb hd ht hn
  linked := by simpa only [MeterBranchLaw, State.branch?, hm, hb] using h.linked
  funds := by
    have hf := h.funds
    rwa [← hp, ← stockValue_congr hb hd ht, show prepaidCredit s = prepaidCredit t by simp only [prepaidCredit, hm]] at hf

theorem Ledger.raiseAttention (h : Ledger b due owed s) : Ledger b due owed (raiseAttention s) :=
  h.congr h.outside.raiseAttention (by simp) (by simp) (by simp) (by simp) (by simp) (by simp) (by simp) (by simp)

theorem Ledger.raiseIf {c : Prop} [Decidable c] (h : Ledger b due owed s) :
    Ledger b due owed (if c then Machine.raiseAttention s else s) := by
  split
  · exact h.raiseAttention
  · exact h

theorem Ledger.withDeviceCauses (h : Ledger b due owed s) (c : DeviceCauses) :
    Ledger b due owed { s with record.deviceCauses := c } :=
  h.congr (h.outside.withRecord _) rfl rfl rfl rfl rfl rfl rfl rfl

theorem Ledger.setDeviceCause (h : Ledger b due owed s) (c : DeviceCause) : Ledger b due owed (setDeviceCause c s) :=
  (h.withDeviceCauses _).raiseAttention

theorem Ledger.clearDeviceCause (h : Ledger b due owed s) (c : DeviceCause) : Ledger b due owed (clearDeviceCause c s) :=
  h.withDeviceCauses _

theorem Ledger.withMode (h : Ledger b due owed s) (m : Mode) : Ledger b due owed (s.withMode m) :=
  h.congr (h.outside.withRecord _) rfl rfl rfl rfl rfl rfl rfl rfl

/-! ## The pool -/

/-- A change of the pool's figures. -/
theorem Ledger.withPool (h : Ledger b due owed s) {p : Pool} (hr : (p.reserved : Int) + owed = s.record.pool.reserved + owed')
    (hf : Balanced due' p (prepaidCredit s) (stockValue s)) : Ledger b due' owed' (s.withPool p) where
  outside := h.outside.withRecord _
  accounts :=
    { h.accounts with
      reserved := by
        have := h.accounts.reserved
        show (p.reserved : Int) = refillsOut s + owed'
        omega }
  stock := h.stock.congr rfl rfl rfl rfl
  linked := h.linked
  funds := hf

/-- The ordinary pool debit, of an amount the pool covers (R97). -/
theorem Ledger.debitPool (h : Ledger b due owed s) {n : Nat} (hn : n ≤ s.record.pool.balance) :
    Ledger b (due + n) owed (debitPool n s) := by
  obtain ⟨h1, h2, h3, h4, h5, h6, h7, h8, h9⟩ := h.funds
  exact h.withPool (by simp) ⟨by simp only; omega, by simp only; omega, by simp only; omega, h4, h5, h6, h7, h8, h9⟩

/-- The pool credit before its serving (R99). -/
theorem Ledger.creditPool (h : Ledger b due owed s) (n : Nat) :
    Ledger b (due - n) owed (creditPool n s) := by
  obtain ⟨h1, h2, h3, h4, h5, h6, h7, h8, h9⟩ := h.funds
  have hp : Ledger b (due - n) owed (s.withPool
      { s.record.pool with
        balance := s.record.pool.balance + (n - min s.record.pool.arrears n)
        arrears := s.record.pool.arrears - min s.record.pool.arrears n }) :=
    h.withPool (by simp) ⟨by simp only; omega, by simp only; omega, by simp only; omega, by simp only; omega, h5, h6, h7, h8, h9⟩
  simp only [Machine.creditPool]
  split
  · exact hp.clearDeviceCause _
  · exact hp

/-- The postpaid usage charge of a usage that the franked total already holds and that the totals check passed (R98, R32). -/
theorem Ledger.chargeUsage {n : Nat} (h : Ledger b (-n) owed s) (hc : committedFunds s ≤ Config.totalMax)
    (hv : s.record.pool.arrears + (n - min n s.record.pool.balance) ≤ Config.totalMax) :
    Ledger b 0 owed (chargeUsage n s) := by
  obtain ⟨h1, h2, -, -, h5, h6, h7, h8, h9⟩ := h.funds
  simp only [committedFunds] at hc
  have hp : Ledger b 0 owed (s.withPool
      { s.record.pool with
        balance := s.record.pool.balance - min n s.record.pool.balance
        arrears := s.record.pool.arrears + (n - min n s.record.pool.balance) }) :=
    h.withPool (by simp) ⟨by simp only; omega, by simp only; omega, by simp only; omega, hv, h5, h6, h7, h8, h9⟩
  unfold Machine.chargeUsage chargePaid
  by_cases hs : s.record.pool.arrears = 0 ∧ 0 < n - min n s.record.pool.balance
  · simpa only [if_pos hs] using hp.setDeviceCause .arrears
  · simpa only [if_neg hs] using hp

end Sys2Proof.Machine
end

section
/-! SUPPORT. The ledger under changes of the pool's totals, of one meter record and of the queue's list. -/

namespace Sys2Proof.Machine

variable {b s t : State} {due owed due' owed' : Int}

/-- The franked addition (R101). -/
theorem Ledger.addFranked (h : Ledger b due owed s) {n : Nat} (hn : s.record.pool.franked + n ≤ Config.totalMax) :
    Ledger b (due - n) owed (addFranked n s) := by
  obtain ⟨h1, h2, h3, h4, h5, h6, h7, h8, h9⟩ := h.funds
  exact h.withPool (by simp) ⟨h1, by simp only; omega, by simp only; omega, h4, h5, hn, h7, h8, h9⟩

/-- The written-off addition of an amount that is not negative (R101). -/
theorem Ledger.addWrittenOff (h : Ledger b due owed s) {n : Nat}
    (hn : s.record.pool.writtenOff + n ≤ (Config.totalMax : Int)) : Ledger b (due - n) owed (addWrittenOff n s) := by
  obtain ⟨h1, h2, h3, h4, h5, h6, h7, h8, h9⟩ := h.funds
  exact h.withPool (by simp) ⟨h1, by simp only; omega, by simp only; omega, h4, h5, h6, h7, by simp only; omega, h9⟩

/-- The reserved total gives up the amount of a grant out (R64). -/
theorem Ledger.unreserve (h : Ledger b due owed s) (g : GrantOut) (hg : refillAmount g ≤ s.record.pool.reserved) :
    Ledger b (due + refillAmount g) (owed - refillAmount g) (unreserve g s) := by
  obtain ⟨h1, h2, h3, h4, h5, h6, h7, h8, h9⟩ := h.funds
  have hp := h.withPool (p := { s.record.pool with reserved := s.record.pool.reserved - refillAmount g })
    (due' := due + refillAmount g) (owed' := owed - refillAmount g) (by simp only; omega)
    ⟨h1, by simp only; omega, by simp only; omega, h4, h5, h6, h7, h8, h9⟩
  exact hp.congr (hp.outside.trans (by unfold Machine.unreserve; split <;> exact .withRecord (.refl _) _))
    (by simp [unreserve_record]) (by simp [unreserve_record]) (by simp [unreserve_record]) (by simp [unreserve_record])
    (by simp [unreserve_record]) (by simp [unreserve_record]) (by simp [unreserve_record]) (by simp [unreserve_record])

/-- The pool reserves the amount of a refill (R62). -/
theorem Ledger.reserveFunds (h : Ledger b due owed s) {n : Nat} (hn : n ≤ s.record.pool.balance) :
    Ledger b due (owed + n) (reserveFunds n s) := by
  obtain ⟨h1, h2, h3, h4, h5, h6, h7, h8, h9⟩ := h.funds
  exact h.withPool (by simp only; omega) ⟨by simp only; omega, by simp only; omega, by simp only; omega, h4, h5, h6, h7, h8, h9⟩

/-! ## The meters -/

/-- A figure of the meter of a slot, 0 where the slot is EMPTY. -/
def State.figureAt (s : State) (f : Meter → Nat) (slot : Nat) : Nat :=
  ((s.meter? slot).map f).getD 0

theorem State.figureAt_some {f : Meter → Nat} {slot : Nat} {m : Meter} (h : s.meter? slot = some m) :
    s.figureAt f slot = f m := by
  simp [State.figureAt, h]

theorem State.figureAt_none {f : Meter → Nat} {slot : Nat} (h : s.meter? slot = none) : s.figureAt f slot = 0 := by
  simp [State.figureAt, h]

theorem prepaidCredit_putMeter (h : Table.Sorted s.record.meters) (slot : Nat) (m : Meter) :
    prepaidCredit (s.putMeter slot m) + s.figureAt prepaidShare slot = prepaidCredit s + prepaidShare m :=
  Table.sum_put (fun _ m => prepaidShare m) h slot m

theorem refillsOut_putMeter (h : Table.Sorted s.record.meters) (slot : Nat) (m : Meter) :
    refillsOut (s.putMeter slot m) + s.figureAt refillOut slot = refillsOut s + refillOut m :=
  Table.sum_put (fun _ m => refillOut m) h slot m

theorem prepaidCredit_dropMeter (h : Table.Sorted s.record.meters) (slot : Nat) :
    prepaidCredit (s.dropMeter slot) + s.figureAt prepaidShare slot = prepaidCredit s :=
  Table.sum_erase (fun _ m => prepaidShare m) h slot

theorem refillsOut_dropMeter (h : Table.Sorted s.record.meters) (slot : Nat) :
    refillsOut (s.dropMeter slot) + s.figureAt refillOut slot = refillsOut s :=
  Table.sum_erase (fun _ m => refillOut m) h slot

theorem queued_iff {slot : Nat} : s.queued slot = true ↔ ∃ e ∈ s.record.queue, e.slot = slot := by
  simp [State.queued, List.any_eq_true]

theorem not_queued_iff {slot : Nat} : s.queued slot = false ↔ ∀ e ∈ s.record.queue, e.slot ≠ slot := by
  simp [State.queued, List.any_eq_false]

/-- A meter with a queue entry is PREPAID with no grant out (R80, R94). -/
theorem QueueLaw.of_queued (h : QueueLaw s) {slot : Nat} {m : Meter} (hq : s.queued slot = true)
    (hm : s.meter? slot = some m) : m.grantOut = none ∧ m.kind = .prepaid := by
  obtain ⟨e, he, rfl⟩ := queued_iff.1 hq
  obtain ⟨m', hm', hg, hk⟩ := h.2.2 e he
  obtain rfl : m' = m := Option.some.inj ((Option.mem_def.1 hm').symm.trans hm)
  exact ⟨hg, hk⟩

/-- A slot filled with a lawful record of a licence number of its own, and of a branch that is not EMPTY. -/
theorem Ledger.fillMeter (h : Ledger b due owed s) {slot : Nat} {m : Meter} (hs : meterSlotOk slot = true)
    (hm : m.Lawful) (hl : ∀ e ∈ s.record.meters, e.1 ≠ slot → e.2.licence ≠ m.licence)
    (hb : (s.branch? m.branch).isSome) (hq : s.queued slot = true → m.grantOut = none ∧ m.kind = .prepaid)
    (hd : due' = due + s.figureAt prepaidShare slot - prepaidShare m)
    (ho : owed' = owed + s.figureAt refillOut slot - refillOut m) : Ledger b due' owed' (s.putMeter slot m) := by
  have hcredit := prepaidCredit_putMeter h.accounts.sorted slot m
  have hout := refillsOut_putMeter h.accounts.sorted slot m
  obtain ⟨a1, a2, a3, a4, ⟨a5, a6, a7⟩, a8, a9⟩ := h.accounts
  obtain ⟨h1, h2, h3, h4, h5, h6, h7, h8, h9⟩ := h.funds
  refine ⟨h.outside.withRecord _, ⟨Table.sorted_put a1 _ _, ?_, Table.nodup_put Meter.licence a1 a3 hl, ?_, ⟨a5, a6, ?_⟩, a8, a9⟩,
    h.stock.congr rfl rfl rfl rfl, ?_, ?_⟩
  · intro e he
    rcases Table.mem_put he with rfl | he
    · exact ⟨hs, hm⟩
    · exact a2 e he
  · simp only [State.putMeter_record_pool]; omega
  · intro e he
    rw [State.meter?_putMeter]
    by_cases hes : e.slot = slot
    · rw [if_pos hes]
      exact ⟨m, rfl, hq (queued_iff.2 ⟨e, he, hes⟩)⟩
    · rw [if_neg hes]
      exact a7 e he
  · intro e he
    rcases Table.mem_put he with rfl | he
    · exact hb
    · exact h.linked e he
  · have hv : stockValue (s.putMeter slot m) = stockValue s := rfl
    simp only [State.putMeter_record_pool, hv]
    exact ⟨h1, by omega, by omega, h4, h5, h6, h7, h8, h9⟩

/-- The record of a meter changed, its licence number and its branch standing. -/
theorem Ledger.putMeter (h : Ledger b due owed s) {slot : Nat} {m m' : Meter} (hm : s.meter? slot = some m)
    (hl : m'.Lawful) (hn : m'.licence = m.licence) (hb : m'.branch = m.branch)
    (hq : s.queued slot = true → m'.grantOut = none ∧ m'.kind = .prepaid)
    (hd : due' = due + prepaidShare m - prepaidShare m') (ho : owed' = owed + refillOut m - refillOut m') :
    Ledger b due' owed' (s.putMeter slot m') := by
  have hmem := Table.mem_of_find hm
  refine h.fillMeter (h.accounts.meters _ hmem).1 hl ?_ ?_ hq ?_ ?_
  · rw [hn]; exact Table.key_ne_of_nodup Meter.licence h.accounts.licences hm
  · rw [hb]; exact h.linked _ hmem
  · rw [State.figureAt_some hm]; exact hd
  · rw [State.figureAt_some hm]; exact ho

/-- The record of a meter changed in fields that no sum, no grant and no other record reads. -/
theorem Ledger.touchMeter (h : Ledger b due owed s) {slot : Nat} {m m' : Meter} (hm : s.meter? slot = some m)
    (hl : m'.Lawful) (hsame : m'.licence = m.licence ∧ m'.branch = m.branch ∧ m'.kind = m.kind ∧ m'.credit = m.credit
      ∧ m'.grantOut = m.grantOut) : Ledger b due owed (s.putMeter slot m') := by
  obtain ⟨hn, hb, hk, hc, hg⟩ := hsame
  refine h.putMeter hm hl hn hb (fun hq => ?_) ?_ ?_
  · rw [hg, hk]; exact h.accounts.queue.of_queued hq hm
  · simp only [prepaidShare, hk, hc]; omega
  · simp only [refillOut, hg]; omega

theorem Ledger.lawful (h : Ledger b due owed s) {slot : Nat} {m : Meter} (hm : s.meter? slot = some m) : m.Lawful :=
  (h.accounts.meters _ (Table.mem_of_find hm)).2

theorem Ledger.setMeterCause (h : Ledger b due owed s) (slot : Nat) (c : MeterCause) :
    Ledger b due owed (setMeterCause slot c s) := by
  rcases setMeterCause_cases slot c s with ⟨-, he⟩ | ⟨m, hm, he⟩
  · rw [he]; exact h
  · rw [he]
    have hl := h.lawful hm
    exact (h.touchMeter (m' := { m with causes := m.causes.with c }) hm hl ⟨rfl, rfl, rfl, rfl, rfl⟩).raiseAttention

theorem Ledger.putEvaluated_of (slot : Nat) (m : Meter) (h : Ledger b due owed (s.putMeter slot m.evaluated)) :
    Ledger b due owed (putEvaluated slot m s) :=
  h.raiseIf

/-! ## The queue -/

/-- The queue with some of its entries gone. -/
theorem Ledger.setQueueAfterRemoval (h : Ledger b due owed s) {rest : List QueueEntry} (hr : rest.Sublist s.record.queue) :
    Ledger b due owed (setQueueAfterRemoval rest s) := by
  obtain ⟨a1, a2, a3, a4, ⟨a5, a6, a7⟩, a8, a9, a10⟩ := h.accounts
  have hlen := hr.length_le
  have hq : Ledger b due owed { s with record.queue := rest } :=
    { outside := h.outside.withRecord _
      accounts := ⟨a1, a2, a3, a4, ⟨Nat.le_trans hlen a5, a6.sublist (hr.map _), fun e he => a7 e (hr.subset he)⟩,
        fun e he => a8 e (hr.subset he), Nat.le_trans hlen a9, a10⟩
      stock := h.stock.congr rfl rfl rfl rfl
      linked := h.linked
      funds := h.funds }
  unfold Machine.setQueueAfterRemoval
  dsimp only
  split
  · exact hq.clearDeviceCause _
  · exact hq

/-- An entry of a PREPAID meter with no grant out and no entry joins a queue that has room (R80, R82). -/
theorem Ledger.enqueue (h : Ledger b due owed s) (e : QueueEntry) {m : Meter} (hm : s.meter? e.slot = some m)
    (hk : m.kind = .prepaid) (hg : m.grantOut = none) (hq : s.queued e.slot = false) (ha : amountOk e.amount = true)
    (hr : s.record.queue.length < Config.queuePlaces) :
    Ledger b due owed
      { s with
        record.queue := s.record.queue ++ [e]
        record.queuePeak := max s.record.queuePeak (s.record.queue ++ [e]).length } := by
  obtain ⟨a1, a2, a3, a4, ⟨a5, a6, a7⟩, a8, a9, a10⟩ := h.accounts
  have hnew : ∀ x ∈ s.record.queue.map (·.slot), ∀ y ∈ [e.slot], x ≠ y := by
    intro x hx y hy
    obtain ⟨d, hd, rfl⟩ := List.mem_map.1 hx
    rw [List.mem_singleton.1 hy]
    exact not_queued_iff.1 hq d hd
  refine ⟨h.outside.withRecord _, ⟨a1, a2, a3, a4, ⟨by simp; omega, ?_, ?_⟩, ?_, by simp, by simp; omega⟩,
    h.stock.congr rfl rfl rfl rfl, h.linked, h.funds⟩
  · simp only [List.map_append, List.map_cons, List.map_nil]
    exact List.nodup_append.2 ⟨a6, by simp, hnew⟩
  · intro d hd
    rcases List.mem_append.1 hd with hd | hd
    · exact a7 d hd
    · rw [List.mem_singleton.1 hd]; exact ⟨m, hm, hg, hk⟩
  · intro d hd
    rcases List.mem_append.1 hd with hd | hd
    · exact a8 d hd
    · rw [List.mem_singleton.1 hd]; exact ⟨(a2 _ (Table.mem_of_find hm)).1, ha⟩

theorem Ledger.joinQueue (h : Ledger b due owed s) {slot amount : Nat} {m : Meter} (origin : Origin)
    (hm : s.meter? slot = some m) (hk : m.kind = .prepaid) (hg : m.grantOut = none) (hq : s.queued slot = false)
    (ha : amountOk amount = true) (hr : s.record.queue.length < Config.queuePlaces) :
    Ledger b due owed (joinQueue slot amount origin s) := by
  have hj := h.enqueue { slot := slot, amount := amount, origin := origin, day := s.record.day } hm hk hg hq ha hr
  unfold Machine.joinQueue
  dsimp only
  split
  · exact hj.setDeviceCause _
  · exact hj

end Sys2Proof.Machine
end

section
/-! SUPPORT. The ledger under a change of one branch record, and the spent totals. -/

namespace Sys2Proof.Machine

variable {b s t : State} {due owed due' owed' : Int}

/-! ## The branches -/

/-- Every figure a branch holds, and every counted figure, is of a denomination slot that is not EMPTY (R129). -/
abbrev Branch.FiguresListed (s : State) (x : Branch) : Prop :=
  (∀ f ∈ x.onHand, (s.denomination? f.1).isSome) ∧ ∀ l ∈ x.latch, ∀ f ∈ l.counted, (s.denomination? f.1).isSome

theorem StockSide.listed (h : StockSide s) {slot : Nat} {x : Branch} (hx : s.branch? slot = some x) : x.FiguresListed s :=
  ⟨h.emptySlots.1 _ (Table.mem_of_find hx), h.emptySlots.2.2 _ (Table.mem_of_find hx)⟩

theorem StockSide.lawful (h : StockSide s) {slot : Nat} {x : Branch} (hx : s.branch? slot = some x) : x.Lawful :=
  (h.branches _ (Table.mem_of_find hx)).2

theorem StockSide.slotOk (h : StockSide s) {slot : Nat} {x : Branch} (hx : s.branch? slot = some x) : branchSlotOk slot = true :=
  (h.branches _ (Table.mem_of_find hx)).1

theorem State.isSome_branch?_putBranch (slot : Nat) (x : Branch) {i : Nat} (h : (s.branch? i).isSome) :
    ((s.putBranch slot x).branch? i).isSome := by
  rw [State.branch?_putBranch]
  split
  · rfl
  · exact h

/-- A slot filled with a lawful record of a branch code of its own. -/
theorem StockSide.fillBranch (h : StockSide s) {slot : Nat} {x : Branch} (hs : branchSlotOk slot = true) (hx : x.Lawful)
    (hc : ∀ e ∈ s.record.branches, e.1 ≠ slot → e.2.code ≠ x.code) (hf : x.FiguresListed s) :
    StockSide (s.putBranch slot x) := by
  obtain ⟨s1, s2, s3, s4, ⟨s5, s6, s7⟩, ⟨s8, s9, s10, s11⟩, s12, s13⟩ := h
  refine ⟨Table.sorted_put s1 _ _, s2, ?_, Table.nodup_put Branch.code s1 s4 hc, ⟨?_, s6, ?_⟩, ⟨s8, s9, ?_, s11⟩, s12, s13⟩
  · intro e he
    rcases Table.mem_put he with rfl | he
    · exact ⟨hs, hx⟩
    · exact s3 e he
  · intro e he
    rcases Table.mem_put he with rfl | he
    · exact hf.1
    · exact s5 e he
  · intro e he
    rcases Table.mem_put he with rfl | he
    · exact hf.2
    · exact s7 e he
  · intro e he
    obtain ⟨hn, hne, ho, hd⟩ := s10 e he
    exact ⟨hn, hne, State.isSome_branch?_putBranch slot x ho, State.isSome_branch?_putBranch slot x hd⟩

/-- The record of a branch changed, its code standing. -/
theorem StockSide.putBranch (h : StockSide s) {slot : Nat} {x x' : Branch} (hb : s.branch? slot = some x) (hx : x'.Lawful)
    (hc : x'.code = x.code) (hf : x'.FiguresListed s) : StockSide (s.putBranch slot x') :=
  h.fillBranch (h.slotOk hb) hx (hc ▸ Table.key_ne_of_nodup Branch.code h.codes hb) hf

/-- The value of the stamps on hand at the branch of a slot, 0 where it is EMPTY. -/
def State.valueAt (s : State) (slot : Nat) : Nat :=
  ((s.branch? slot).map (fun x => figuresValue s x.onHand)).getD 0

theorem State.valueAt_some {slot : Nat} {x : Branch} (h : s.branch? slot = some x) :
    s.valueAt slot = figuresValue s x.onHand := by
  simp [State.valueAt, h]

theorem stockValue_putBranch (h : Table.Sorted s.record.branches) (slot : Nat) (x : Branch) :
    stockValue (s.putBranch slot x) + s.valueAt slot = stockValue s + figuresValue s x.onHand := by
  have ho : onHandValue (s.putBranch slot x) + s.valueAt slot = onHandValue s + figuresValue s x.onHand :=
    Table.sum_put (fun _ (x : Branch) => figuresValue s x.onHand) h slot x
  have ht : transitValue (s.putBranch slot x) = transitValue s := rfl
  simp only [stockValue, ht]
  omega

theorem MeterBranchLaw.putBranch (h : MeterBranchLaw s) (slot : Nat) (x : Branch) : MeterBranchLaw (s.putBranch slot x) :=
  fun e he => State.isSome_branch?_putBranch slot x (h e he)

/-- The record of a branch changed, its code and its stamps on hand standing. -/
theorem Ledger.touchBranch (h : Ledger b due owed s) {slot : Nat} {x x' : Branch} (hb : s.branch? slot = some x)
    (hx : x'.Lawful) (hc : x'.code = x.code) (ho : x'.onHand = x.onHand) (hf : x'.FiguresListed s) :
    Ledger b due owed (s.putBranch slot x') where
  outside := h.outside.withRecord _
  accounts := h.accounts.congr rfl rfl rfl rfl
  stock := h.stock.putBranch hb hx hc hf
  linked := h.linked.putBranch slot x'
  funds := by
    have hv := stockValue_putBranch h.stock.branchesSorted slot x'
    rw [State.valueAt_some hb, ho] at hv
    rw [show stockValue (s.putBranch slot x') = stockValue s by omega]
    exact h.funds

theorem Ledger.setBranchCause (h : Ledger b due owed s) (slot : Nat) (c : BranchCause) :
    Ledger b due owed (setBranchCause slot c s) := by
  rcases setBranchCause_cases slot c s with ⟨-, he⟩ | ⟨x, hx, he⟩
  · rw [he]; exact h
  · rw [he]
    have hl := h.stock.lawful hx
    have hf := h.stock.listed hx
    exact (h.touchBranch (x' := { x with causes := x.causes.with c }) hx hl rfl rfl hf).raiseAttention

/-- The spent total of a branch changed within its range. -/
theorem Ledger.withSpent (h : Ledger b due owed s) {slot : Nat} {x : Branch} (hx : s.branch? slot = some x) {w : Nat}
    (hw : w ≤ Config.totalMax) : Ledger b due owed (s.putBranch slot { x with spent := w }) := by
  obtain ⟨hc, ⟨r1, r2, r3, r4, -, r6⟩, hl⟩ := h.stock.lawful hx
  have hf := h.stock.listed hx
  exact h.touchBranch hx ⟨hc, ⟨r1, r2, r3, r4, hw, r6⟩, hl⟩ rfl rfl hf

theorem Ledger.countSpent (h : Ledger b due owed s) (branch amount : Nat) : Ledger b due owed (countSpent branch amount s) := by
  unfold Machine.countSpent addSpent
  split
  · split
    · exact h
    · rename_i x hx
      have hw := h.withSpent hx (Nat.min_le_right (x.spent + amount) Config.totalMax)
      dsimp only
      split
      · exact hw.setBranchCause _ _
      · exact hw
  · exact h

theorem Ledger.reduceSpent (h : Ledger b due owed s) (g : GrantOut) : Ledger b due owed (reduceSpent g s) := by
  unfold Machine.reduceSpent
  split
  · exact h
  · rename_i x hx
    split
    · exact h.withSpent hx (Nat.le_trans (Nat.sub_le _ _) (h.stock.lawful hx).2.1.2.2.2.2.1)
    · exact h

end Sys2Proof.Machine
end

section
/-! SUPPORT. The ledger under the Grant Unit's operations (issue, settlement, void, late settlement) and under serving. -/

namespace Sys2Proof.Machine

variable {b s t : State} {due owed : Int}

/-! ## Counters and numbers -/

theorem countUp_le (c n : Nat) : countUp c n ≤ Config.counterMax :=
  Nat.min_le_right _ _

theorem ageUp_le (n : Nat) : ageUp n ≤ Config.ageMax :=
  Nat.min_le_right _ _

theorem numberOk_iff {n : Nat} : numberOk n = true ↔ 1 ≤ n ∧ n ≤ 65535 := by
  simp only [numberOk, within, Bool.and_eq_true, decide_eq_true_eq]
  rfl

theorem numberOk_nextNumber {n : Nat} (h : numberOk n = true) : numberOk (nextNumber n) = true := by
  rw [numberOk_iff] at h ⊢
  unfold nextNumber
  by_cases hn : n = Config.numberMax
  · rw [if_pos hn]; omega
  · rw [if_neg hn]; simp only [Config.numberMax] at hn; omega

/-! ## What the operations leave of the meters, the queue and the pool -/

@[simp] theorem setQueueAfterRemoval_meters (rest : List QueueEntry) (s : State) :
    (setQueueAfterRemoval rest s).record.meters = s.record.meters := by
  obtain ⟨c, h⟩ := setQueueAfterRemoval_record rest s
  rw [h]

@[simp] theorem setQueueAfterRemoval_queue (rest : List QueueEntry) (s : State) :
    (setQueueAfterRemoval rest s).record.queue = rest := by
  obtain ⟨c, h⟩ := setQueueAfterRemoval_record rest s
  rw [h]

@[simp] theorem setQueueAfterRemoval_pool (rest : List QueueEntry) (s : State) :
    (setQueueAfterRemoval rest s).record.pool = s.record.pool := by
  obtain ⟨c, h⟩ := setQueueAfterRemoval_record rest s
  rw [h]

@[simp] theorem countSpent_meters (branch amount : Nat) (s : State) :
    (countSpent branch amount s).record.meters = s.record.meters :=
  (countSpent_frame branch amount s).1

@[simp] theorem countSpent_pool (branch amount : Nat) (s : State) :
    (countSpent branch amount s).record.pool = s.record.pool :=
  (countSpent_frame branch amount s).2.1

@[simp] theorem countSpent_queue (branch amount : Nat) (s : State) :
    (countSpent branch amount s).record.queue = s.record.queue :=
  (countSpent_frame branch amount s).2.2.1

@[simp] theorem reduceSpent_meters (g : GrantOut) (s : State) : (reduceSpent g s).record.meters = s.record.meters := by
  unfold reduceSpent
  split
  · rfl
  · split <;> rfl

@[simp] theorem reduceSpent_pool (g : GrantOut) (s : State) : (reduceSpent g s).record.pool = s.record.pool := by
  unfold reduceSpent
  split
  · rfl
  · split <;> rfl

@[simp] theorem reduceSpent_queue (g : GrantOut) (s : State) : (reduceSpent g s).record.queue = s.record.queue := by
  unfold reduceSpent
  split
  · rfl
  · split <;> rfl

@[simp] theorem unreserve_meters (g : GrantOut) (s : State) : (unreserve g s).record.meters = s.record.meters := by
  rw [unreserve_record]

@[simp] theorem unreserve_queue (g : GrantOut) (s : State) : (unreserve g s).record.queue = s.record.queue := by
  rw [unreserve_record]

theorem meter?_congr (h : t.record.meters = s.record.meters) (slot : Nat) : t.meter? slot = s.meter? slot := by
  simp only [State.meter?, h]

theorem queued_congr (h : t.record.queue = s.record.queue) (slot : Nat) : t.queued slot = s.queued slot := by
  simp only [State.queued, h]

/-! ## The shares of a record in the sums -/

theorem refillOut_none {m : Meter} (h : m.grantOut = none) : refillOut m = 0 := by
  simp [refillOut, h]

theorem refillOut_some {m : Meter} {g : GrantOut} (h : m.grantOut = some g) : refillOut m = refillAmount g := by
  simp [refillOut, h]

theorem prepaidShare_prepaid {m : Meter} (h : m.kind = .prepaid) : prepaidShare m = m.credit := by
  simp [prepaidShare, h]

theorem prepaidShare_postpaid {m : Meter} (h : m.kind = .postpaid) : prepaidShare m = 0 := by
  simp [prepaidShare, h]

theorem prepaidShare_withGrant (m : Meter) (kind : GrantKind) (amount : Nat) (counted : Bool) (cycle : Byte) (timeout : Nat) :
    prepaidShare (m.withGrant kind amount counted cycle timeout) = prepaidShare m := rfl

theorem prepaidShare_voided (m : Meter) (g : GrantOut) : prepaidShare (m.voided g) = prepaidShare m := rfl

/-- What a grant of a kind moves of the sum of prepaid credit: its amount where it is a refill. -/
def fundsOf (kind : GrantKind) (amount : Nat) : Nat :=
  match kind with
  | .limit => 0
  | .refill => amount

theorem refillAmount_eq (g : GrantOut) : refillAmount g = fundsOf g.kind g.amount := rfl

/-- The share of a record whose credit rose by the amount of a grant of its own kind. -/
theorem prepaidShare_raised {m m' : Meter} {amount : Nat} {kind : GrantKind} (hm : m.kind = kindFor kind) (hk : m'.kind = m.kind)
    (hc : m'.credit = m.credit + amount) : prepaidShare m' = prepaidShare m + fundsOf kind amount := by
  cases kind <;> simp_all [prepaidShare, kindFor, fundsOf]

/-- Where the reserved total is the sum of the refills out it holds the amount of each of them. -/
theorem Ledger.reserved_ge (h : Ledger b due 0 s) {slot : Nat} {m : Meter} {g : GrantOut} (hm : s.meter? slot = some m)
    (hg : m.grantOut = some g) : refillAmount g ≤ s.record.pool.reserved := by
  have hs := Table.le_sum (fun _ m => refillOut m) hm
  have hr := h.accounts.reserved
  rw [refillOut_some hg] at hs
  simp only [refillsOut] at hr
  omega

/-! ## Issue, settlement, void, late settlement -/

theorem Meter.Lawful.withGrant {m : Meter} (h : m.Lawful) {kind : GrantKind} (hk : m.kind = kindFor kind)
    (hc : m.state ≠ .closing) (amount : Nat) (counted : Bool) (cycle : Byte) (timeout : Nat) :
    (m.withGrant kind amount counted cycle timeout).Lawful := by
  obtain ⟨h1, ⟨-, h3⟩, -, r1, r2, r3, r4, r5, r6, r7, r8, r9, r10, r11⟩ := h
  refine ⟨h1, ⟨?_, h3⟩, fun h => absurd h hc, r1, r2, r3, r4, r5, r6, r7, r8, r9, numberOk_nextNumber r10, r11⟩
  intro g hg
  obtain rfl := Option.some.inj hg
  exact hk

/-- A grant issued to a meter with none out, of its own kind, that is not closing and has no entry in the queue (R62). -/
theorem Ledger.issueGrant (h : Ledger b due owed s) {slot : Nat} {m : Meter} (hm : s.meter? slot = some m) {kind : GrantKind}
    (hk : m.kind = kindFor kind) (hc : m.state ≠ .closing) (hg : m.grantOut = none) (hq : s.queued slot = false) {amount : Nat}
    (ha : kind = .refill → amount ≤ s.record.pool.balance) : Ledger b due owed (issueGrant slot m kind amount s) := by
  have hl := h.lawful hm
  cases kind with
  | limit =>
    refine h.putMeter hm (hl.withGrant hk hc ..) rfl rfl (by simp [hq]) ?_ ?_
    · rw [prepaidShare_withGrant]; omega
    · rw [refillOut_none hg]; simp [refillOut, Meter.withGrant, refillAmount]
  | refill =>
    have hr := (h.reserveFunds (ha rfl)).countSpent m.branch amount
    refine hr.putMeter (m := m) ?_ (hl.withGrant hk hc ..) rfl rfl ?_ ?_ ?_
    · rw [meter?_congr (countSpent_meters ..)]; exact hm
    · rw [queued_congr (countSpent_queue ..)]
      exact fun h => absurd (hq.symm.trans h) (by simp)
    · rw [prepaidShare_withGrant]; omega
    · rw [refillOut_none hg]; simp [refillOut, Meter.withGrant, refillAmount]

theorem Meter.Lawful.settled {m : Meter} (h : m.Lawful) {n : Nat} (hn : m.holds n = true) :
    ({ m.loadedWith n with grantOut := none } : Meter).evaluated.Lawful
      ∧ ({ m.loadedWith n with lastVoided := none } : Meter).evaluated.Lawful := by
  obtain ⟨h1, ⟨h2, h3⟩, h4, r1, r2, r3, r4, r5, r6, r7, -, r9⟩ := h
  have hcredit : registerOk (m.credit + n) = true := by simpa [registerOk, Meter.holds] using hn
  have hloaded : m.loaded + n = m.ascending + (m.credit + n) := by omega
  exact ⟨⟨hloaded, ⟨by simp, h3⟩, fun _ => rfl, r1, r2, r3, r4, r5, r6, r7, hcredit, r9⟩,
    ⟨hloaded, ⟨h2, by simp [Meter.evaluated]⟩, h4, r1, r2, r3, r4, r5, r6, r7, hcredit, r9⟩⟩

/-- A grant out settled (R69). -/
theorem Ledger.settleGrant (h : Ledger b due 0 s) {slot : Nat} {m : Meter} (hm : s.meter? slot = some m) {g : GrantOut}
    (hg : m.grantOut = some g) (hn : m.holds g.amount = true) : Ledger b due 0 (settleGrant slot m g s) := by
  have hl := h.lawful hm
  have hkind : m.kind = kindFor g.kind := hl.2.1.1 g hg
  have hshare := prepaidShare_raised (m := m) (m' := ({ m.loadedWith g.amount with grantOut := none } : Meter).evaluated)
    (amount := g.amount) hkind rfl rfl
  refine Ledger.putEvaluated_of _ _ ((h.unreserve g (h.reserved_ge hm hg)).putMeter (m := m) ?_ (hl.settled hn).1 rfl rfl ?_ ?_ ?_)
  · rw [meter?_congr (unreserve_meters ..)]; exact hm
  · rw [queued_congr (unreserve_queue ..)]
    exact fun hq => ⟨rfl, (h.accounts.queue.of_queued hq hm).2⟩
  · rw [hshare, refillAmount_eq]; omega
  · rw [refillOut_some hg, refillOut_none (by rfl)]; omega

theorem Meter.Lawful.voided {m : Meter} (h : m.Lawful) {g : GrantOut} (hg : m.grantOut = some g) : (m.voided g).Lawful := by
  obtain ⟨h1, ⟨h2, -⟩, -, r1, r2, r3, r4, r5, r6, r7, r8, r9, r10, r11, r12, r13, r14, -⟩ := h
  refine ⟨h1, ⟨by simp [Meter.voided], ?_⟩, fun _ => rfl, r1, r2, r3, r4, r5, r6, r7, r8, r9, r10, r11, r12, r13, r14, countUp_le _ _⟩
  intro v hv
  obtain rfl := Option.some.inj hv
  exact h2 g hg

/-- A grant out voided, up to its pool credit (R71). -/
theorem Ledger.voidGrant (h : Ledger b due 0 s) {slot : Nat} {m : Meter} (hm : s.meter? slot = some m) {g : GrantOut}
    (hg : m.grantOut = some g) : Ledger b (due + refillAmount g) 0 (voidGrant slot m g s) := by
  have hl := h.lawful hm
  have hr := (h.unreserve g (h.reserved_ge hm hg)).reduceSpent g
  refine (hr.putMeter (m := m) ?_ (hl.voided hg) rfl rfl ?_ ?_ ?_).raiseAttention
  · rw [meter?_congr ((reduceSpent_meters ..).trans (unreserve_meters ..))]; exact hm
  · rw [queued_congr ((reduceSpent_queue ..).trans (unreserve_queue ..))]
    exact fun hq => ⟨rfl, (h.accounts.queue.of_queued hq hm).2⟩
  · rw [prepaidShare_voided]; omega
  · rw [refillOut_some hg, refillOut_none (by rfl)]; omega

/-- A late settlement that is made (R75, R76). -/
theorem Ledger.lateSettle (h : Ledger b due owed s) {slot : Nat} {m : Meter} (hm : s.meter? slot = some m) {v : Voided}
    (hv : m.lastVoided = some v) (hn : m.holds v.amount = true) (ht : lateSettle slot m v s = some t) :
    Ledger b due owed t := by
  have hl := h.lawful hm
  have hkind : m.kind = kindFor v.kind := hl.2.1.2 v hv
  have hshare := prepaidShare_raised (m := m) (m' := ({ m.loadedWith v.amount with lastVoided := none } : Meter).evaluated)
    (amount := v.amount) hkind rfl rfl
  have hqueue := fun hq => h.accounts.queue.of_queued hq hm
  rcases lateSettle_some ht with ⟨hk, rfl⟩ | ⟨hk, hp, rfl⟩
  · refine Ledger.putEvaluated_of _ _ (h.putMeter hm (hl.settled hn).2 rfl rfl hqueue ?_ ?_)
    · rw [hshare, hk]; simp [fundsOf]
    · simp [refillOut, Meter.loadedWith]
  · refine Ledger.putEvaluated_of _ _ (((h.debitPool hp).countSpent m.branch v.amount).putMeter (m := m) ?_ (hl.settled hn).2 rfl
      rfl ?_ ?_ ?_)
    · rw [meter?_congr (countSpent_meters ..)]; exact hm
    · rw [queued_congr (countSpent_queue ..)]; exact hqueue
    · rw [hshare, hk, fundsOf]; omega
    · simp [refillOut, Meter.loadedWith]

/-- A meter that is not closing with a grant out enters DISPUTE (R41, R77). -/
theorem Ledger.enterDispute (h : Ledger b due owed s) {slot : Nat} {m m' : Meter} (hm : s.meter? slot = some m)
    (hl : m'.Lawful) (hsame : m'.licence = m.licence ∧ m'.branch = m.branch ∧ m'.kind = m.kind ∧ m'.credit = m.credit
      ∧ m'.grantOut = m.grantOut) : Ledger b due owed (enterDispute slot m' s) := by
  obtain ⟨h1, h2, -, h4⟩ := hl
  exact (h.touchMeter (m' := { m' with state := .dispute, causes := m'.causes.with .dispute }) hm
    ⟨h1, h2, by simp, h4⟩ hsame).raiseAttention

theorem Meter.Lawful.refusedWith {m : Meter} (h : m.Lawful) (st : Status) : (m.refusedWith st).Lawful := by
  unfold Meter.refusedWith
  split
  · exact h
  · obtain ⟨h1, h2, h3, r1, r2, r3, r4, r5, r6, r7, r8, r9, r10, -, r12⟩ := h
    exact ⟨h1, h2, h3, r1, r2, r3, r4, r5, r6, r7, r8, r9, r10, countUp_le _ _, r12⟩

/-- A refusal counted on a meter (R22, R52). -/
theorem Ledger.refuseMeter (h : Ledger b due owed s) {slot : Nat} {m : Meter} (hm : s.meter? slot = some m) (st : Status) :
    Ledger b due owed (s.putMeter slot (m.refusedWith st)) := by
  refine h.touchMeter hm ((h.lawful hm).refusedWith st) ?_
  unfold Meter.refusedWith
  split <;> exact ⟨rfl, rfl, rfl, rfl, rfl⟩

/-! ## Serving -/

/-- A round of serving leaves nothing more to be settled than it found (R86 to R89). -/
theorem Ledger.serveRound (h : Ledger b due owed s) (hr : serveRound s = .issued t ∨ serveRound s = .removed t) :
    Ledger b due owed t := by
  have hdrop : ∀ {e : QueueEntry} {rest}, s.record.queue = e :: rest → Ledger b due owed (Machine.setQueueAfterRemoval rest s) :=
    fun hq => h.setQueueAfterRemoval (hq ▸ List.sublist_cons_self _ _)
  rcases serveRound_cases s with he | ⟨e, rest, m, g, reason, a, hq, hm, hel, -, ha, he⟩ |
      ⟨e, rest, m, st, f, hq, hm, -, -, he⟩ | ⟨e, rest, m, hq, hm, -, he⟩ | ⟨e, rest, hq, -, he⟩
  · simp [he] at hr
  · simp only [he, Round.issued.injEq, reduceCtorEq, or_false] at hr
    subst hr
    obtain ⟨-, hnd, hmeters⟩ := h.accounts.queue
    rw [hq] at hnd
    have hfree : (Machine.setQueueAfterRemoval rest s).queued e.slot = false := by
      refine not_queued_iff.2 fun x hx heq => ?_
      rw [setQueueAfterRemoval_queue] at hx
      exact (List.nodup_cons.1 hnd).1 (List.mem_map.2 ⟨x, hx, heq⟩)
    obtain ⟨hgo, hkind⟩ := h.accounts.queue.of_queued (queued_iff.2 ⟨e, by simp [hq], rfl⟩) hm
    have hact : m.state = .active := by
      simp only [eligible, Bool.and_eq_true, decide_eq_true_eq] at hel
      exact hel.1.1
    refine ((hdrop hq).issueGrant ?_ hkind (by simp [hact]) hgo hfree (fun _ => ?_)).setMeterCause _ _
    · rw [meter?_congr (setQueueAfterRemoval_meters ..)]; exact hm
    · rw [setQueueAfterRemoval_pool]; exact servedAmount_le ha
  · simp only [he, Round.removed.injEq, reduceCtorEq, false_or] at hr
    subst hr
    refine ((hdrop hq).refuseMeter ?_ st).setMeterCause _ _
    rw [meter?_congr (setQueueAfterRemoval_meters ..)]; exact hm
  · simp only [he, Round.removed.injEq, reduceCtorEq, false_or] at hr
    subst hr
    exact (hdrop hq).setMeterCause _ _
  · simp only [he, Round.removed.injEq, reduceCtorEq, false_or] at hr
    subst hr
    exact hdrop hq

theorem Ledger.serveQueue (h : Ledger b due owed s) : Ledger b due owed (serveQueue s).state :=
  serveQueue_keeps (P := Ledger b due owed) (fun _ _ hs hr => hs.serveRound hr) s h

/-- A pool credit with its serving settles what was due (R99). -/
theorem Ledger.creditAndServe {n : Nat} (h : Ledger b n 0 s) : Ledger b 0 0 (creditAndServe n s).state := by
  unfold Machine.creditAndServe
  split
  · rename_i hn; subst hn; exact h
  · have hc := h.creditPool n
    rw [Int.sub_self] at hc
    exact hc.serveQueue

/-- A void with its pool credit (R71). -/
theorem Ledger.voidAndCredit (h : Ledger b 0 0 s) {slot : Nat} {m : Meter} (hm : s.meter? slot = some m) {g : GrantOut}
    (hg : m.grantOut = some g) : Ledger b 0 0 (voidAndCredit slot m g s) := by
  have hv := h.voidGrant hm hg
  rw [Int.zero_add] at hv
  exact hv.creditAndServe

end Sys2Proof.Machine
end

section
/-! SUPPORT. The ledger under the emptying of a meter slot: removal of its queue entry, and RETIRE METER. -/

namespace Sys2Proof.Machine

variable {b s t : State} {due owed : Int}

/-! ## Answers that are one of two -/

/-- What holds of the state of both branches holds of the state of an answer that is one of them. -/
theorem ite_state {P : State → Prop} {c : Prop} [Decidable c] {x y : State × Reply} (hx : c → P x.1) (hy : ¬c → P y.1) :
    P (if c then x else y).1 := by
  split
  · exact hx ‹_›
  · exact hy ‹_›

/-! ## A slot that becomes EMPTY -/

theorem removeEntry_sound (h : Ledger b due owed s) (slot : Nat) :
    Ledger b due owed (removeEntry slot s) ∧ (removeEntry slot s).queued slot = false
      ∧ (removeEntry slot s).record.meters = s.record.meters := by
  unfold removeEntry
  split
  · refine ⟨h.setQueueAfterRemoval List.filter_sublist, not_queued_iff.2 fun e he => ?_, by simp⟩
    rw [setQueueAfterRemoval_queue] at he
    simpa using (List.mem_filter.1 he).2
  · exact ⟨h, by simp_all, rfl⟩

theorem setQueueAfterRemoval_dropMeter (rest : List QueueEntry) (slot : Nat) (s : State) :
    setQueueAfterRemoval rest (s.dropMeter slot) = (setQueueAfterRemoval rest s).dropMeter slot := by
  cases rest <;> rfl

theorem emptySlot_eq (slot : Nat) (s : State) : emptySlot slot s = (removeEntry slot s).dropMeter slot := by
  have hq : (s.dropMeter slot).queued slot = s.queued slot := rfl
  unfold emptySlot removeEntry
  rw [hq]
  split
  · exact setQueueAfterRemoval_dropMeter _ _ _
  · rfl

/-- A slot with no entry and no refill out becomes EMPTY. -/
theorem Ledger.dropMeter (h : Ledger b due owed s) {slot : Nat} {m : Meter} (hm : s.meter? slot = some m)
    (hr : refillOut m = 0) (hq : s.queued slot = false) : Ledger b (due + prepaidShare m) owed (s.dropMeter slot) := by
  have hcredit := prepaidCredit_dropMeter h.accounts.sorted slot
  have hout := refillsOut_dropMeter h.accounts.sorted slot
  rw [State.figureAt_some hm] at hcredit hout
  obtain ⟨a1, a2, a3, a4, ⟨a5, a6, a7⟩, a8, a9⟩ := h.accounts
  obtain ⟨h1, h2, h3, h4, h5, h6, h7, h8, h9⟩ := h.funds
  refine ⟨h.outside.withRecord _, ⟨Table.sorted_erase a1 _, fun e he => a2 e (Table.mem_erase he).1,
    Table.nodup_erase Meter.licence a3 _, ?_, ⟨a5, a6, fun e he => ?_⟩, a8, a9⟩, h.stock.congr rfl rfl rfl rfl,
    fun e he => h.linked e (Table.mem_erase he).1, ?_⟩
  · simp only [State.dropMeter_record_pool]; omega
  · rw [State.meter?_dropMeter_ne _ (not_queued_iff.1 hq e he)]
    exact a7 e he
  · have hv : stockValue (s.dropMeter slot) = stockValue s := rfl
    simp only [State.dropMeter_record_pool, hv]
    exact ⟨h1, by omega, by omega, h4, h5, h6, h7, h8, h9⟩

/-- A slot with no refill out becomes EMPTY and loses its entry; a PREPAID credit is still to go somewhere (R6, R90). -/
theorem Ledger.emptySlot (h : Ledger b due owed s) {slot : Nat} {m : Meter} (hm : s.meter? slot = some m)
    (hr : refillOut m = 0) : Ledger b (due + prepaidShare m) owed (emptySlot slot s) := by
  obtain ⟨h1, h2, h3⟩ := removeEntry_sound h slot
  rw [emptySlot_eq]
  exact h1.dropMeter ((meter?_congr h3 slot).trans hm) hr h2

/-! ## A slot that serving leaves alone -/

theorem setMeterCause_meter?_ne {slot j : Nat} (hj : j ≠ slot) (c : MeterCause) (s : State) :
    (setMeterCause slot c s).meter? j = s.meter? j := by
  rcases setMeterCause_cases slot c s with ⟨-, he⟩ | ⟨m, -, he⟩
  · rw [he]
  · rw [he, State.meter?_raiseAttention, State.meter?_putMeter, if_neg hj]

@[simp] theorem setMeterCause_queue (slot : Nat) (c : MeterCause) (s : State) :
    (setMeterCause slot c s).record.queue = s.record.queue := by
  rcases setMeterCause_cases slot c s with ⟨-, he⟩ | ⟨m, -, he⟩ <;> rw [he]
  simp

@[simp] theorem setMeterCause_pool (slot : Nat) (c : MeterCause) (s : State) :
    (setMeterCause slot c s).record.pool = s.record.pool := by
  rcases setMeterCause_cases slot c s with ⟨-, he⟩ | ⟨m, -, he⟩ <;> rw [he]
  simp

/-- A slot without an entry keeps its record, and X its value. -/
def Unserved (slot : Nat) (m : Option Meter) (x : Int) (s : State) : Prop :=
  s.queued slot = false ∧ s.meter? slot = m ∧ s.record.pool.writtenOff = x

theorem Unserved.congr {slot : Nat} {m : Option Meter} {x : Int} (h : Unserved slot m x s)
    (hq : t.record.queue.Sublist s.record.queue) (hm : t.meter? slot = s.meter? slot)
    (hx : t.record.pool.writtenOff = s.record.pool.writtenOff) : Unserved slot m x t :=
  ⟨not_queued_iff.2 fun e he => not_queued_iff.1 h.1 e (hq.subset he), hm.trans h.2.1, hx.trans h.2.2⟩

/-- A round of serving leaves a slot without an entry, and X, as they stand. -/
theorem Unserved.serveRound {slot : Nat} {m : Option Meter} {x : Int} (h : Unserved slot m x s)
    (hr : serveRound s = .issued t ∨ serveRound s = .removed t) : Unserved slot m x t := by
  have hne : ∀ {e rest}, s.record.queue = e :: rest → slot ≠ e.slot :=
    fun hq heq => not_queued_iff.1 h.1 _ (by rw [hq]; exact List.mem_cons_self) heq.symm
  rcases serveRound_cases s with he | ⟨e, rest, m', g, reason, a, hq, -, -, -, -, he⟩ |
      ⟨e, rest, m', st, f, hq, -, -, -, he⟩ | ⟨e, rest, m', hq, -, -, he⟩ | ⟨e, rest, hq, -, he⟩
  · simp [he] at hr
  · simp only [he, Round.issued.injEq, reduceCtorEq, or_false] at hr
    obtain ⟨c, y, hmeters, hpool, hqueue, -⟩ := issueGrant_frame e.slot m' .refill a (setQueueAfterRemoval rest s)
    subst hr
    refine h.congr ?_ ?_ ?_
    · simp [issueHead, hqueue, hq]
    · rw [issueHead, setMeterCause_meter?_ne (hne hq), State.meter?, hmeters, Table.find_put_ne _ _ (hne hq)]
      simp [State.meter?]
    · simp [issueHead, hpool]
  · simp only [he, Round.removed.injEq, reduceCtorEq, false_or] at hr
    subst hr
    refine h.congr ?_ ?_ ?_
    · simp [refuseHead, hq]
    · rw [refuseHead, setMeterCause_meter?_ne (hne hq), State.meter?_putMeter, if_neg (hne hq)]
      exact meter?_congr (by simp) slot
    · simp [refuseHead]
  · simp only [he, Round.removed.injEq, reduceCtorEq, false_or] at hr
    subst hr
    refine h.congr (by simp [hq]) ?_ (by simp)
    rw [setMeterCause_meter?_ne (hne hq)]
    exact meter?_congr (by simp) slot
  · simp only [he, Round.removed.injEq, reduceCtorEq, false_or] at hr
    subst hr
    exact h.congr (by simp [hq]) (meter?_congr (by simp) slot) (by simp)

theorem Unserved.creditAndServe {slot : Nat} {m : Option Meter} {x : Int} (h : Unserved slot m x s) (n : Nat) :
    Unserved slot m x (creditAndServe n s).state := by
  unfold Machine.creditAndServe
  split
  · exact h
  · obtain ⟨c, hc⟩ := creditPool_record n s
    refine serveQueue_keeps (fun _ _ hs hr => Unserved.serveRound hs hr) _ (h.congr (by simp [hc]) ?_ (by simp [hc]))
    exact meter?_congr (by simp [hc]) slot

/-! ## RETIRE METER -/

theorem voidGrant_meters (slot : Nat) (m : Meter) (g : GrantOut) (s : State) :
    (voidGrant slot m g s).record.meters = Table.put s.record.meters slot (m.voided g) := by
  simp [voidGrant]

theorem voidGrant_queue (slot : Nat) (m : Meter) (g : GrantOut) (s : State) :
    (voidGrant slot m g s).record.queue = s.record.queue := by
  simp [voidGrant]

theorem voidGrant_pool (slot : Nat) (m : Meter) (g : GrantOut) (s : State) :
    (voidGrant slot m g s).record.pool = { s.record.pool with reserved := s.record.pool.reserved - refillAmount g } := by
  simp [voidGrant, unreserve_record]

/-- A meter with a grant out has no entry in the queue (R80). -/
theorem Ledger.not_queued (h : Ledger b due owed s) {slot : Nat} {m : Meter} (hm : s.meter? slot = some m) {g : GrantOut}
    (hg : m.grantOut = some g) : s.queued slot = false := by
  cases hq : s.queued slot with
  | false => rfl
  | true =>
    have := (h.accounts.queue.of_queued hq hm).1
    rw [hg] at this
    cases this

/-- Step 1 of R15: the meter keeps its credit and has no refill out, and X stands. -/
theorem Ledger.retireVoid (h : Ledger b 0 0 s) {slot : Nat} {m : Meter} (hm : s.meter? slot = some m) :
    Ledger b 0 0 (retireVoid slot m s)
      ∧ ∃ m', (retireVoid slot m s).meter? slot = some m' ∧ refillOut m' = 0 ∧ prepaidShare m' = prepaidShare m
        ∧ (retireVoid slot m s).record.pool.writtenOff = s.record.pool.writtenOff := by
  unfold Machine.retireVoid
  cases hg : m.grantOut with
  | none => exact ⟨h, m, hm, refillOut_none hg, rfl, rfl⟩
  | some g =>
    have hu : Unserved slot (some (m.voided g)) s.record.pool.writtenOff (Machine.voidGrant slot m g s) :=
      ⟨(queued_congr (voidGrant_queue ..) slot).trans (h.not_queued hm hg), by simp [State.meter?, voidGrant_meters],
        by rw [voidGrant_pool]⟩
    obtain ⟨-, h2, h3⟩ := hu.creditAndServe (refillAmount g)
    exact ⟨h.voidAndCredit hm hg, m.voided g, h2, refillOut_none rfl, rfl, h3⟩

theorem Ledger.retire (h : Ledger b 0 0 s) {slot : Nat} {m : Meter} (hm : s.meter? slot = some m)
    (hx : s.record.pool.writtenOff + prepaidShare m ≤ (Config.totalMax : Int)) : Ledger b 0 0 (retire slot m s) := by
  obtain ⟨h1, m', hm', hr, hp, hw⟩ := h.retireVoid hm
  have h2 := h1.addWrittenOff (n := prepaidShare m) (by rw [hw]; exact hx)
  have h3 := h2.emptySlot (m := m') hm' hr
  rw [hp, show (0 : Int) - prepaidShare m + prepaidShare m = 0 by omega] at h3
  unfold Machine.retire
  dsimp only
  split
  · exact h3.serveQueue
  · exact h3

theorem Ledger.retireMeter (h : Ledger b 0 0 s) (slot : Nat) : Ledger b 0 0 (retireMeter slot s).1 := by
  unfold Machine.retireMeter
  refine ite_state (fun _ => h) fun _ => ite_state (fun _ => h) fun _ => ?_
  cases hm : s.meter? slot with
  | none => exact h
  | some m =>
    refine ite_state (fun _ => h) fun hx => h.retire hm ?_
    have hw := h.funds.writtenOff
    cases hk : m.kind with
    | prepaid => rw [prepaidShare_prepaid hk]; simp only [hk, true_and] at hx; omega
    | postpaid => rw [prepaidShare_postpaid hk]; omega

end Sys2Proof.Machine
end

section
/-! SUPPORT. The ledger under ENROL METER, SET METER, REASSIGN METER, CLOSE METER and READ METER. -/

namespace Sys2Proof.Machine

variable {b s t : State} {due owed : Int}

/-! ## ENROL METER -/

theorem Meter.Lawful.evaluated {m : Meter} (h : m.Lawful) : m.evaluated.Lawful := h

theorem not_licenceHeld {licence : Nat} {own : Option Nat} (h : licenceHeld s licence own = false) :
    ∀ e ∈ s.record.meters, some e.1 ≠ own → e.2.licence ≠ licence := by
  intro e he ho hl
  simp only [licenceHeld, List.any_eq_false] at h
  exact h e he (by simp [hl, ho])

/-- The record of an enrolment whose fields are in range is lawful (R7, R8). -/
theorem enrolled_lawful {e : Enrolment} (he : enrolmentOk e = true) (hi : SettingsInRange s) (kind : MeterKind) (sub : SubMode)
    (cond : Conditioning) : (enrolled s e kind sub cond).Lawful := by
  simp only [enrolmentOk, Bool.and_eq_true] at he
  obtain ⟨⟨⟨⟨⟨⟨⟨⟨⟨⟨h1, h2⟩, -⟩, -⟩, -⟩, h3⟩, h4⟩, h5⟩, h6⟩, h7⟩, h8⟩ := he
  have hint : within 1 60 (if e.interval = 0 then s.inForce.reportInterval else e.interval) = true := by
    split
    · exact hi.2.2.2.2
    · simp only [within, Bool.and_eq_true, decide_eq_true_eq] at h6 ⊢; omega
  refine ⟨rfl, ⟨by simp [enrolled], by simp [enrolled]⟩, fun _ => rfl, h1, h2, h3, h4, h5, hint, by simp [enrolled], h8, h7,
    rfl, ?_, ?_, ?_, ?_, ?_⟩ <;> simp [enrolled]

theorem lowestEmpty_meter {slot : Nat} (h : Table.lowestEmpty s.record.meters Config.meterSlots = some slot) :
    meterSlotOk slot = true ∧ s.meter? slot = none := by
  obtain ⟨h1, h2, -⟩ := Table.lowestEmpty_spec h
  exact ⟨by simpa [meterSlotOk] using h2, h1⟩

/-- An EMPTY slot has no entry in the queue (R80). -/
theorem QueueLaw.not_queued (h : QueueLaw s) {slot : Nat} (hm : s.meter? slot = none) : s.queued slot = false := by
  refine not_queued_iff.2 fun e he heq => ?_
  obtain ⟨m, hm', -⟩ := h.2.2 e he
  rw [heq, hm] at hm'
  cases hm'

theorem Ledger.enrolMeter (h : Ledger b 0 0 s) (hi : SettingsInRange s) (e : Enrolment) : Ledger b 0 0 (enrolMeter e s).1 := by
  unfold Machine.enrolMeter
  refine ite_state (fun _ => h) fun _ => ite_state (fun _ => h) fun hok => ite_state (fun _ => h) fun _ =>
    ite_state (fun _ => h) fun hb => ite_state (fun _ => h) fun hn => ?_
  split
  · exact h
  · rename_i slot kind sub cond hslot hkind hsub hcond
    refine ite_state (fun _ => h) fun hc => Ledger.putEvaluated_of _ _ ?_
    obtain ⟨hs, hm⟩ := lowestEmpty_meter hslot
    have hcov : openingDebit kind e.descending ≤ s.record.pool.balance := by simpa [covers] using hc
    refine (h.debitPool hcov).fillMeter hs (enrolled_lawful (by simpa using hok) hi kind sub cond).evaluated ?_ ?_ ?_ ?_ ?_
    · exact fun x hx _ => not_licenceHeld (s := s) (licence := e.licence) (own := none) (by simpa using hn) x hx (by simp)
    · show (s.branch? e.branch).isSome = true
      simpa [Option.isSome_iff_ne_none] using hb
    · exact fun hq => absurd (h.accounts.queue.not_queued hm) (by simpa using show s.queued slot = true from hq)
    · rw [State.figureAt_none (by exact hm)]
      cases kind <;> simp [openingDebit, prepaidShare, enrolled]
    · rw [State.figureAt_none (by exact hm)]; rfl
  · exact h

/-! ## SET METER -/

theorem getD_ifPresent {ok : Nat → Bool} {o : Option Nat} {n : Nat} (h : ifPresent ok o = true) (hn : ok n = true) :
    ok (o.getD n) = true := by
  cases o with
  | none => exact hn
  | some x => exact h

/-- The record of a SET METER whose changes are in range is lawful; one that changes the kind has no grant out (R9, R10). -/
theorem Meter.Lawful.changed {m : Meter} (h : m.Lawful) {c : MeterChanges} (hc : meterChangesOk c = true)
    (hk : codedOr m.kind c.kind ≠ m.kind → m.grantOut = none) : (m.changed c).Lawful := by
  obtain ⟨h1, ⟨h2, h3⟩, h4, r1, r2, r3, r4, r5, r6, r7⟩ := h
  simp only [meterChangesOk, Bool.and_eq_true] at hc
  obtain ⟨⟨⟨⟨⟨⟨⟨c1, -⟩, -⟩, -⟩, c2⟩, c3⟩, c4⟩, c5⟩ := hc
  refine ⟨h1, ?_, h4, getD_ifPresent c1 r1, r2, getD_ifPresent c2 r3, getD_ifPresent c3 r4, getD_ifPresent c4 r5,
    getD_ifPresent c5 r6, r7⟩
  by_cases hs : codedOr m.kind c.kind = m.kind
  · simp only [Meter.changed, hs, if_true]
    exact ⟨h2, h3⟩
  · simp only [Meter.changed, hs, if_false, hk hs]
    simp

theorem not_licenceClash {slot : Nat} {m : Meter} {c : MeterChanges} (hl : LicenceLaw s) (hm : s.meter? slot = some m)
    (hc : licenceClash s slot c = false) : ∀ e ∈ s.record.meters, e.1 ≠ slot → e.2.licence ≠ (m.changed c).licence := by
  intro e he hne
  unfold licenceClash at hc
  cases hlic : c.licence with
  | none => simpa [Meter.changed, hlic] using Table.key_ne_of_nodup Meter.licence hl hm e he hne
  | some l =>
    rw [hlic] at hc
    simpa [Meter.changed, hlic] using not_licenceHeld hc e he (by simpa using hne)

theorem Ledger.putChanged (slot : Nat) (m : Meter) (c : MeterChanges) (he : Ledger b due owed (s.putMeter slot (m.changed c).evaluated))
    (hp : Ledger b due owed (s.putMeter slot (m.changed c))) : Ledger b due owed (putChanged slot m c s) := by
  unfold Machine.putChanged
  split
  · exact Ledger.putEvaluated_of _ _ he
  · exact hp

/-- The changed record written, with what the change of kind moves still due (R9, R10). -/
theorem Ledger.changeMeter (h : Ledger b due owed s) {slot : Nat} {m : Meter} (hm : s.meter? slot = some m) {c : MeterChanges}
    (hc : meterChangesOk c = true) (hclash : licenceClash s slot c = false)
    (hk : codedOr m.kind c.kind ≠ m.kind → m.grantOut = none ∧ s.queued slot = false) :
    Ledger b (due + prepaidShare m - prepaidShare (m.changed c)) owed (Machine.putChanged slot m c s) := by
  have hl := (h.lawful hm).changed hc (fun hne => (hk hne).1)
  have hok := (h.accounts.meters _ (Table.mem_of_find hm)).1
  have hbr := h.linked _ (Table.mem_of_find hm)
  have hlic := not_licenceClash h.accounts.licences hm hclash
  have hqueue : s.queued slot = true → m.grantOut = none ∧ codedOr m.kind c.kind = .prepaid := by
    intro hq
    obtain ⟨hg, hp⟩ := h.accounts.queue.of_queued hq hm
    by_cases hs : codedOr m.kind c.kind = m.kind
    · exact ⟨hg, hs.trans hp⟩
    · exact absurd hq (by simp [(hk hs).2])
  have hrefill : refillOut (m.changed c) = refillOut m := rfl
  refine Ledger.putChanged slot m c (h.fillMeter hok hl.evaluated hlic hbr hqueue ?_ ?_) (h.fillMeter hok hl hlic hbr hqueue ?_ ?_)
  all_goals rw [State.figureAt_some hm]
  · rfl
  · show owed = owed + refillOut m - refillOut (m.changed c); omega
  · omega

theorem kindChangeRefusal_none {slot : Nat} {m : Meter} (h : kindChangeRefusal s slot m = none) :
    m.grantOut = none ∧ s.queued slot = false := by
  unfold kindChangeRefusal at h
  split at h
  · cases h
  split at h
  · cases h
  split at h
  · cases h
  rename_i hg
  split at h
  · cases h
  rename_i hq
  exact ⟨by simpa using hg, by simpa using hq⟩

theorem Ledger.applyChanges (h : Ledger b 0 0 s) {slot : Nat} {m : Meter} (hm : s.meter? slot = some m) {c : MeterChanges}
    (hc : meterChangesOk c = true) (hclash : licenceClash s slot c = false) : Ledger b 0 0 (applyChanges slot m c s).1 := by
  unfold Machine.applyChanges
  refine ite_state (fun hs => ?_) fun hs => ?_
  · have hp := h.changeMeter hm hc hclash (fun hne => absurd hs hne)
    rw [show prepaidShare (m.changed c) = prepaidShare m by simp [prepaidShare, Meter.changed, hs],
      show (0 : Int) + prepaidShare m - prepaidShare m = 0 by omega] at hp
    exact hp
  · split
    · exact h
    · rename_i hr
      obtain ⟨hg, hq⟩ := kindChangeRefusal_none hr
      split
      · rename_i hk
        have hold : m.kind = .prepaid := by cases hmk : m.kind <;> simp_all
        have hp := h.changeMeter hm hc hclash (fun _ => ⟨hg, hq⟩)
        rw [prepaidShare_prepaid hold, prepaidShare_postpaid (m := m.changed c) hk] at hp
        simp only [Int.zero_add, Int.sub_zero, Nat.cast_zero] at hp
        exact hp.creditAndServe
      · rename_i hk
        refine ite_state (fun _ => h) fun hcov => ?_
        have hold : m.kind = .postpaid := by cases hmk : m.kind <;> simp_all
        have hp := (h.debitPool (n := m.credit) (by simpa [covers] using hcov)).changeMeter hm hc hclash (fun _ => ⟨hg, hq⟩)
        rw [prepaidShare_postpaid hold, prepaidShare_prepaid (m := m.changed c) hk,
          show (m.changed c).credit = m.credit from rfl,
          show (0 : Int) + m.credit + ((0 : Nat) : Int) - m.credit = 0 by omega] at hp
        exact hp

theorem Ledger.setMeter (h : Ledger b 0 0 s) (slot : Nat) (c : MeterChanges) : Ledger b 0 0 (setMeter slot c s).1 := by
  unfold Machine.setMeter
  refine ite_state (fun _ => h) fun _ => ite_state (fun _ => h) fun _ => ?_
  cases hm : s.meter? slot with
  | none => exact h
  | some m =>
    exact ite_state (fun _ => h) fun hc => ite_state (fun _ => h) fun hl => ite_state (fun _ => h) fun _ =>
      h.applyChanges hm (by simpa using hc) (by simpa using hl)

/-! ## REASSIGN METER, CLOSE METER, READ METER -/

theorem Ledger.reassignMeter (h : Ledger b 0 0 s) (slot branch : Nat) : Ledger b 0 0 (reassignMeter slot branch s).1 := by
  unfold Machine.reassignMeter
  refine ite_state (fun _ => h) fun _ => ite_state (fun _ => h) fun _ => ?_
  cases hm : s.meter? slot with
  | none => exact h
  | some m =>
    refine ite_state (fun _ => h) fun hbr => ite_state (fun _ => h) fun hb => ite_state (fun _ => h) fun _ => ?_
    obtain ⟨h1, h2, h3, r1, -, r3⟩ := h.lawful hm
    have hlic := Table.key_ne_of_nodup Meter.licence h.accounts.licences hm
    have hqueue := fun hq => h.accounts.queue.of_queued (slot := slot) hq hm
    refine h.fillMeter (h.accounts.meters _ (Table.mem_of_find hm)).1 ⟨h1, h2, h3, r1, by simpa using hbr, r3⟩ hlic
      (by simpa [Option.isSome_iff_ne_none] using hb) hqueue ?_ ?_
    · rw [State.figureAt_some hm]; show (0 : Int) = 0 + prepaidShare m - prepaidShare m; omega
    · rw [State.figureAt_some hm]; show (0 : Int) = 0 + refillOut m - refillOut m; omega

theorem Ledger.closeMeter (h : Ledger b 0 0 s) (slot : Nat) : Ledger b 0 0 (closeMeter slot s).1 := by
  unfold Machine.closeMeter
  refine ite_state (fun _ => h) fun _ => ite_state (fun _ => h) fun _ => ?_
  cases hm : s.meter? slot with
  | none => exact h
  | some m =>
    have hclose : Ledger b 0 0
        (if m.grantOut.isSome = true then (s, refuse .grantOut)
          else (s.putMeter slot { m with state := .closing }, done .none)).1 := by
      refine ite_state (fun _ => h) fun hg => ?_
      obtain ⟨h1, h2, -, h4⟩ := h.lawful hm
      exact h.touchMeter (m' := { m with state := .closing }) hm ⟨h1, h2, fun _ => by simpa using hg, h4⟩ ⟨rfl, rfl, rfl, rfl, rfl⟩
    dsimp only
    split
    · exact h
    · exact h
    · exact hclose
    · exact hclose

theorem Ledger.readMeter (h : Ledger b 0 0 s) (slot : Nat) (take : Coded Bool) : Ledger b 0 0 (readMeter slot take s).1 := by
  unfold Machine.readMeter
  refine ite_state (fun _ => h) fun _ => ite_state (fun _ => h) fun _ => ?_
  cases take with
  | unknown => exact h
  | value takes =>
    cases hm : s.meter? slot with
    | none => exact h
    | some m =>
      dsimp only
      split
      · obtain ⟨h1, h2, h3, r1, r2, r3, r4, r5, r6, r7, r8, r9, r10, -⟩ := h.lawful hm
        exact h.touchMeter (m' := m.countersTaken) hm
          ⟨h1, h2, h3, r1, r2, r3, r4, r5, r6, r7, r8, r9, r10, Nat.zero_le _, Nat.zero_le _, Nat.zero_le _, Nat.zero_le _,
            Nat.zero_le _⟩ ⟨rfl, rfl, rfl, rfl, rfl⟩
      · exact h

end Sys2Proof.Machine
end

section
/-! SUPPORT. The ledger under the requests of refills and limits, of the queue, and under METER REPORT and RESOLVE METER. -/

namespace Sys2Proof.Machine

variable {b s t : State} {due owed : Int}

/-! ## Refills and limits: the decision -/

/-- The decision on a refill: a join holds an amount in range and finds room, an issue is covered by the pool (R55 to R61). -/
theorem decideRefill_cases (s : State) (m : Meter) (origin : Origin) (carried amount : Nat) :
    (∃ st f, decideRefill s m origin carried amount = .refused st f)
      ∨ (∃ held, decideRefill s m origin carried amount = .join held ∧ amountOk held = true
          ∧ s.record.queue.length < Config.queuePlaces)
      ∨ ∃ a r, decideRefill s m origin carried amount = .issue a r ∧ a ≤ s.record.pool.balance := by
  unfold decideRefill
  cases hc : computeGrant s.inForce.refillStep (allowanceOf s m.branch) m amount with
  | refused st f => exact .inl ⟨st, f, rfl⟩
  | grant g reason =>
    obtain ⟨-, -, -, -, -, hok, -⟩ := computeGrant_grant hc
    have hheld : amountOk (heldAmount carried amount) = true := by
      unfold heldAmount
      split
      · assumption
      · exact hok
    have hjoin : joinOrFull s origin (heldAmount carried amount) = .refused .queueFull .none
        ∨ joinOrFull s origin (heldAmount carried amount) = .join (heldAmount carried amount)
          ∧ s.record.queue.length < Config.queuePlaces := by
      unfold joinOrFull
      split
      · rename_i hroom
        refine .inr ⟨rfl, ?_⟩
        cases origin <;> simp only [queueRoom, decide_eq_true_eq] at hroom <;> omega
      · exact .inl rfl
    have hjoined : (∃ st f, joinOrFull s origin (heldAmount carried amount) = .refused st f)
        ∨ (∃ held, joinOrFull s origin (heldAmount carried amount) = .join held ∧ amountOk held = true
            ∧ s.record.queue.length < Config.queuePlaces) :=
      hjoin.imp (fun h => ⟨_, _, h⟩) (fun h => ⟨_, h.1, hheld, h.2⟩)
    dsimp only
    unfold placeRefill
    split
    · split
      · rename_i hcov
        exact .inr (.inr ⟨_, _, rfl, by simpa [covers] using hcov⟩)
      · split
        · exact .inr (.inr ⟨_, _, rfl, Nat.div_mul_le_self _ _⟩)
        · exact hjoined.imp id .inl
    · exact hjoined.imp id .inl

/-- The decision on a limit: issued or refused, never joined (R57, R60). -/
theorem decideLimit_cases (s : State) (m : Meter) (amount : Nat) :
    (∃ st f, decideLimit s m amount = .refused st f) ∨ ∃ a r, decideLimit s m amount = .issue a r := by
  unfold decideLimit
  split
  · exact .inl ⟨_, _, rfl⟩
  · split
    · exact .inl ⟨_, _, rfl⟩
    · exact .inr ⟨_, _, rfl⟩

/-! ## REFILL REQUEST and LIMIT REQUEST -/

theorem requestRefusal_none {slot : Nat} {m : Meter} {kind : GrantKind} {held : Bool}
    (h : requestRefusal s slot m kind held = none) :
    m.state = .active ∧ m.grantOut = none ∧ s.queued slot = false ∧ m.kind = kindFor kind := by
  unfold requestRefusal at h
  cases hs : m.state with
  | active =>
    simp only [hs] at h
    split at h
    · cases h
    split at h
    · cases h
    rename_i hg
    split at h
    · cases h
    rename_i hq
    split at h
    · cases h
    rename_i hk
    exact ⟨rfl, by simpa using hg, by simpa using hq, by simpa using hk⟩
  | overdue => simp [hs] at h
  | dispute => simp [hs] at h
  | closing => simp [hs] at h

theorem Ledger.actOnRequest (h : Ledger b 0 0 s) {slot : Nat} {m : Meter} (hm : s.meter? slot = some m) (kind : GrantKind)
    (held : Bool) (carried amount : Nat) :
    Ledger b 0 0 (actOnRequest slot m kind (hostDecision s slot m kind held carried amount) s).1 := by
  unfold hostDecision
  cases hr : requestRefusal s slot m kind held with
  | some st => exact h.refuseMeter hm st
  | none =>
    obtain ⟨hact, hg, hq, hk⟩ := requestRefusal_none hr
    have hc : m.state ≠ .closing := by simp [hact]
    cases kind with
    | refill =>
      rcases decideRefill_cases s m .host carried amount with ⟨st, f, he⟩ | ⟨n, he, ha, hroom⟩ | ⟨a, r, he, ha⟩ <;>
        simp only [decideHost, he]
      · exact h.refuseMeter hm st
      · exact h.joinQueue .host hm hk hg hq ha hroom
      · exact h.issueGrant hm hk hc hg hq (fun _ => ha)
    | limit =>
      rcases decideLimit_cases s m amount with ⟨st, f, he⟩ | ⟨a, r, he⟩ <;> simp only [decideHost, he]
      · exact h.refuseMeter hm st
      · exact h.issueGrant hm hk hc hg hq (fun hne => by cases hne)

theorem Ledger.grantRequest (h : Ledger b 0 0 s) (kind : GrantKind) (slot amount : Nat) :
    Ledger b 0 0 (grantRequest kind slot amount s).1 := by
  unfold Machine.grantRequest
  refine ite_state (fun _ => h) fun _ => ?_
  cases hm : s.meter? slot with
  | none => exact h
  | some m =>
    refine ite_state (fun _ => h) fun _ => ?_
    unfold answerRequest
    split
    · exact h
    · exact h.actOnRequest hm kind _ _ _

/-! ## LOAD CONFIRM, CANCEL GRANT and the load timer -/

theorem Meter.Lawful.mismatched {m : Meter} (h : m.Lawful) :
    ({ m with mismatches := countUp m.mismatches 1 } : Meter).Lawful := by
  obtain ⟨h1, h2, h3, r1, r2, r3, r4, r5, r6, r7, r8, r9, r10, r11, r12, -, r14⟩ := h
  exact ⟨h1, h2, h3, r1, r2, r3, r4, r5, r6, r7, r8, r9, r10, r11, r12, countUp_le _ _, r14⟩

theorem Ledger.confirmOut (h : Ledger b 0 0 s) {slot : Nat} {m : Meter} (hm : s.meter? slot = some m) {g : GrantOut}
    (hg : m.grantOut = some g) (total : Nat) : Ledger b 0 0 (confirmOut slot m g total s).1 := by
  unfold Machine.confirmOut
  refine ite_state (fun hn => h.settleGrant hm hg hn.2) fun _ => ite_state (fun _ => h.voidAndCredit hm hg) fun _ => ?_
  exact h.touchMeter hm (h.lawful hm).mismatched ⟨rfl, rfl, rfl, rfl, rfl⟩

theorem Ledger.confirmVoided (h : Ledger b 0 0 s) {slot : Nat} {m : Meter} (hm : s.meter? slot = some m) {v : Voided}
    (hv : m.lastVoided = some v) (total : Nat) : Ledger b 0 0 (confirmVoided slot m v total s).1 := by
  unfold Machine.confirmVoided
  refine ite_state (fun hn => ?_) fun _ => h
  cases hs : Machine.lateSettle slot m v s with
  | some s' => exact h.lateSettle hm hv hn.2 hs
  | none => exact h.enterDispute hm (h.lawful hm) ⟨rfl, rfl, rfl, rfl, rfl⟩

theorem Ledger.loadConfirm (h : Ledger b 0 0 s) (slot number total : Nat) :
    Ledger b 0 0 (loadConfirm slot number total s).1 := by
  unfold Machine.loadConfirm
  refine ite_state (fun _ => h) fun _ => ite_state (fun _ => h) fun _ => ?_
  cases hm : s.meter? slot with
  | none => exact h
  | some m =>
    dsimp only
    unfold confirm
    split
    · rename_i g _ hg
      exact ite_state (fun _ => h.confirmOut hm hg total) fun _ => h
    · rename_i v _ hv
      exact ite_state (fun _ => h.confirmVoided hm hv total) fun _ => h
    · exact h

theorem Ledger.cancelGrant (h : Ledger b 0 0 s) (slot number : Nat) : Ledger b 0 0 (cancelGrant slot number s).1 := by
  unfold Machine.cancelGrant
  refine ite_state (fun _ => h) fun _ => ite_state (fun _ => h) fun _ => ?_
  cases hm : s.meter? slot with
  | none => exact h
  | some m =>
    dsimp only
    cases hg : m.grantOut with
    | none => exact h
    | some g => exact ite_state (fun _ => h.voidAndCredit hm hg) fun _ => h

theorem Ledger.expire (h : Ledger b 0 0 s) (slot : Nat) : Ledger b 0 0 (expire slot s) := by
  unfold Machine.expire
  cases hm : s.meter? slot with
  | none => exact h
  | some m =>
    dsimp only
    cases hg : m.grantOut with
    | none => exact h
    | some g =>
      dsimp only
      split
      · exact h.voidAndCredit hm hg
      · exact h

/-! ## CANCEL QUEUED and READ QUEUE -/

theorem Ledger.cancelQueued (h : Ledger b 0 0 s) (slot : Nat) : Ledger b 0 0 (cancelQueued slot s).1 := by
  unfold Machine.cancelQueued
  refine ite_state (fun _ => h) fun _ => ite_state (fun _ => h) fun _ => ite_state (fun _ => h) fun _ => ?_
  split
  · exact h
  · have hr := (removeEntry_sound h slot).1
    dsimp only
    split
    · exact hr.serveQueue
    · exact hr

theorem Ledger.readQueue (h : Ledger b 0 0 s) (start : Nat) : Ledger b 0 0 (readQueue start s).1 := by
  unfold Machine.readQueue
  refine ite_state (fun _ => h) fun _ => ite_state (fun _ => h) fun _ => ?_
  obtain ⟨a1, a2, a3, a4, a5, a6, -⟩ := h.accounts
  exact ⟨h.outside.withRecord _, ⟨a1, a2, a3, a4, a5, a6, Nat.le_refl _, a5.1⟩, h.stock.congr rfl rfl rfl rfl, h.linked, h.funds⟩

/-! ## METER REPORT -/

theorem usageFits_iff {kind : MeterKind} {usage : Nat} :
    usageFits kind usage s = true ↔ s.record.pool.franked + usage ≤ Config.totalMax
      ∧ (kind = .postpaid → s.record.pool.arrears + (usage - chargePaid usage s) ≤ Config.totalMax) := by
  cases kind <;> simp [usageFits]

/-- The settlement a total calls for is of the meter's grant out or last voided grant, and within the credit capacity (R33). -/
theorem settlementFor_cases (m : Meter) (total : Nat) :
    settlementFor m total = .none
      ∨ (∃ g, settlementFor m total = .grant g ∧ m.grantOut = some g ∧ m.holds g.amount = true)
      ∨ ∃ v, settlementFor m total = .late v ∧ m.lastVoided = some v ∧ m.holds v.amount = true := by
  unfold settlementFor
  cases h1 : stepOneApplies m total with
  | some g =>
    refine .inr (.inl ⟨g, rfl, ?_⟩)
    unfold stepOneApplies at h1
    cases hg : m.grantOut with
    | none => simp [hg] at h1
    | some g' =>
      simp only [hg] at h1
      split at h1
      · rename_i hh; cases h1; exact ⟨rfl, hh.2⟩
      · cases h1
  | none =>
    cases h2 : stepTwoApplies m total with
    | none => exact .inl rfl
    | some v =>
      refine .inr (.inr ⟨v, rfl, ?_⟩)
      unfold stepTwoApplies at h2
      cases hv : m.lastVoided with
      | none => simp [hv] at h2
      | some v' =>
        simp only [hv] at h2
        split at h2
        · rename_i hh; cases h2; exact ⟨rfl, hh.2⟩
        · cases h2

/-- What a settlement made first leaves: the laws, the meter's kind and ascending register, and a usage that fits (R33 to R35). -/
theorem Ledger.settleFor (h : Ledger b 0 0 s) {slot : Nat} {m : Meter} (hm : s.meter? slot = some m) {total : Nat}
    (ht : settleFor slot m s (settlementFor m total) = some t) :
    Ledger b 0 0 t ∧ ∃ m', t.meter? slot = some m' ∧ m'.kind = m.kind ∧ m'.ascending = m.ascending
      ∧ ∀ usage, usageFits m.kind usage s = true → usageFits m'.kind usage t = true := by
  have hl := h.lawful hm
  rcases settlementFor_cases m total with he | ⟨g, he, hg, hn⟩ | ⟨v, he, hv, hn⟩ <;> rw [he] at ht <;>
    simp only [Machine.settleFor] at ht
  · cases ht
    exact ⟨h, m, hm, rfl, rfl, fun _ hu => hu⟩
  · cases ht
    refine ⟨h.settleGrant hm hg hn, ({ m.loadedWith g.amount with grantOut := none } : Meter).evaluated,
      by simp [State.meter?, settleGrant_record], rfl, rfl, fun usage hu => ?_⟩
    rw [usageFits_iff] at hu ⊢
    simpa [settleGrant_record, Meter.loadedWith, chargePaid] using hu
  · refine ⟨h.lateSettle hm hv hn ht, ({ m.loadedWith v.amount with lastVoided := none } : Meter).evaluated, ?_⟩
    rcases lateSettle_some ht with ⟨hk, rfl⟩ | ⟨hk, hp, rfl⟩
    · refine ⟨by simp [State.meter?], rfl, rfl, fun usage hu => ?_⟩
      rw [usageFits_iff] at hu ⊢
      simpa [Meter.loadedWith, chargePaid] using hu
    · refine ⟨by simp [State.meter?], rfl, rfl, fun usage hu => ?_⟩
      have hprepaid : m.kind = .prepaid := by rw [hl.2.1.2 v hv, hk]; rfl
      rw [usageFits_iff] at hu ⊢
      simp only [putEvaluated_record, State.putMeter_record_pool, countSpent_pool]
      exact ⟨hu.1, fun hpost => by simp [Meter.loadedWith, hprepaid] at hpost⟩

/-- The record after an accepted report (R37): the reported registers make up the loaded total. -/
theorem Meter.Lawful.reported {m : Meter} (h : m.Lawful) (q : Half) {a d : Nat} (ha : ascendingOk a = true)
    (hd : registerOk d = true) (hp : stepThreePasses m a d = true) : (m.reported q a d).Lawful := by
  obtain ⟨h1, h2, h3, r1, r2, r3, r4, r5, r6, -, -, -, r10, r11, r12, r13, -, r15⟩ := h
  simp only [stepThreePasses, Bool.and_eq_true, decide_eq_true_eq] at hp
  refine ⟨hp.1.1.symm, h2, fun hc => h3 ?_, r1, r2, r3, r4, r5, r6, Nat.zero_le _, hd, ha, r10, r11, r12, r13, countUp_le _ _, r15⟩
  simp only [Meter.reported] at hc
  split at hc
  · cases hc
  · exact hc

/-- The settlement of an accepted report: what the meter used is franked, and charged to the pool of a POSTPAID one (R37 to R39). -/
theorem Ledger.settleReport (h : Ledger b 0 0 s) {slot : Nat} {m : Meter} (hm : s.meter? slot = some m) (q : Half) {a d : Nat}
    (ha : ascendingOk a = true) (hd : registerOk d = true) (hp : stepThreePasses m a d = true)
    (hu : usageFits m.kind (a - m.ascending) s = true) : Ledger b 0 0 (settleReport slot m q a d s) := by
  have hl := h.lawful hm
  have hl' := (hl.reported q ha hd hp).evaluated
  rw [usageFits_iff] at hu
  have hq : s.queued slot = true → m.grantOut = none ∧ m.kind = .prepaid := fun hq => h.accounts.queue.of_queued hq hm
  have hput : Ledger b (0 + prepaidShare m - prepaidShare (m.reported q a d)) 0 (putEvaluated slot (m.reported q a d) s) :=
    Ledger.putEvaluated_of _ _ (h.putMeter hm hl' rfl rfl hq rfl
      (show (0 : Int) = 0 + refillOut m - refillOut m by omega))
  have hfranked := hput.addFranked (n := a - m.ascending) (by simpa using hu.1)
  simp only [stepThreePasses, Bool.and_eq_true, decide_eq_true_eq] at hp
  have hloaded := hl.1
  unfold Machine.settleReport chargeFor
  cases hk : m.kind with
  | prepaid =>
    have hc := prepaidShare_prepaid hk
    have hc' : prepaidShare (m.reported q a d) = d := prepaidShare_prepaid (m := m.reported q a d) hk
    rw [hc, hc'] at hfranked
    have hzero : (0 : Int) + m.credit - d - ((a - m.ascending : Nat) : Int) = 0 := by omega
    rw [hzero] at hfranked
    exact hfranked
  | postpaid =>
    have hc := prepaidShare_postpaid hk
    have hc' : prepaidShare (m.reported q a d) = 0 := prepaidShare_postpaid (m := m.reported q a d) hk
    rw [hc, hc'] at hfranked
    simp only [Nat.cast_zero, Int.add_zero, Int.sub_zero, Int.zero_sub] at hfranked
    refine hfranked.chargeUsage ?_ (by simpa [Machine.addFranked, chargePaid] using hu.2 hk)
    have hcredit := prepaidCredit_putMeter h.accounts.sorted slot (m.reported q a d).evaluated
    rw [State.figureAt_some hm, hc, show prepaidShare (m.reported q a d).evaluated = 0 from hc'] at hcredit
    have hcom := h.funds.committed
    have heq : prepaidCredit (Machine.addFranked (a - m.ascending) (putEvaluated slot (m.reported q a d) s))
        = prepaidCredit (s.putMeter slot (m.reported q a d).evaluated) := by
      simp [prepaidCredit, Machine.addFranked]
    simp only [committedFunds, heq]
    simp only [Machine.addFranked, State.withPool_record_pool, putEvaluated_record, State.putMeter_record_pool]
    omega

/-- The retirement of a closing meter, whose credit goes to the pool (R40). -/
theorem Ledger.retireClosing (h : Ledger b 0 0 s) {slot : Nat} {m : Meter} (hm : s.meter? slot = some m)
    (hc : m.state = .closing) : Ledger b 0 0 (retireClosing slot m.credit m.kind s) := by
  have he := h.emptySlot hm (refillOut_none ((h.lawful hm).2.2.1 hc))
  rw [Int.zero_add] at he
  have hserve : prepaidShare m = 0 → Ledger b 0 0 (if headIs s slot then (Machine.serveQueue (Machine.emptySlot slot s)).state
      else Machine.emptySlot slot s) := by
    intro hz
    rw [hz] at he
    split
    · exact he.serveQueue
    · exact he
  unfold Machine.retireClosing
  cases hk : m.kind with
  | postpaid => exact hserve (prepaidShare_postpaid hk)
  | prepaid =>
    rw [prepaidShare_prepaid hk] at he hserve
    dsimp only
    split
    · rename_i hz
      exact hserve hz
    · exact he.creditAndServe

theorem Ledger.topUp (h : Ledger b 0 0 s) (slot : Nat) : Ledger b 0 0 (topUp slot s).1 := by
  unfold Machine.topUp
  cases hm : s.meter? slot with
  | none => exact h
  | some m =>
    dsimp only
    split
    · rename_i hdue
      simp only [topUpDue, Bool.and_eq_true, decide_eq_true_eq, Bool.not_eq_true', Option.isNone_iff_eq_none] at hdue
      obtain ⟨⟨⟨⟨⟨⟨hk, -⟩, hact⟩, -⟩, hg⟩, hq⟩, -⟩ := hdue
      unfold topUpDecision
      rcases decideRefill_cases s m .auto m.headroom.toNat (substituted (effective s m) m m.headroom.toNat) with
        ⟨st, f, he⟩ | ⟨n, he, ha, hroom⟩ | ⟨a, r, he, ha⟩ <;> simp only [he, actOnTopUp]
      · unfold refusedTopUp
        dsimp only
        split
        · exact (h.refuseMeter hm st).setMeterCause _ _
        · exact (h.refuseMeter hm st).setMeterCause _ _
      · exact h.joinQueue .auto hm hk hg hq ha hroom
      · exact (h.issueGrant (kind := .refill) hm hk (by simp [hact]) hg hq (fun _ => ha)).setMeterCause _ _
    · exact h

theorem chargeFor_meters (kind : MeterKind) (usage : Nat) (s : State) :
    (chargeFor kind usage s).record.meters = s.record.meters := by
  unfold chargeFor
  cases kind with
  | prepaid => rfl
  | postpaid =>
    obtain ⟨c, hc⟩ := chargeUsage_record usage s
    simp only [hc]

theorem settleReport_meter? (slot : Nat) (m : Meter) (q : Half) (a d : Nat) (s : State) :
    (settleReport slot m q a d s).meter? slot = some (m.reported q a d).evaluated := by
  unfold settleReport
  dsimp only
  rw [meter?_congr (chargeFor_meters ..)]
  simp [addFranked, State.meter?]

theorem Ledger.acceptReport (h : Ledger b 0 0 s) {slot : Nat} {m : Meter} (hm : s.meter? slot = some m) (first : SettledFirst)
    (q : Half) {a d : Nat} (ha : ascendingOk a = true) (hd : registerOk d = true) (hp : stepThreePasses m a d = true)
    (hu : usageFits m.kind (a - m.ascending) s = true) : Ledger b 0 0 (acceptReport slot m first q a d s).1 := by
  have hr := h.settleReport hm q ha hd hp hu
  unfold Machine.acceptReport
  dsimp only
  split
  · rename_i hc
    refine hr.retireClosing (settleReport_meter? slot m q a d s) ?_
    have hc' : m.state = .closing := by simpa using hc
    simp [Meter.reported, Meter.evaluated, hc']
  · exact hr.topUp slot

theorem Ledger.reportOn (h : Ledger b 0 0 s) {slot : Nat} {m : Meter} (hm : s.meter? slot = some m) (q : Half) {a d : Nat}
    (ha : ascendingOk a = true) (hd : registerOk d = true) : Ledger b 0 0 (reportOn slot m q a d s).1 := by
  unfold Machine.reportOn
  split
  · obtain ⟨h1, h2, h3, r1, r2, r3, r4, r5, r6, r7, r8, r9, r10, r11, -, r13⟩ := h.lawful hm
    exact h.touchMeter (m' := { m with stale := countUp m.stale 1 }) hm
      ⟨h1, h2, h3, r1, r2, r3, r4, r5, r6, r7, r8, r9, r10, r11, countUp_le _ _, r13⟩ ⟨rfl, rfl, rfl, rfl, rfl⟩
  · refine ite_state (fun _ => h) fun hfit => ?_
    dsimp only
    split
    · rename_i t ht
      obtain ⟨h', m', hm', hk, hasc, husage⟩ := h.settleFor hm ht
      unfold judgeReport
      rw [hm']
      refine ite_state (fun hp => ?_) fun _ => ?_
      · have hle : m.ascending ≤ a := by
          simp only [stepThreePasses, Bool.and_eq_true, decide_eq_true_eq] at hp
          omega
        refine h'.acceptReport hm' _ q ha hd hp (husage _ ?_)
        rw [hasc]
        simpa [hle] using hfit
      · exact h'.enterDispute hm' (h'.lawful hm').mismatched ⟨rfl, rfl, rfl, rfl, rfl⟩
    · exact h.enterDispute hm (h.lawful hm) ⟨rfl, rfl, rfl, rfl, rfl⟩

theorem Ledger.meterReport (h : Ledger b 0 0 s) (slot : Nat) (q : Half) (a d : Nat) :
    Ledger b 0 0 (meterReport slot q a d s).1 := by
  unfold Machine.meterReport
  refine ite_state (fun _ => h) fun _ => ite_state (fun _ => h) fun hok => ?_
  cases hm : s.meter? slot with
  | none => exact h
  | some m =>
    simp only [Bool.or_eq_true, Bool.not_eq_true', not_or, Bool.not_eq_false] at hok
    exact ite_state (fun _ => h) fun _ => h.reportOn hm q hok.1.2 hok.2

/-! ## RESOLVE METER -/

/-- The void of a resolution leaves the meter's registers and gives back the refill out (R44, R45). -/
theorem Ledger.resolveVoid (h : Ledger b 0 0 s) {slot : Nat} {m : Meter} (hm : s.meter? slot = some m) :
    Ledger b (refillOut m) 0 (resolveVoid slot m s)
      ∧ ∃ m', (resolveVoid slot m s).meter? slot = some m' ∧ m'.Lawful ∧ m'.grantOut = none ∧ m'.kind = m.kind
        ∧ m'.licence = m.licence ∧ m'.branch = m.branch ∧ prepaidShare m' = prepaidShare m
        ∧ (resolveVoid slot m s).record.pool
            = { s.record.pool with reserved := s.record.pool.reserved - refillOut m }
        ∧ ∀ x, Table.put (resolveVoid slot m s).record.meters slot x = Table.put s.record.meters slot x := by
  unfold Machine.resolveVoid
  cases hg : m.grantOut with
  | none =>
    rw [refillOut_none hg]
    exact ⟨h, m, hm, h.lawful hm, hg, rfl, rfl, rfl, rfl, rfl, fun _ => rfl⟩
  | some g =>
    have hv := h.voidGrant hm hg
    rw [refillOut_some hg]
    rw [Int.zero_add] at hv
    exact ⟨hv, m.voided g, by simp [State.meter?, voidGrant_meters], (h.lawful hm).voided hg, rfl, rfl, rfl, rfl, rfl,
      voidGrant_pool slot m g s, fun x => by simp [voidGrant_meters]⟩

theorem Meter.Lawful.resolved {m : Meter} (h : m.Lawful) (hg : m.grantOut = none) {a d : Nat} (ha : ascendingOk a = true)
    (hd : registerOk d = true) : (m.resolved a d).Lawful := by
  obtain ⟨-, -, -, r1, r2, r3, r4, r5, r6, -, -, -, r10⟩ := h
  refine ⟨rfl, ⟨?_, by simp [Meter.resolved]⟩, fun _ => hg, r1, r2, r3, r4, r5, r6, Nat.zero_le _, hd, ha, r10⟩
  simp [Meter.resolved, hg]

/-- A resolution up to its pool movement (R44 to R46): due is the refill voided, less what the registers show used and what the credit
of a PREPAID meter gained. -/
theorem Ledger.resolveRecord (h : Ledger b 0 0 s) {slot : Nat} {m : Meter} (hm : s.meter? slot = some m) {a d : Nat}
    (ha : ascendingOk a = true) (hd : registerOk d = true) (hu : s.record.pool.franked + (a - m.ascending) ≤ Config.totalMax) :
    Ledger b (refillOut m - ((a - m.ascending : Nat) : Int) + prepaidShare m - (if m.kind = .prepaid then d else 0 : Nat)) 0
      (resolveRecord slot m a d s)
      ∧ (resolveRecord slot m a d s).record.pool =
        { s.record.pool with
          reserved := s.record.pool.reserved - refillOut m, franked := s.record.pool.franked + (a - m.ascending) }
      ∧ prepaidCredit (resolveRecord slot m a d s) + prepaidShare m
          = prepaidCredit s + (if m.kind = .prepaid then d else 0) := by
  obtain ⟨hv, m', hm', hl, hg, hk, hlic, hbr, hshare, hpool, hput⟩ := h.resolveVoid hm
  have hafter : afterVoid slot m s = m' := by simp [afterVoid, hm']
  have hf := hv.addFranked (n := a - m.ascending) (by rw [hpool]; exact hu)
  unfold Machine.resolveRecord
  rw [hafter]
  have hqueue := fun hq => hv.accounts.queue.of_queued (slot := slot) hq hm'
  have hnew : prepaidShare (m'.resolved a d).evaluated = if m.kind = .prepaid then d else 0 := by rw [← hk]; rfl
  refine ⟨Ledger.putEvaluated_of _ _ (hf.putMeter hm' (hl.resolved hg ha hd).evaluated rfl rfl hqueue ?_ ?_), ?_, ?_⟩
  · rw [hshare, hnew]
  · rw [refillOut_none hg, refillOut_none (m := (m'.resolved a d).evaluated) hg]; omega
  · simp [Machine.addFranked, hpool]
  · have hsum := Table.sum_put (fun _ m => prepaidShare m) h.accounts.sorted slot (m'.resolved a d).evaluated
    rw [show Table.find s.record.meters slot = some m from hm] at hsum
    simp only [prepaidCredit, putEvaluated_record, State.putMeter_record_meters, Machine.addFranked,
      State.withPool_record_meters, hput]
    rw [← hnew]
    exact hsum

/-- A limit out takes no part in the reserved total. -/
theorem Meter.Lawful.refillOut_postpaid {m : Meter} (h : m.Lawful) (hk : m.kind = .postpaid) : refillOut m = 0 := by
  cases hg : m.grantOut with
  | none => exact refillOut_none hg
  | some g =>
    have hkind := h.2.1.1 g hg
    rw [refillOut_some hg]
    cases hgk : g.kind <;> simp_all [kindFor, refillAmount]

theorem Ledger.resolve (h : Ledger b 0 0 s) {slot : Nat} {m : Meter} (hm : s.meter? slot = some m) {a d : Nat}
    (ha : ascendingOk a = true) (hd : registerOk d = true) (hle : m.ascending ≤ a)
    (hu : usageFits m.kind (a - m.ascending) s = true) (hc : m.kind = .prepaid → coversResolution s m a d = true) :
    Ledger b 0 0 (resolve slot m a d s).1 := by
  have hl := h.lawful hm
  rw [usageFits_iff] at hu
  obtain ⟨hr, hpool, hcredit⟩ := h.resolveRecord hm ha hd hu.1
  have hloaded := hl.1
  show Ledger b 0 0 (resolveFunds m a d (Machine.resolveRecord slot m a d s))
  unfold resolveFunds
  cases hk : m.kind with
  | prepaid =>
    have hcov := hc hk
    simp only [coversResolution, decide_eq_true_eq] at hcov
    have hnet : refillOut m - ((a - m.ascending : Nat) : Int) + prepaidShare m - (if m.kind = .prepaid then d else 0 : Nat)
        = refillOut m - loadedChange m a d := by
      rw [prepaidShare_prepaid hk, if_pos hk, loadedChange]; omega
    rw [hnet] at hr
    dsimp only
    split
    · rename_i hpos
      rw [show (refillOut m : Int) - loadedChange m a d = ((refillOut m - loadedChange m a d).toNat : Int) by omega] at hr
      exact hr.creditAndServe
    · rename_i hneg
      have hdebit := hr.debitPool (n := (-((refillOut m : Int) - loadedChange m a d)).toNat) (by rw [hpool]; dsimp only; omega)
      rwa [show (refillOut m : Int) - loadedChange m a d + ((-((refillOut m : Int) - loadedChange m a d)).toNat : Int) = 0 by omega]
        at hdebit
  | postpaid =>
    rw [hl.refillOut_postpaid hk, prepaidShare_postpaid hk, if_neg (by simp [hk])] at hr
    simp only [Nat.cast_zero, Int.zero_sub, Int.add_zero, Int.sub_zero] at hr
    refine hr.chargeUsage ?_ (by rw [hpool]; exact hu.2 hk)
    have hcom := h.funds.committed
    rw [prepaidShare_postpaid hk, if_neg (by simp [hk])] at hcredit
    simp only [committedFunds, hpool]
    omega

theorem Ledger.resolveMeter (h : Ledger b 0 0 s) (slot a d : Nat) : Ledger b 0 0 (resolveMeter slot a d s).1 := by
  unfold Machine.resolveMeter
  refine ite_state (fun _ => h) fun _ => ite_state (fun _ => h) fun hok => ?_
  cases hm : s.meter? slot with
  | none => exact h
  | some m =>
    simp only [Bool.or_eq_true, Bool.not_eq_true', not_or, Bool.not_eq_false] at hok
    refine ite_state (fun _ => h) fun _ => ite_state (fun _ => h) fun hle => ite_state (fun _ => h) fun hu =>
      ite_state (fun _ => h) fun hc => h.resolve hm hok.1.2 hok.2 (by omega) (by simpa using hu) fun hk => ?_
    simpa [hk] using hc

end Sys2Proof.Machine
end

section
/-! SUPPORT. The ledger under the branches' requests, and under a change of every record of a table. -/

namespace Sys2Proof.Table

variable {α : Type}

theorem sumInt_congr {f g : Nat → α → Int} {t : Table α} (h : ∀ e ∈ t, f e.1 e.2 = g e.1 e.2) : sumInt f t = sumInt g t := by
  induction t with
  | nil => rfl
  | cons e t ih =>
    obtain ⟨k, w⟩ := e
    simp only [sumInt]
    rw [h (k, w) (by simp), ih (fun e he => h e (List.mem_cons_of_mem _ he))]

end Sys2Proof.Table

namespace Sys2Proof.Machine

/-! ## Figures set one after another -/

theorem mem_set {f : Figures} {d n : Nat} {e : Nat × Nat} (he : e ∈ Figures.set f d n) : e = (d, n) ∨ e ∈ f := by
  unfold Figures.set at he
  split at he
  · exact .inr (Table.mem_erase he).1
  · exact Table.mem_put he

theorem StampsInRange.set {f : Figures} (h : StampsInRange f) {d n : Nat} (hd : denominationSlotOk d = true)
    (hn : figureOk n = true) : StampsInRange (Figures.set f d n) := by
  intro e he
  rcases mem_set he with rfl | he
  · exact ⟨hd, hn⟩
  · exact h e he

theorem mem_setLevels {f : Figures} {l : List (Nat × Nat)} {e : Nat × Nat} (he : e ∈ setLevels f l) : e ∈ l ∨ e ∈ f := by
  induction l generalizing f with
  | nil => exact .inr he
  | cons x rest ih =>
    obtain ⟨d, n⟩ := x
    rcases ih he with h | h
    · exact .inl (List.mem_cons_of_mem _ h)
    · rcases mem_set h with rfl | h
      · exact .inl List.mem_cons_self
      · exact .inr h

theorem canonical_setLevels {f : Figures} (h : Figures.Canonical f) (l : List (Nat × Nat)) :
    Figures.Canonical (setLevels f l) := by
  induction l generalizing f with
  | nil => exact h
  | cons x rest ih => exact ih (Figures.canonical_set h _ _)

theorem StampsInRange.setLevels {f : Figures} (h : StampsInRange f) {l : List (Nat × Nat)}
    (hl : ∀ e ∈ l, denominationSlotOk e.1 ∧ figureOk e.2) : StampsInRange (setLevels f l) := by
  intro e he
  rcases mem_setLevels he with he | he
  · exact hl e he
  · exact h e he

/-- What setting the figures of a list, no slot named twice, does to a weighted sum. -/
theorem sum_setLevels (w : Nat → Nat) {f : Figures} (hf : Figures.Canonical f) {l : List (Nat × Nat)} (hl : Table.Sorted l) :
    (Table.sum (fun d c => c * w d) (setLevels f l) : Int)
      = Table.sum (fun d c => c * w d) f + Table.sumInt (fun d c => countDifference (Figures.at' f d) c * (w d : Int)) l := by
  induction l generalizing f with
  | nil => simp [setLevels, Table.sumInt]
  | cons x rest ih =>
    obtain ⟨d, c⟩ := x
    simp only [Table.Sorted, List.pairwise_cons] at hl
    have hset := Figures.sum_set w hf.1 d c
    have hrest : Table.sumInt (fun d' c' => countDifference (Figures.at' (Figures.set f d c) d') c' * (w d' : Int)) rest
        = Table.sumInt (fun d' c' => countDifference (Figures.at' f d') c' * (w d' : Int)) rest := by
      refine Table.sumInt_congr fun e he => ?_
      rw [Figures.at'_set_ne _ _ (Nat.ne_of_gt (hl.1 e he))]
    simp only [setLevels, Table.sumInt]
    rw [ih (Figures.canonical_set hf d c) hl.2, hrest, countDifference, Int.sub_mul]
    have hset' : (Table.sum (fun d c => c * w d) (Figures.set f d c) : Int) + (Figures.at' f d : Int) * (w d : Int)
        = Table.sum (fun d c => c * w d) f + (c : Int) * (w d : Int) := by exact_mod_cast hset
    omega

variable {b s t : State} {due owed due' : Int}

/-! ## A ledger whose stamps changed -/

/-- A change of the stock side and of the pool's figures, the meters, the queue and the reserved total standing. -/
theorem Ledger.restock (h : Ledger b due owed s) (ho : OutsideKept b t) (hm : t.record.meters = s.record.meters)
    (hq : t.record.queue = s.record.queue) (hk : t.record.queuePeak = s.record.queuePeak)
    (hr : t.record.pool.reserved = s.record.pool.reserved) (hst : StockSide t) (hl : MeterBranchLaw t)
    (hf : Balanced due' t.record.pool (prepaidCredit s) (stockValue t)) : Ledger b due' owed t where
  outside := ho
  accounts := h.accounts.congr hm hq hk hr
  stock := hst
  linked := hl
  funds := by rwa [show prepaidCredit t = prepaidCredit s by simp only [prepaidCredit, hm]]

/-! ## OPEN BRANCH, SET BRANCH, READ BRANCH, CYCLE CONTROL -/

theorem openedBranch_lawful {code : Nat} (hc : within 1 Config.branchCodeMax code = true) : (openedBranch code).Lawful := by
  refine ⟨⟨⟨List.Pairwise.nil, by simp [openedBranch]⟩, ⟨List.Pairwise.nil, by simp [openedBranch]⟩, by simp [openedBranch]⟩,
    ⟨hc, Nat.zero_le _, Nat.zero_le _, Nat.zero_le _, Nat.zero_le _, rfl, ?_, ?_, ?_⟩, ?_⟩ <;> simp [openedBranch]

theorem Ledger.openBranch (h : Ledger b 0 0 s) (code : Nat) : Ledger b 0 0 (openBranch code s).1 := by
  unfold Machine.openBranch
  refine ite_state (fun _ => h) fun _ => ite_state (fun _ => h) fun hc => ite_state (fun _ => h) fun hheld => ?_
  split
  · exact h
  · rename_i slot hslot
    obtain ⟨hempty, hs, -⟩ := Table.lowestEmpty_spec hslot
    have hnew : ∀ e ∈ s.record.branches, e.1 ≠ slot → e.2.code ≠ code := by
      intro e he _ heq
      simp only [codeHeld, List.any_eq_true, decide_eq_true_eq] at hheld
      exact hheld ⟨e, he, heq⟩
    have hst := h.stock.fillBranch (slot := slot) (x := openedBranch code) (by simpa [branchSlotOk] using hs)
      (openedBranch_lawful (by simpa using hc)) hnew ⟨by simp [openedBranch], by simp [openedBranch]⟩
    have hv := stockValue_putBranch h.stock.branchesSorted slot (openedBranch code)
    refine h.restock (h.outside.withRecord _) rfl rfl rfl rfl hst (h.linked.putBranch _ _) ?_
    rw [show s.valueAt slot = 0 by simp [State.valueAt, State.branch?, hempty],
      show figuresValue s (openedBranch code).onHand = 0 from rfl] at hv
    rw [show stockValue (s.putBranch slot (openedBranch code)) = stockValue s by omega]
    exact h.funds

theorem Branch.Lawful.changed {x : Branch} (h : x.Lawful) {c : BranchChanges} (hc : branchChangesOk c = true) :
    (x.changed c).Lawful := by
  obtain ⟨⟨c1, c2, c3⟩, ⟨r1, r2, r3, r4, r5, r6, r7, r8, r9⟩, hl⟩ := h
  simp only [branchChangesOk, Bool.and_eq_true] at hc
  obtain ⟨⟨h1, h2⟩, h3⟩ := hc
  have hlen : c.cycleLength.getD x.cycleLength ≤ 255 := by
    cases hcl : c.cycleLength with
    | none => exact r2
    | some n => simpa [ifPresent, hcl] using h1
  have hall : c.allowance.getD x.allowance ≤ Config.allowanceMax := by
    cases hca : c.allowance with
    | none => exact r3
    | some n => simpa [ifPresent, hca] using h2
  have hlev : ∀ e ∈ c.levels.getD [], denominationSlotOk e.1 ∧ figureOk e.2 := by
    cases hcl : c.levels with
    | none => simp
    | some l =>
      simp only [ifPresent, hcl, levelsOk, Bool.and_eq_true, List.all_eq_true] at h3
      exact h3.1.2
  exact ⟨⟨c1, canonical_setLevels c2 _, c3⟩, ⟨r1, hlen, hall, r4, r5, r6, r7, StampsInRange.setLevels r8 hlev, r9⟩, hl⟩

theorem Ledger.setBranch (h : Ledger b 0 0 s) (slot : Nat) (c : BranchChanges) : Ledger b 0 0 (setBranch slot c s).1 := by
  unfold Machine.setBranch
  refine ite_state (fun _ => h) fun _ => ite_state (fun _ => h) fun _ => ?_
  cases hx : s.branch? slot with
  | none => exact h
  | some x =>
    refine ite_state (fun _ => h) fun hc => ?_
    have hf := h.stock.listed hx
    exact h.touchBranch hx ((h.stock.lawful hx).changed (by simpa using hc)) rfl rfl hf

theorem Ledger.readBranch (h : Ledger b 0 0 s) (slot : Nat) (take : Coded Bool) : Ledger b 0 0 (readBranch slot take s).1 := by
  unfold Machine.readBranch
  refine ite_state (fun _ => h) fun _ => ite_state (fun _ => h) fun _ => ?_
  cases take with
  | unknown => exact h
  | value takes =>
    cases hx : s.branch? slot with
    | none => exact h
    | some x =>
      dsimp only
      split
      · obtain ⟨hc, ⟨r1, r2, r3, r4, r5, -, r7⟩, hl⟩ := h.stock.lawful hx
        have hf := h.stock.listed hx
        exact h.touchBranch (x' := { x with variance := 0 }) hx ⟨hc, ⟨r1, r2, r3, r4, r5, rfl, r7⟩, hl⟩ rfl rfl hf
      · exact h

/-- What an action of CYCLE CONTROL may change of a branch: its run state, day count, spent total and cycle number (R118, R119). -/
def CycleAction (action : Branch → Option Branch) : Prop :=
  ∀ x x', action x = some x' → ∃ run cycle, x' = { x with run := run }
    ∨ x' = { x with run := run, dayCount := 0, spent := 0, cycle := cycle }

theorem startAction_cycle : CycleAction startAction := by
  intro x x' h
  unfold startAction at h
  split at h <;> cases h
  exact ⟨.running, x.cycle + 1, .inr rfl⟩

theorem stopAction_cycle : CycleAction stopAction := by
  intro x x' h
  unfold stopAction at h
  split at h <;> cases h <;> exact ⟨.stopped, x.cycle, .inl rfl⟩

theorem pauseAction_cycle : CycleAction pauseAction := by
  intro x x' h
  unfold pauseAction at h
  split at h <;> cases h
  exact ⟨.paused, x.cycle, .inl rfl⟩

theorem resumeAction_cycle : CycleAction resumeAction := by
  intro x x' h
  unfold resumeAction at h
  split at h <;> cases h
  exact ⟨.running, x.cycle, .inl rfl⟩

theorem Ledger.cycleControl (h : Ledger b 0 0 s) {action : Branch → Option Branch} (ha : CycleAction action) (known : Bool)
    (slot : Nat) : Ledger b 0 0 (cycleControl action known slot s).1 := by
  unfold Machine.cycleControl
  refine ite_state (fun _ => h) fun _ => ite_state (fun _ => h) fun _ => ?_
  cases hx : s.branch? slot with
  | none => exact h
  | some x =>
    dsimp only
    cases hact : action x with
    | none => exact h
    | some x' =>
      obtain ⟨hc, hr, hl⟩ := h.stock.lawful hx
      have hf := h.stock.listed hx
      obtain ⟨run, cycle, rfl | rfl⟩ := ha x x' hact
      · exact h.touchBranch (x' := { x with run := run }) hx ⟨hc, hr, hl⟩ rfl rfl hf
      · obtain ⟨r1, r2, r3, -, -, r6⟩ := hr
        exact h.touchBranch (x' := { x with run := run, dayCount := 0, spent := 0, cycle := cycle }) hx
          ⟨hc, ⟨r1, r2, r3, Nat.zero_le _, Nat.zero_le _, r6⟩, hl⟩ rfl rfl hf

/-! ## Every record of a table changed -/

/-- A change of a meter record that no sum, no queue entry and no other record reads. -/
structure Meter.Reissued (m m' : Meter) : Prop where
  licence : m'.licence = m.licence
  branch : m'.branch = m.branch
  kind : m'.kind = m.kind
  credit : m'.credit = m.credit
  refill : refillOut m' = refillOut m
  free : m.kind = .prepaid → m.grantOut = none → m'.grantOut = none
  lawful : m.Lawful → m'.Lawful

theorem Ledger.mapMeters (h : Ledger b due owed s) {f : Nat → Meter → Meter}
    (hf : ∀ i m, s.meter? i = some m → m.Reissued (f i m)) :
    Ledger b due owed { s with record.meters := Table.mapRecords f s.record.meters } := by
  obtain ⟨a1, a2, a3, a4, ⟨a5, a6, a7⟩, a8, a9⟩ := h.accounts
  have hmem : ∀ e ∈ s.record.meters, e.2.Reissued (f e.1 e.2) := fun e he => hf _ _ (Table.find_of_mem a1 he)
  have hlic : (Table.mapRecords f s.record.meters).map (·.2.licence) = s.record.meters.map (·.2.licence) := by
    rw [Table.mapRecords, List.map_map]
    exact List.map_congr_left fun e he => (hmem e he).licence
  have hsum : Table.sum (fun _ m => refillOut m) (Table.mapRecords f s.record.meters) = refillsOut s := by
    rw [Table.sum_mapRecords]
    exact Table.sum_congr fun e he => (hmem e he).refill
  have hcredit : Table.sum (fun _ m => prepaidShare m) (Table.mapRecords f s.record.meters) = prepaidCredit s := by
    rw [Table.sum_mapRecords]
    refine Table.sum_congr fun e he => ?_
    simp only [prepaidShare, (hmem e he).kind, (hmem e he).credit]
  refine ⟨h.outside.withRecord _, ⟨Table.sorted_mapRecords f a1, ?_, ?_, ?_, ⟨a5, a6, ?_⟩, a8, a9⟩, h.stock.congr rfl rfl rfl rfl, ?_, ?_⟩
  · intro e he
    obtain ⟨m, hm, hem⟩ := Table.mem_mapRecords he
    rw [hem]
    exact ⟨(a2 _ hm).1, (hmem _ hm).lawful (a2 _ hm).2⟩
  · simpa only [LicenceLaw, hlic] using a3
  · simpa only [refillsOut, hsum] using a4
  · intro e he
    obtain ⟨m, hm, hg, hk⟩ := a7 e he
    have hr := hf _ _ hm
    refine ⟨f e.slot m, ?_, hr.free hk hg, hr.kind.trans hk⟩
    simp only [State.meter?, Table.find_mapRecords]
    rw [show Table.find s.record.meters e.slot = some m from hm]
    rfl
  · intro e he
    obtain ⟨m, hm, hem⟩ := Table.mem_mapRecords he
    rw [hem, (hmem _ hm).branch]
    exact h.linked _ hm
  · show Balanced due s.record.pool (Table.sum (fun _ m => prepaidShare m) (Table.mapRecords f s.record.meters)) (stockValue s)
    rw [hcredit]
    exact h.funds

/-- A change of a branch record that no sum and no other record reads. -/
structure Branch.Reissued (x x' : Branch) : Prop where
  code : x'.code = x.code
  onHand : x'.onHand = x.onHand
  latch : x'.latch = x.latch ∨ x'.latch = none
  lawful : x.Lawful → x'.Lawful

theorem Ledger.mapBranches (h : Ledger b due owed s) {f : Nat → Branch → Branch} (hf : ∀ i (x : Branch), x.Reissued (f i x)) :
    Ledger b due owed { s with record.branches := Table.mapRecords f s.record.branches } := by
  obtain ⟨s1, s2, s3, s4, ⟨s5, s6, s7⟩, ⟨s8, s9, s10, s11⟩, s12, s13⟩ := h.stock
  have hcode : (Table.mapRecords f s.record.branches).map (·.2.code) = s.record.branches.map (·.2.code) := by
    rw [Table.mapRecords, List.map_map]
    exact List.map_congr_left fun e _ => (hf e.1 e.2).code
  have hvalue : Table.sum (fun _ x => figuresValue s x.onHand) (Table.mapRecords f s.record.branches) = onHandValue s := by
    rw [Table.sum_mapRecords]
    exact Table.sum_congr fun e _ => by rw [(hf e.1 e.2).onHand]
  have hsome : ∀ i, (s.branch? i).isSome →
      (State.branch? { s with record.branches := Table.mapRecords f s.record.branches } i).isSome := by
    intro i hi
    simpa [State.branch?] using hi
  refine h.restock (h.outside.withRecord _) rfl rfl rfl rfl ⟨Table.sorted_mapRecords f s1, s2, ?_, ?_, ⟨?_, s6, ?_⟩, ⟨s8, s9, ?_, s11⟩,
    s12, s13⟩ (fun e he => hsome _ (h.linked e he)) ?_
  · intro e he
    obtain ⟨x, hx, hex⟩ := Table.mem_mapRecords he
    rw [hex]
    exact ⟨(s3 _ hx).1, (hf _ x).lawful (s3 _ hx).2⟩
  · simpa only [BranchCodeLaw, hcode] using s4
  · intro e he
    obtain ⟨x, hx, hex⟩ := Table.mem_mapRecords he
    rw [hex, (hf _ x).onHand]
    exact s5 _ hx
  · intro e he l hl
    obtain ⟨x, hx, hex⟩ := Table.mem_mapRecords he
    rw [hex] at hl
    rcases (hf e.1 x).latch with h' | h' <;> rw [h'] at hl
    · exact s7 _ hx l hl
    · cases hl
  · intro e he
    obtain ⟨hn, hne, ho, hd⟩ := s10 e he
    exact ⟨hn, hne, hsome _ ho, hsome _ hd⟩
  · have hv : stockValue { s with record.branches := Table.mapRecords f s.record.branches } = stockValue s := by
      simp only [stockValue]
      exact congrArg₂ _ hvalue rfl
    rw [hv]
    exact h.funds

theorem Ledger.mapTransfers (h : Ledger b due owed s) {f : Transfer → Transfer}
    (hf : ∀ x, (f x).number = x.number ∧ (f x).origin = x.origin ∧ (f x).destination = x.destination
      ∧ (f x).denomination = x.denomination ∧ (f x).count = x.count ∧ (f x).age ≤ Config.ageMax) :
    Ledger b due owed { s with record.transfers := s.record.transfers.map f } := by
  obtain ⟨s1, s2, s3, s4, ⟨s5, s6, s7⟩, ⟨s8, s9, s10, s11⟩, s12, s13⟩ := h.stock
  have hnumber : (s.record.transfers.map f).map (·.number) = s.record.transfers.map (·.number) := by
    rw [List.map_map]
    exact List.map_congr_left fun x _ => (hf x).1
  have hvalue : (s.record.transfers.map f).map (transferValue s) = s.record.transfers.map (transferValue s) := by
    rw [List.map_map]
    refine List.map_congr_left fun x _ => ?_
    obtain ⟨-, -, -, hd, hc, -⟩ := hf x
    simp only [Function.comp, transferValue, hd, hc]
  refine h.restock (h.outside.withRecord _) rfl rfl rfl rfl ⟨s1, s2, s3, s4, ⟨s5, ?_, s7⟩, ⟨by simpa using s8, ?_, ?_, s11⟩, s12, ?_⟩
    h.linked ?_
  · intro e he
    obtain ⟨x, hx, rfl⟩ := List.mem_map.1 he
    rw [(hf x).2.2.2.1]
    exact s6 x hx
  · simpa only [hnumber] using s9
  · intro e he
    obtain ⟨x, hx, rfl⟩ := List.mem_map.1 he
    obtain ⟨hn, ho, hd, -, -, -⟩ := hf x
    rw [hn, ho, hd]
    exact s10 x hx
  · intro e he
    obtain ⟨x, hx, rfl⟩ := List.mem_map.1 he
    obtain ⟨-, -, -, hd, hc, ha⟩ := hf x
    rw [hd, hc]
    exact ⟨(s13 x hx).1, (s13 x hx).2.1, ha⟩
  · have hv : stockValue { s with record.transfers := s.record.transfers.map f } = stockValue s := by
      simp only [stockValue]
      exact congrArg₂ _ rfl (congrArg List.sum hvalue)
    rw [hv]
    exact h.funds

end Sys2Proof.Machine
end

section
/-! SUPPORT. The ledger under CLOSE BRANCH, the denominations' requests and the movements of stock, DEPOSIT and REFUND. -/

namespace Sys2Proof.Table

variable {α : Type}

theorem count_pos {p : Nat → α → Bool} {t : Table α} {e : Nat × α} (he : e ∈ t) (hp : p e.1 e.2 = true) : 0 < count p t := by
  induction t with
  | nil => cases he
  | cons d t ih =>
    obtain ⟨k, w⟩ := d
    simp only [count]
    rcases List.mem_cons.1 he with rfl | he
    · simp only at hp; simp [hp]
    · have := ih he; omega

theorem firstSlot_none {p : Nat → α → Bool} {t : Table α} (h : firstSlot p t = none) : ∀ e ∈ t, p e.1 e.2 = false := by
  induction t with
  | nil => simp
  | cons d t ih =>
    obtain ⟨k, w⟩ := d
    simp only [firstSlot] at h
    split at h
    · cases h
    · rename_i hp
      intro e he
      rcases List.mem_cons.1 he with rfl | he
      · simpa using hp
      · exact ih h e he

end Sys2Proof.Table

namespace Sys2Proof.Machine

variable {b s t : State} {due owed due' : Int}

/-! ## CLOSE BRANCH -/

/-- A branch that R115 lets be closed has no stamps, no open count, no meter and no transfer. -/
theorem branchObstacle_none {slot : Nat} {x : Branch} (h : branchObstacle s slot x = none) :
    (∀ e ∈ s.record.meters, e.2.branch ≠ slot) ∧ (∀ e ∈ x.onHand, e.2 = 0)
      ∧ ∀ e ∈ s.record.transfers, e.origin ≠ slot ∧ e.destination ≠ slot := by
  unfold branchObstacle at h
  split at h
  · cases h
  split at h
  · cases h
  rename_i hm
  cases hf : Table.firstSlot (fun _ n => decide (0 < n)) x.onHand with
  | some d => simp [hf] at h
  | none =>
    simp only [hf] at h
    split at h
    · cases h
    rename_i ht
    refine ⟨fun e he heq => hm (Table.count_pos he (by simp [heq])), fun e he => ?_, fun e he => ?_⟩
    · simpa using Table.firstSlot_none hf e he
    · simp only [transfersNaming, Nat.not_lt, Nat.le_zero, List.countP_eq_zero] at ht
      simpa using ht e he

theorem Meter.uncounted_reissued (slot : Nat) (m : Meter) : m.Reissued (m.uncounted slot) where
  licence := rfl
  branch := rfl
  kind := rfl
  credit := rfl
  refill := by
    cases hg : m.grantOut with
    | none => simp [Meter.uncounted, refillOut, hg]
    | some g => by_cases hs : g.branch = slot <;> simp [Meter.uncounted, refillOut, refillAmount, hg, hs]
  free := fun _ hg => by simp [Meter.uncounted, hg]
  lawful := by
    rintro ⟨h1, ⟨h2, h3⟩, h4, h5⟩
    refine ⟨h1, ⟨?_, h3⟩, fun hc => by simp [Meter.uncounted, h4 hc], h5⟩
    intro g hg
    obtain ⟨g', hg', rfl⟩ := Option.map_eq_some_iff.1 hg
    refine (h2 g' hg').trans ?_
    split <;> rfl

theorem Ledger.dropBranch (h : Ledger b due owed s) {slot : Nat} {x : Branch} (hx : s.branch? slot = some x)
    (hm : ∀ e ∈ s.record.meters, e.2.branch ≠ slot) (ho : ∀ e ∈ x.onHand, e.2 = 0)
    (ht : ∀ e ∈ s.record.transfers, e.origin ≠ slot ∧ e.destination ≠ slot) :
    Ledger b due owed { s with record.branches := Table.erase s.record.branches slot } := by
  obtain ⟨s1, s2, s3, s4, ⟨s5, s6, s7⟩, ⟨s8, s9, s10, s11⟩, s12, s13⟩ := h.stock
  have hkeep : ∀ {i}, i ≠ slot → (s.branch? i).isSome →
      (State.branch? { s with record.branches := Table.erase s.record.branches slot } i).isSome := by
    intro i hi hsome
    simpa only [State.branch?, Table.find_erase_ne _ hi] using hsome
  refine h.restock (h.outside.withRecord _) rfl rfl rfl rfl
    ⟨Table.sorted_erase s1 _, s2, fun e he => s3 e (Table.mem_erase he).1, Table.nodup_erase Branch.code s4 _,
      ⟨fun e he => s5 e (Table.mem_erase he).1, s6, fun e he => s7 e (Table.mem_erase he).1⟩, ⟨s8, s9, ?_, s11⟩, s12, s13⟩
    (fun e he => hkeep (hm e he) (h.linked e he)) ?_
  · intro e he
    obtain ⟨hn, hne, hor, hde⟩ := s10 e he
    exact ⟨hn, hne, hkeep (ht e he).1 hor, hkeep (ht e he).2 hde⟩
  · have hempty : x.onHand = [] :=
      List.eq_nil_iff_forall_not_mem.2 fun e he => (h.stock.lawful hx).1.1.2 e he (ho e he)
    have hsum := Table.sum_erase (fun _ (x : Branch) => figuresValue s x.onHand) s1 slot
    rw [show Table.find s.record.branches slot = some x from hx] at hsum
    simp only [Option.map_some, Option.getD_some, hempty] at hsum
    have hv : stockValue { s with record.branches := Table.erase s.record.branches slot } = stockValue s := by
      simp only [stockValue]
      exact congrArg₂ _ hsum rfl
    rw [hv]
    exact h.funds

theorem Ledger.closeBranch (h : Ledger b 0 0 s) (slot : Nat) : Ledger b 0 0 (closeBranch slot s).1 := by
  unfold Machine.closeBranch
  refine ite_state (fun _ => h) fun _ => ite_state (fun _ => h) fun _ => ?_
  cases hx : s.branch? slot with
  | none => exact h
  | some x =>
    dsimp only
    cases ho : branchObstacle s slot x with
    | some o => exact h
    | none =>
      obtain ⟨hm, hz, ht⟩ := branchObstacle_none ho
      exact (h.dropBranch hx hm hz ht).mapMeters fun _ m _ => m.uncounted_reissued slot

/-! ## The denominations -/

/-- A denomination slot that a record names: stamps on hand, a transfer, or a counted figure (R129). -/
def State.Names (s : State) (d : Nat) : Prop :=
  (∃ e ∈ s.record.branches, ∃ f ∈ e.2.onHand, f.1 = d) ∨ (∃ x ∈ s.record.transfers, x.denomination = d)
    ∨ ∃ e ∈ s.record.branches, ∃ l ∈ e.2.latch, ∃ f ∈ l.counted, f.1 = d

theorem EmptySlotLaw.of_names (h : EmptySlotLaw s) {d : Nat} (hd : s.Names d) : (s.denomination? d).isSome := by
  obtain ⟨h1, h2, h3⟩ := h
  rcases hd with ⟨e, he, f, hf, rfl⟩ | ⟨x, hx, rfl⟩ | ⟨e, he, l, hl, f, hf, rfl⟩
  · exact h1 e he f hf
  · exact h2 x hx
  · exact h3 e he l hl f hf

/-- A change of the Denomination Table that keeps every slot a record names, with its face value. -/
theorem Ledger.withDenominations (h : Ledger b due owed s) {ds : Table Denomination} (hs : Table.Sorted ds)
    (hr : ∀ e ∈ ds, denominationSlotOk e.1 ∧ within 1 Config.faceMax e.2.face)
    (hk : ∀ d, s.Names d → (Table.find ds d).map (·.face) = (s.denomination? d).map (·.face)) :
    Ledger b due owed { s with record.denominations := ds } := by
  obtain ⟨s1, s2, s3, s4, hslots, s8, s12, s13⟩ := h.stock
  have hsome : ∀ d, s.Names d → (Table.find ds d).isSome := by
    intro d hd
    have := hslots.of_names hd
    rw [← Option.isSome_map (f := Denomination.face)] at this ⊢
    rw [hk d hd]; exact this
  have hface : ∀ d, s.Names d → State.face { s with record.denominations := ds } d = s.face d := by
    intro d hd
    have := hk d hd
    simp only [State.face, State.denomination?] at this ⊢
    cases h1 : Table.find ds d <;> cases h2 : Table.find s.record.denominations d <;> simp_all
  have hvalue : stockValue { s with record.denominations := ds } = stockValue s := by
    have hon : onHandValue { s with record.denominations := ds } = onHandValue s :=
      Table.sum_congr fun e he => Table.sum_congr fun f hf => by rw [hface _ (.inl ⟨e, he, f, hf, rfl⟩)]
    have htr : transitValue { s with record.denominations := ds } = transitValue s :=
      congrArg List.sum (List.map_congr_left fun x hx => by
        simp only [transferValue]; rw [hface _ (.inr (.inl ⟨x, hx, rfl⟩))])
    simp only [stockValue, hon, htr]
  refine h.restock (h.outside.withRecord _) rfl rfl rfl rfl
    ⟨s1, hs, s3, s4, ⟨fun e he f hf => hsome _ (.inl ⟨e, he, f, hf, rfl⟩), fun x hx => hsome _ (.inr (.inl ⟨x, hx, rfl⟩)),
      fun e he l hl f hf => hsome _ (.inr (.inr ⟨e, he, l, hl, f, hf, rfl⟩))⟩, s8, hr, s13⟩ h.linked ?_
  rw [hvalue]
  exact h.funds

theorem Ledger.defineDenomination (h : Ledger b 0 0 s) (face : Nat) : Ledger b 0 0 (defineDenomination face s).1 := by
  unfold Machine.defineDenomination
  refine ite_state (fun _ => h) fun _ => ite_state (fun _ => h) fun hf => ite_state (fun _ => h) fun _ => ?_
  split
  · exact h
  · rename_i slot hslot
    obtain ⟨hempty, hs, -⟩ := Table.lowestEmpty_spec hslot
    refine h.withDenominations (Table.sorted_put h.stock.denominationsSorted _ _) ?_ ?_
    · intro e he
      rcases Table.mem_put he with rfl | he
      · exact ⟨by simpa [denominationSlotOk] using hs, by simpa using hf⟩
      · exact h.stock.denominations e he
    · intro d hd
      have hne : d ≠ slot := by
        rintro rfl
        have := h.stock.emptySlots.of_names hd
        simp [State.denomination?, hempty] at this
      rw [Table.find_put_ne _ _ hne]; rfl

theorem Ledger.withdrawDenomination (h : Ledger b 0 0 s) (slot : Nat) : Ledger b 0 0 (withdrawDenomination slot s).1 := by
  unfold Machine.withdrawDenomination
  refine ite_state (fun _ => h) fun _ => ite_state (fun _ => h) fun _ => ?_
  cases hd : s.denomination? slot with
  | none => exact h
  | some x =>
    dsimp only
    split
    · exact h
    · have hx := h.stock.denominations _ (Table.mem_of_find hd)
      refine h.withDenominations (Table.sorted_put h.stock.denominationsSorted _ _) ?_ ?_
      · intro e he
        rcases Table.mem_put he with rfl | he
        · exact hx
        · exact h.stock.denominations e he
      · intro d _
        rw [Table.find_put]
        split
        · rename_i heq; rw [heq, hd]; rfl
        · rfl

/-- A denomination slot that R129 lets be retired is named by no record. -/
theorem denominationObstacle_none (hc : StockSide s) {slot : Nat} (h : denominationObstacle s slot = none) : ¬s.Names slot := by
  unfold denominationObstacle at h
  cases hf : Table.firstSlot (fun _ (x : Branch) => decide (0 < x.count slot)) s.record.branches with
  | some d => simp [hf] at h
  | none =>
    simp only [hf] at h
    split at h
    · cases h
    rename_i ht
    rw [Option.map_eq_none_iff] at h
    rintro (⟨e, he, f, hfm, rfl⟩ | ⟨x, hx, rfl⟩ | ⟨e, he, l, hl, -⟩)
    · have hz := Table.firstSlot_none hf e he
      obtain ⟨hsorted, hpos⟩ := (hc.branches e he).2.1.1
      have hcount : e.2.count f.1 = f.2 := by
        simp [Branch.count, Figures.at', Table.find_of_mem hsorted (i := f.1) (v := f.2) hfm]
      have := hpos f hfm
      simp only [hcount, decide_eq_false_iff_not] at hz
      omega
    · have : x ∈ transfersOf s x.denomination := by simp [transfersOf, hx]
      exact ht (List.length_pos_of_mem this)
    · have := Table.firstSlot_none h e he
      simp only [Branch.counting, Option.mem_def.1 hl] at this
      cases this

theorem Ledger.retireDenomination (h : Ledger b 0 0 s) (slot : Nat) : Ledger b 0 0 (retireDenomination slot s).1 := by
  unfold Machine.retireDenomination
  refine ite_state (fun _ => h) fun _ => ite_state (fun _ => h) fun _ => ?_
  split
  · exact h
  split
  · exact h
  split
  · exact h
  rename_i ho
  have hn := denominationObstacle_none h.stock ho
  refine h.withDenominations (Table.sorted_erase h.stock.denominationsSorted _)
    (fun e he => h.stock.denominations e (Table.mem_erase he).1) fun d hd => ?_
  rw [Table.find_erase_ne _ (fun heq => hn (by rwa [heq] at hd))]; rfl

/-! ## On-hand counts -/

/-- A branch that is not counting, with a count in range of a slot that is not EMPTY. -/
theorem StockSide.recount (h : StockSide s) {slot d n : Nat} {x : Branch} (hx : s.branch? slot = some x) (hl : x.latch = none)
    (hd : denominationSlotOk d = true) (hs : (s.denomination? d).isSome) (hn : figureOk n = true) (c : BranchCauses) :
    StockSide (s.putBranch slot { x.withCount d n with causes := c })
      ∧ stockValue (s.putBranch slot { x.withCount d n with causes := c }) + x.count d * s.face d
          = stockValue s + n * s.face d := by
  obtain ⟨⟨c1, c2, -⟩, ⟨r1, r2, r3, r4, r5, r6, r7, r8, -⟩, -⟩ := h.lawful hx
  have hf := h.listed hx
  refine ⟨h.putBranch hx ⟨⟨Figures.canonical_set c1 d n, c2, ?_⟩, ⟨r1, r2, r3, r4, r5, r6, StampsInRange.set r7 hd hn, r8, ?_⟩, ?_⟩ rfl
    ⟨?_, ?_⟩, ?_⟩
  · simp [Branch.withCount, hl]
  · simp [Branch.withCount, hl]
  · simp [Branch.withCount, hl]
  · intro f hfm
    rcases mem_set hfm with rfl | hfm
    · exact hs
    · exact hf.1 f hfm
  · simp [Branch.withCount, hl]
  · have hv := stockValue_putBranch h.branchesSorted slot { x.withCount d n with causes := c }
    have hsum := Figures.sum_set s.face c1.1 d n
    rw [State.valueAt_some hx] at hv
    simp only [figuresValue, Branch.withCount, Branch.count] at hv hsum ⊢
    omega

theorem figureOk_iff {n : Nat} : figureOk n = true ↔ n ≤ Config.stampMax := by
  simp [figureOk]

theorem StockSide.count_le (h : StockSide s) {slot : Nat} {x : Branch} (hx : s.branch? slot = some x) (d : Nat) :
    x.count d ≤ Config.stampMax := by
  unfold Branch.count Figures.at'
  cases hf : Table.find x.onHand d with
  | none => exact Nat.zero_le _
  | some n => exact figureOk_iff.1 ((h.lawful hx).2.1.2.2.2.2.2.2.1 _ (Table.mem_of_find hf)).2

/-- Stamps added to a branch: the stock value rises by theirs (R131). -/
theorem StockSide.addStamps (h : StockSide s) {slot d n : Nat} {x : Branch} (hx : s.branch? slot = some x) (hl : x.latch = none)
    (hd : denominationSlotOk d = true) (hs : (s.denomination? d).isSome) (hn : x.count d + n ≤ Config.stampMax) :
    StockSide (addStamps slot x d n s) ∧ stockValue (addStamps slot x d n s) = stockValue s + n * s.face d := by
  obtain ⟨h1, h2⟩ := h.recount hx hl hd hs (figureOk_iff.2 hn) x.causes
  refine ⟨h1, ?_⟩
  rw [Nat.add_mul] at h2
  exact Nat.add_right_cancel (m := x.count d * s.face d) (h2.trans (by omega))

/-- What taking stamps off a branch leaves. -/
theorem takeStamps_record (slot : Nat) (x : Branch) (d n : Nat) (s : State) :
    ∃ c, (takeStamps slot x d n s).record = (s.putBranch slot { x.withCount d (x.count d - n) with causes := c }).record := by
  unfold takeStamps
  dsimp only
  split
  · exact ⟨_, by rw [raiseAttention_record]; rfl⟩
  · exact ⟨_, rfl⟩

theorem takeStamps_outside (h : OutsideKept b s) (slot : Nat) (x : Branch) (d n : Nat) :
    OutsideKept b (takeStamps slot x d n s) := by
  unfold takeStamps
  dsimp only
  split
  · exact (h.withRecord _).raiseAttention
  · exact h.withRecord _

/-- Stamps taken off a branch that holds them: the stock value falls by theirs (R131). -/
theorem StockSide.takeStamps (h : StockSide s) {slot d n : Nat} {x : Branch} (hx : s.branch? slot = some x) (hl : x.latch = none)
    (hd : denominationSlotOk d = true) (hs : (s.denomination? d).isSome) (hn : n ≤ x.count d) :
    StockSide (takeStamps slot x d n s) ∧ stockValue (takeStamps slot x d n s) + n * s.face d = stockValue s := by
  obtain ⟨c, hr⟩ := takeStamps_record slot x d n s
  obtain ⟨h1, h2⟩ := h.recount hx hl hd hs (n := x.count d - n)
    (figureOk_iff.2 (Nat.le_trans (Nat.sub_le _ _) (h.count_le hx d))) c
  refine ⟨h1.congr (by rw [hr]) (by rw [hr]) (by rw [hr]) (by rw [hr]), ?_⟩
  have hv : stockValue (Machine.takeStamps slot x d n s)
      = stockValue (s.putBranch slot { x.withCount d (x.count d - n) with causes := c }) :=
    stockValue_congr (by rw [hr]) (by rw [hr]) (by rw [hr])
  have hmul : (x.count d - n) * s.face d + n * s.face d = x.count d * s.face d := by
    rw [← Nat.add_mul]; congr 1; omega
  omega

theorem MeterBranchLaw.takeStamps (h : MeterBranchLaw s) (slot : Nat) (x : Branch) (d n : Nat) :
    MeterBranchLaw (takeStamps slot x d n s) := by
  obtain ⟨c, hr⟩ := takeStamps_record slot x d n s
  have := h.putBranch slot { x.withCount d (x.count d - n) with causes := c }
  simpa only [MeterBranchLaw, State.branch?, hr] using this

/-! ## The four stock movements -/

/-- What the checks 1 to 6 of R133 leave to a movement: the branch is not counting, and its slot is in range and not EMPTY. -/
theorem Ledger.stockMovement (h : Ledger b 0 0 s) {admits : DenominationState → Bool}
    {act : Branch → Nat → Nat → State → State × Reply} {branch d n : Nat}
    (ha : ∀ x, s.branch? branch = some x → x.latch = none → denominationSlotOk d = true → (s.denomination? d).isSome →
      Ledger b 0 0 (act x (x.count d) (n * s.face d) s).1) : Ledger b 0 0 (stockMovement admits act branch d n s).1 := by
  unfold Machine.stockMovement
  refine ite_state (fun _ => h) fun _ => ite_state (fun _ => h) fun hok => ?_
  split
  · exact h
  · exact h
  · rename_i x y hx hy
    refine ite_state (fun _ => h) fun _ => ite_state (fun _ => h) fun hc => ?_
    simp only [Bool.or_eq_true, Bool.not_eq_true', not_or, Bool.not_eq_false] at hok
    have hface : y.face = s.face d := by simp [State.face, hy]
    rw [hface]
    exact ha x hx (by simpa [Branch.counting] using hc) hok.1.2 (by simp [hy])

theorem Ledger.purchaseStock (h : Ledger b 0 0 s) (branch d n : Nat) : Ledger b 0 0 (purchaseStock branch d n s).1 := by
  refine h.stockMovement fun x hx hl hd hs => ?_
  unfold purchaseAct
  refine ite_state (fun _ => h) fun hn => ite_state (fun _ => h) fun hv => ite_state (fun _ => h) fun hc => ?_
  have hdebit := h.debitPool (n := n * s.face d) (by simpa [covers] using hc)
  obtain ⟨h1, h2⟩ := hdebit.stock.addStamps (slot := branch) (d := d) (n := n) hx hl hd hs (by omega)
  refine hdebit.restock (hdebit.outside.withRecord _) rfl rfl rfl rfl h1 (hdebit.linked.putBranch _ _) ?_
  rw [h2]
  have hface : (Machine.debitPool (n * s.face d) s).face d = s.face d := rfl
  have hvalue : stockValue (Machine.debitPool (n * s.face d) s) = stockValue s := rfl
  obtain ⟨f1, f2, f3, f4, f5, f6, f7, f8, f9⟩ := hdebit.funds
  rw [hface, hvalue] at *
  exact ⟨f1, by simp only [addStamps, State.putBranch_record_pool]; omega, by simp only [addStamps, State.putBranch_record_pool]; omega,
    f4, f5, f6, f7, f8, by omega⟩


/-- Stamps taken off the branch and their value put elsewhere in the identity: into I, X, or a pool credit still due. -/
theorem Ledger.withdraw (h : Ledger b due 0 s) {branch d n : Nat} {x : Branch} (hx : s.branch? branch = some x)
    (hl : x.latch = none) (hd : denominationSlotOk d = true) (hs : (s.denomination? d).isSome) (hn : n ≤ x.count d)
    (hc : (committedFunds s : Int) + due + (n * s.face d : Nat) ≤ (Config.totalMax : Int)) :
    Ledger b (due + (n * s.face d : Nat)) 0 (takeStamps branch x d n s) := by
  obtain ⟨h1, h2⟩ := h.stock.takeStamps hx hl hd hs hn
  obtain ⟨c, hr⟩ := takeStamps_record branch x d n s
  obtain ⟨f1, f2, f3, f4, f5, f6, f7, f8, f9⟩ := h.funds
  have hp : (takeStamps branch x d n s).record.pool = s.record.pool := by rw [hr]; rfl
  refine h.restock (takeStamps_outside h.outside branch x d n) (by rw [hr]; rfl) (by rw [hr]; rfl) (by rw [hr]; rfl)
    (by rw [hp]) h1 (h.linked.takeStamps branch x d n) ?_
  rw [hp]
  simp only [committedFunds] at hc
  exact ⟨f1, by omega, by omega, f4, f5, f6, f7, f8, by omega⟩

/-- The issued addition (R101). -/
theorem Ledger.addIssued (h : Ledger b due owed s) {n : Nat} (hn : s.record.pool.issued + n ≤ Config.totalMax) :
    Ledger b (due - n) owed (addIssued n s) := by
  obtain ⟨h1, h2, h3, h4, h5, h6, h7, h8, h9⟩ := h.funds
  exact h.withPool (by simp) ⟨h1, by simp only; omega, by simp only; omega, h4, h5, h6, hn, h8, h9⟩

/-- A movement that puts the value of the stamps into a total first, so that the value is still to be taken off the stock. -/
theorem Ledger.withdrawn {n : Nat} {d branch : Nat} {x : Branch} (h : Ledger b (0 - (n * s.face d : Nat)) 0 s)
    (hx : s.branch? branch = some x) (hl : x.latch = none) (hd : denominationSlotOk d = true) (hs : (s.denomination? d).isSome)
    (hn : n ≤ x.count d) (hc : committedFunds s ≤ Config.totalMax) : Ledger b 0 0 (takeStamps branch x d n s) := by
  have := h.withdraw hx hl hd hs hn (by omega)
  rwa [Int.sub_add_cancel] at this

theorem Ledger.committed_le (h : Ledger b 0 owed s) : committedFunds s ≤ Config.totalMax := by
  have := h.funds.committed
  simp only [committedFunds]
  omega

theorem Ledger.issueStock (h : Ledger b 0 0 s) (branch d n : Nat) : Ledger b 0 0 (issueStock branch d n s).1 := by
  refine h.stockMovement fun x hx hl hd hs => ?_
  unfold issueAct
  refine ite_state (fun _ => h) fun hn => ite_state (fun _ => h) fun hv => ?_
  exact (h.addIssued (n := n * s.face d) (by omega)).withdrawn (s := Machine.addIssued (n * s.face d) s) hx hl hd hs (by omega)
    h.committed_le

theorem Ledger.writeOffStock (h : Ledger b 0 0 s) (branch d n : Nat) : Ledger b 0 0 (writeOffStock branch d n s).1 := by
  refine h.stockMovement fun x hx hl hd hs => ?_
  unfold writeOffAct
  refine ite_state (fun _ => h) fun hn => ite_state (fun _ => h) fun hv => ?_
  exact (h.addWrittenOff (n := n * s.face d) (by omega)).withdrawn (s := Machine.addWrittenOff (n * s.face d : Nat) s) hx hl hd hs
    (by omega) h.committed_le

theorem creditPool_outside (h : OutsideKept b s) (n : Nat) : OutsideKept b (creditPool n s) := by
  unfold creditPool
  dsimp only
  split
  · exact (h.withRecord _).withRecord _
  · exact h.withRecord _

/-- A pool credit that the block has checked to fit, with its serving (R99, R96, R104, R137). -/
theorem Ledger.creditChecked {n : Nat} (h0 : n = 0 → Ledger b 0 0 s) (hc : Ledger b 0 0 (Machine.creditPool n s)) :
    Ledger b 0 0 (Machine.creditAndServe n s).state := by
  unfold Machine.creditAndServe
  split
  · exact h0 ‹_›
  · exact hc.serveQueue

theorem creditFits_iff {n : Nat} :
    creditFits s n = true ↔ committedFunds s + (n - min s.record.pool.arrears n) ≤ Config.totalMax := by
  simp [creditFits]

theorem Ledger.surrenderStock (h : Ledger b 0 0 s) (branch d n : Nat) : Ledger b 0 0 (surrenderStock branch d n s).1 := by
  refine h.stockMovement fun x hx hl hd hs => ?_
  unfold surrenderAct
  refine ite_state (fun _ => h) fun hn => ite_state (fun _ => h) fun hfit => ?_
  replace hfit := creditFits_iff.1 (by simpa using hfit)
  obtain ⟨h1, h2⟩ := h.stock.takeStamps (n := n) hx hl hd hs (by omega)
  refine Ledger.creditChecked (fun hz => ?_) ?_
  · have := h.withdraw (n := n) hx hl hd hs (by omega) (by have := h.committed_le; omega)
    rwa [hz] at this
  · obtain ⟨c, hr⟩ := takeStamps_record branch x d n s
    obtain ⟨c', hr'⟩ := creditPool_record (n * s.face d) (takeStamps branch x d n s)
    obtain ⟨f1, f2, f3, f4, f5, f6, f7, f8, f9⟩ := h.funds
    have hvalue : stockValue (Machine.creditPool (n * s.face d) (takeStamps branch x d n s))
        = stockValue (takeStamps branch x d n s) := stockValue_congr (by rw [hr']) (by rw [hr']) (by rw [hr'])
    refine h.restock (creditPool_outside (takeStamps_outside h.outside branch x d n) _) (by rw [hr', hr]; rfl)
      (by rw [hr', hr]; rfl) (by rw [hr', hr]; rfl) (by rw [hr', hr]; rfl)
      (h1.congr (by rw [hr']) (by rw [hr']) (by rw [hr']) (by rw [hr'])) ?_ ?_
    · have := h.linked.takeStamps branch x d n
      simpa only [MeterBranchLaw, State.branch?, hr'] using this
    · rw [hvalue, hr', hr]
      simp only [committedFunds] at hfit
      simp only [State.putBranch_record_pool]
      exact ⟨by simp only; omega, by simp only; omega, by simp only; omega, by simp only; omega, f5, f6, f7, f8, by omega⟩

/-! ## DEPOSIT and REFUND -/

theorem Ledger.deposit (h : Ledger b 0 0 s) (n : Nat) : Ledger b 0 0 (deposit n s).1 := by
  unfold Machine.deposit
  refine ite_state (fun _ => h) fun _ => ite_state (fun _ => h) fun _ => ite_state (fun _ => h) fun hn =>
    ite_state (fun _ => h) fun hfit => ?_
  replace hfit := creditFits_iff.1 (by simpa using hfit)
  obtain ⟨f1, f2, f3, f4, f5, f6, f7, f8, f9⟩ := h.funds
  simp only [committedFunds] at hfit
  refine Ledger.creditChecked (fun hz => ?_) ?_
  · subst hz; exact h
  · obtain ⟨c, hr⟩ := creditPool_record n (addDeposits n s)
    have hp : Ledger b 0 0 (s.withPool
        { s.record.pool with
          balance := s.record.pool.balance + (n - min s.record.pool.arrears n)
          arrears := s.record.pool.arrears - min s.record.pool.arrears n
          deposits := s.record.pool.deposits + n }) :=
      h.withPool (by simp) ⟨by simp only; omega, by simp only; omega, by simp only; omega, by simp only; omega,
        by simp only; omega, f6, f7, f8, f9⟩
    exact hp.congr (creditPool_outside (h.outside.withRecord _) n) (by rw [hr]; rfl) (by rw [hr]; rfl) (by rw [hr]; rfl)
      (by rw [hr]; rfl) (by rw [hr]; rfl) (by rw [hr]; rfl) (by rw [hr]; rfl) (by rw [hr]; rfl)

theorem Ledger.refund (h : Ledger b 0 0 s) (n : Nat) : Ledger b 0 0 (refund n s).1 := by
  unfold Machine.refund
  refine ite_state (fun _ => h) fun _ => ite_state (fun _ => h) fun _ => ite_state (fun _ => h) fun hc =>
    ite_state (fun _ => h) fun hd => ?_
  have hcov : n ≤ s.record.pool.balance := by simpa [covers] using hc
  obtain ⟨f1, f2, f3, f4, f5, f6, f7, f8, f9⟩ := h.funds
  exact h.withPool (by simp) ⟨by simp only; omega, by simp only; omega, by simp only; omega, f4, by simp only; omega, f6, f7, f8, f9⟩

end Sys2Proof.Machine
end

section
/-! SUPPORT. The ledger under the transfers and the stock counts. -/

namespace Sys2Proof.Machine

variable {b s t : State} {due owed due' : Int}

/-! ## Transfer numbers (R143) -/

theorem nextNumber_iterate {n : Nat} (hn : numberOk n = true) (i : Nat) : nextNumber^[i] n = (n - 1 + i) % 65535 + 1 := by
  rw [numberOk_iff] at hn
  induction i with
  | zero => simp only [Function.iterate_zero, id_eq]; omega
  | succ i ih =>
    rw [Function.iterate_succ_apply', ih]
    unfold nextNumber
    by_cases h : (n - 1 + i) % 65535 + 1 = Config.numberMax
    · rw [if_pos h]; simp only [Config.numberMax] at h; omega
    · rw [if_neg h]; simp only [Config.numberMax] at h; omega

/-- Where the number given is listed, so are all the numbers passed over. -/
theorem listed_of_freeNumber {l : List Transfer} {k n : Nat} (h : numberListed l (freeNumber l k n) = true) :
    ∀ i ≤ k, numberListed l (nextNumber^[i] n) = true := by
  induction k generalizing n with
  | zero =>
    intro i hi
    rw [Nat.le_zero.1 hi]; exact h
  | succ k ih =>
    simp only [freeNumber] at h
    split at h
    · rename_i hn
      intro i hi
      cases i with
      | zero => exact hn
      | succ i => rw [Function.iterate_succ_apply]; exact ih h i (by omega)
    · rename_i hn; exact absurd h hn

/-- A list of fewer than 65,535 entries leaves a number free among the first it can pass over. -/
theorem freeNumber_free {l : List Transfer} (hl : l.length < 65535) {n : Nat} (hn : numberOk n = true) :
    numberListed l (freeNumber l l.length n) = false := by
  by_contra h
  have hall := listed_of_freeNumber (by simpa using h)
  have hnodup : ((List.range (l.length + 1)).map (fun i => nextNumber^[i] n)).Nodup := by
    refine List.Nodup.map_on (fun i hi j hj hij => ?_) List.nodup_range
    rw [List.mem_range] at hi hj
    rw [nextNumber_iterate hn, nextNumber_iterate hn] at hij
    rw [numberOk_iff] at hn
    omega
  have hsub : (List.range (l.length + 1)).map (fun i => nextNumber^[i] n) ⊆ l.map (·.number) := by
    intro x hx
    obtain ⟨i, hi, rfl⟩ := List.mem_map.1 hx
    have := hall i (by rw [List.mem_range] at hi; omega)
    simpa [numberListed] using this
  have := (hnodup.subperm hsub).length_le
  simp at this

theorem numberOk_freeNumber (l : List Transfer) (k : Nat) {n : Nat} (hn : numberOk n = true) :
    numberOk (freeNumber l k n) = true := by
  induction k generalizing n with
  | zero => exact hn
  | succ k ih =>
    simp only [freeNumber]
    split
    · exact ih (numberOk_nextNumber hn)
    · exact hn

/-! ## DISPATCH -/

/-- An entry between two branches at the tail of a list that has room, under a number of its own. -/
theorem StockSide.listTransfer (h : StockSide s) {x : Transfer} (hlen : s.record.transfers.length < Config.transferPlaces)
    (hnew : ∀ y ∈ s.record.transfers, y.number ≠ x.number) (hok : numberOk x.number = true) (hne : x.origin ≠ x.destination)
    (ho : (s.branch? x.origin).isSome) (hd : (s.branch? x.destination).isSome) (hs : (s.denomination? x.denomination).isSome)
    (hr : denominationSlotOk x.denomination ∧ stampsOk x.count ∧ x.age ≤ Config.ageMax) :
    StockSide (listTransfer x s) ∧ stockValue (listTransfer x s) = stockValue s + transferValue s x := by
  obtain ⟨s1, s2, s3, s4, ⟨s5, s6, s7⟩, ⟨s8, s9, s10, s11⟩, s12, s13⟩ := h
  have hmem : ∀ {P : Transfer → Prop}, (∀ y ∈ s.record.transfers, P y) → P x → ∀ y ∈ s.record.transfers ++ [x], P y := by
    intro P h1 h2 y hy
    rcases List.mem_append.1 hy with hy | hy
    · exact h1 y hy
    · rw [List.mem_singleton.1 hy]; exact h2
  refine ⟨⟨s1, s2, s3, s4, ⟨s5, hmem s6 hs, s7⟩, ⟨?_, ?_, hmem s10 ⟨hok, hne, ho, hd⟩, numberOk_nextNumber hok⟩, s12, hmem s13 hr⟩, ?_⟩
  · simp only [Machine.listTransfer, List.length_append, List.length_singleton]; omega
  · simp only [Machine.listTransfer, List.map_append, List.map_cons, List.map_nil]
    refine List.nodup_append.2 ⟨s9, by simp, ?_⟩
    intro a ha c hc
    obtain ⟨y, hy, rfl⟩ := List.mem_map.1 ha
    rw [List.mem_singleton.1 hc]
    exact hnew y hy
  · have hv : transitValue (Machine.listTransfer x s) = transitValue s + transferValue s x := by
      show ((s.record.transfers ++ [x]).map (transferValue s)).sum = (s.record.transfers.map (transferValue s)).sum + _
      simp
    have ho : onHandValue (Machine.listTransfer x s) = onHandValue s := rfl
    simp only [stockValue, hv, ho]; omega

theorem Ledger.dispatch (h : Ledger b 0 0 s) (origin destination d n : Nat) :
    Ledger b 0 0 (dispatch origin destination d n s).1 := by
  unfold Machine.dispatch
  refine ite_state (fun _ => h) fun _ => ite_state (fun _ => h) fun hok => ite_state (fun _ => h) fun hne => ?_
  simp only [Bool.or_eq_true, Bool.not_eq_true', not_or, Bool.not_eq_false] at hok
  obtain ⟨⟨⟨-, -⟩, hd⟩, hn⟩ := hok
  split
  · exact h
  · exact h
  · exact h
  · rename_i x y z hx hy hz
    unfold dispatchFrom
    refine ite_state (fun _ => h) fun hc => ite_state (fun _ => h) fun hheld => ite_state (fun _ => h) fun hlen => ?_
    have hs : (s.denomination? d).isSome := by simp [hz]
    obtain ⟨h1, h2⟩ := h.stock.takeStamps (n := n) hx (by simpa [Branch.counting] using hc) hd hs (by omega)
    obtain ⟨c, hr⟩ := takeStamps_record origin x d n s
    obtain ⟨-, -, -, hnext⟩ := h.stock.transfers
    have hfree : numberListed s.record.transfers (numberGiven s) = false :=
      freeNumber_free (by simp only [Config.transferPlaces] at hlen; omega) hnext
    have hbr : ∀ {i}, (s.branch? i).isSome → ((takeStamps origin x d n s).branch? i).isSome := by
      intro i hi
      have := State.isSome_branch?_putBranch origin { x.withCount d (x.count d - n) with causes := c } hi
      simpa only [State.branch?, hr] using this
    have hs' : ((takeStamps origin x d n s).denomination? d).isSome := by
      rw [State.denomination?, hr]; exact hs
    obtain ⟨h3, h4⟩ := h1.listTransfer (x := dispatchedEntry s origin destination d n) (by rw [hr]; exact Nat.lt_of_not_le hlen)
      (by
        intro y hy heq
        rw [hr] at hy
        simp only [numberListed, List.any_eq_false, decide_eq_true_eq] at hfree
        exact hfree y hy heq)
      (numberOk_freeNumber _ _ hnext) hne (hbr (i := origin) (by rw [hx]; rfl))
      (hbr (i := destination) (by rw [hy]; rfl)) hs' ⟨hd, hn, Nat.zero_le _⟩
    have hface : transferValue (takeStamps origin x d n s) (dispatchedEntry s origin destination d n) = n * s.face d := by
      simp only [transferValue, face_congr (t := takeStamps origin x d n s) (s := s) (by rw [hr]; rfl), dispatchedEntry]
    refine h.restock ((takeStamps_outside h.outside origin x d n).withRecord _) (by simp only [listTransfer, hr]; rfl)
      (by simp only [listTransfer, hr]; rfl) (by simp only [listTransfer, hr]; rfl) (by simp only [listTransfer, hr]; rfl) h3
      (h.linked.takeStamps origin x d n) ?_
    rw [h4, hface, h2]
    simp only [listTransfer, hr, State.putBranch_record_pool]
    exact h.funds

/-! ## RECEIVE and CANCEL TRANSFER -/

theorem transfer?_some {number : Nat} {x : Transfer} (h : s.transfer? number = some x) : x ∈ s.record.transfers :=
  List.mem_of_find?_eq_some h

theorem sum_filter_number {l : List Transfer} (hn : (l.map (·.number)).Nodup) (f : Transfer → Nat) {x : Transfer} (hx : x ∈ l) :
    ((l.filter (fun y => decide (y.number ≠ x.number))).map f).sum + f x = (l.map f).sum := by
  induction l with
  | nil => cases hx
  | cons y l ih =>
    simp only [List.map_cons, List.nodup_cons] at hn
    rcases List.mem_cons.1 hx with rfl | hx
    · have hall : l.filter (fun y => decide (y.number ≠ x.number)) = l := by
        refine List.filter_eq_self.2 fun y hy => ?_
        simp only [decide_eq_true_eq]
        exact fun heq => hn.1 (heq ▸ List.mem_map_of_mem hy)
      rw [List.filter_cons_of_neg (by simp), hall, List.map_cons, List.sum_cons]; omega
    · have hne : y.number ≠ x.number := fun heq => hn.1 (heq ▸ List.mem_map_of_mem hx)
      have := ih hn.2 hx
      simp only [List.filter_cons, hne, ne_eq, not_false_eq_true, decide_true, if_true, List.map_cons, List.sum_cons] at this ⊢
      omega

/-- An entry off the list: its value leaves the stock value. -/
theorem StockSide.unlistTransfer (h : StockSide s) {x : Transfer} (hx : x ∈ s.record.transfers) :
    StockSide (unlistTransfer x.number s) ∧ stockValue (unlistTransfer x.number s) + transferValue s x = stockValue s := by
  obtain ⟨s1, s2, s3, s4, ⟨s5, s6, s7⟩, ⟨s8, s9, s10, s11⟩, s12, s13⟩ := h
  have hsub : (s.record.transfers.filter (fun y => decide (y.number ≠ x.number))).Sublist s.record.transfers := List.filter_sublist
  refine ⟨⟨s1, s2, s3, s4, ⟨s5, fun y hy => s6 y (hsub.subset hy), s7⟩, ⟨Nat.le_trans hsub.length_le s8, s9.sublist (hsub.map _),
    fun y hy => s10 y (hsub.subset hy), s11⟩, s12, fun y hy => s13 y (hsub.subset hy)⟩, ?_⟩
  have hv := sum_filter_number s9 (transferValue s) hx
  have ho : onHandValue (Machine.unlistTransfer x.number s) = onHandValue s := rfl
  have ht : transitValue (Machine.unlistTransfer x.number s)
      = ((s.record.transfers.filter (fun y => decide (y.number ≠ x.number))).map (transferValue s)).sum := rfl
  simp only [stockValue, ho, ht]
  simp only [transitValue]
  omega

theorem addWrittenOff_zero (s : State) : addWrittenOff 0 s = s := by
  simp [addWrittenOff, State.withPool]

/-- An entry received or cancelled: r of its stamps go to a branch that is not counting, the value of the others is written off. -/
theorem Ledger.landTransfer (h : Ledger b 0 0 s) {x : Transfer} (hx : x ∈ s.record.transfers) {slot r : Nat} {y : Branch}
    (hy : s.branch? slot = some y) (hl : y.latch = none) (hr : r ≤ x.count) (hn : y.count x.denomination + r ≤ Config.stampMax)
    (c : BranchCauses)
    (ho : OutsideKept b t)
    (ht : t.record =
      (Machine.unlistTransfer x.number
        (Machine.addWrittenOff (((x.count - r) * s.face x.denomination : Nat) : Int)
          (s.putBranch slot { y.withCount x.denomination (y.count x.denomination + r) with causes := c }))).record)
    (hw : s.record.pool.writtenOff + ((x.count - r) * s.face x.denomination : Nat) ≤ (Config.totalMax : Int)) :
    Ledger b 0 0 t := by
  have hs := h.stock.emptySlots.2.1 x hx
  obtain ⟨h1, h2⟩ := h.stock.recount hy hl (h.stock.entries x hx).1 hs (figureOk_iff.2 hn) c
  have hlinked := h.linked.putBranch slot { y.withCount x.denomination (y.count x.denomination + r) with causes := c }
  have hval : transferValue (s.putBranch slot { y.withCount x.denomination (y.count x.denomination + r) with causes := c }) x
      = x.count * s.face x.denomination := rfl
  have hpool := s.putBranch_record_pool slot { y.withCount x.denomination (y.count x.denomination + r) with causes := c }
  have hrest : ∀ {u : State}, u = s.putBranch slot { y.withCount x.denomination (y.count x.denomination + r) with causes := c } →
      u.record.meters = s.record.meters ∧ u.record.queue = s.record.queue ∧ u.record.queuePeak = s.record.queuePeak
        ∧ x ∈ u.record.transfers := by
    rintro u rfl
    exact ⟨rfl, rfl, rfl, hx⟩
  generalize hu : s.putBranch slot { y.withCount x.denomination (y.count x.denomination + r) with causes := c } = u at *
  obtain ⟨hmeters, hqueue, hpeak, hmem⟩ := hrest rfl
  obtain ⟨h3, h4⟩ := h1.unlistTransfer hmem
  obtain ⟨f1, f2, f3, f4, f5, f6, f7, f8, f9⟩ := h.funds
  have hstock : stockValue t = stockValue (Machine.unlistTransfer x.number u) :=
    stockValue_congr (by rw [ht]; rfl) (by rw [ht]; rfl) (by rw [ht]; rfl)
  have hsplit : (x.count - r) * s.face x.denomination + r * s.face x.denomination = x.count * s.face x.denomination := by
    rw [← Nat.add_mul]; congr 1; omega
  rw [Nat.add_mul] at h2
  rw [hval] at h4
  refine h.restock ho (by rw [ht]; exact hmeters) (by rw [ht]; exact hqueue) (by rw [ht]; exact hpeak) (by rw [ht]; exact hpool ▸ rfl)
    (h3.congr (by rw [ht]; rfl) (by rw [ht]; rfl) (by rw [ht]; rfl) (by rw [ht]; rfl)) ?_ ?_
  · intro e he
    have := hlinked e (by rw [ht] at he; exact he)
    rw [State.branch?, ht]; exact this
  · have hp : t.record.pool = { s.record.pool with writtenOff := s.record.pool.writtenOff + ((x.count - r) * s.face x.denomination : Nat) } := by
      rw [ht, ← hpool]; rfl
    rw [hstock, hp]
    exact ⟨f1, by simp only; omega, by simp only; omega, f4, f5, f6, f7, by simp only; omega, by omega⟩

theorem Ledger.receive (h : Ledger b 0 0 s) (number r : Nat) : Ledger b 0 0 (receive number r s).1 := by
  unfold Machine.receive
  refine ite_state (fun _ => h) fun _ => ite_state (fun _ => h) fun _ => ?_
  cases hx : s.transfer? number with
  | none => exact h
  | some x =>
    dsimp only
    split
    · exact h
    · exact h
    · rename_i y z hy hz
      unfold receiveInto
      refine ite_state (fun _ => h) fun hr => ite_state (fun _ => h) fun hc => ite_state (fun _ => h) fun hn =>
        ite_state (fun _ => h) fun hw => ?_
      refine h.landTransfer (transfer?_some hx) hy (by simpa [Branch.counting] using hc) (r := r) (by omega) (by omega)
        (if r < x.count then y.causes.with .transitShortfall else y.causes) ?_ ?_ (by omega)
      · unfold receiveStamps
        dsimp only
        split
        · exact ((h.outside.withRecord _).withRecord _).raiseAttention.withRecord _
        · exact (h.outside.withRecord _).withRecord _
      · unfold receiveStamps
        by_cases hlt : r < x.count
        · have hrec : y.receiving x r
              = { y.withCount x.denomination (y.count x.denomination + r) with causes := y.causes.with .transitShortfall } := by
            simp only [Branch.receiving, if_pos hlt]
          simp only [if_pos hlt, unlistTransfer, raiseAttention_record, hrec]
        · have hrec : y.receiving x r = { y.withCount x.denomination (y.count x.denomination + r) with causes := y.causes } := by
            simp only [Branch.receiving, if_neg hlt]
          have hx0 : x.count - r = 0 := by omega
          rw [hrec, hx0, Nat.zero_mul, Int.natCast_zero, addWrittenOff_zero]
          simp only [if_neg hlt, unlistTransfer]

theorem Ledger.cancelTransfer (h : Ledger b 0 0 s) (number : Nat) : Ledger b 0 0 (cancelTransfer number s).1 := by
  unfold Machine.cancelTransfer
  refine ite_state (fun _ => h) fun _ => ite_state (fun _ => h) fun _ => ?_
  cases hx : s.transfer? number with
  | none => exact h
  | some x =>
    dsimp only
    split
    · exact h
    · exact h
    · rename_i y z hy hz
      unfold cancelInto
      refine ite_state (fun _ => h) fun hc => ite_state (fun _ => h) fun hn => ?_
      have hw := h.funds.writtenOff.2
      refine h.landTransfer (transfer?_some hx) hy (by simpa [Branch.counting] using hc) (Nat.le_refl _) (by omega) y.causes
        ((h.outside.withRecord _).withRecord _) ?_ (by simpa using hw)
      rw [Nat.sub_self, Nat.zero_mul, Int.natCast_zero, addWrittenOff_zero]
      rfl

/-! ## Stock counts -/

theorem Ledger.beginCount (h : Ledger b 0 0 s) (slot : Nat) : Ledger b 0 0 (beginCount slot s).1 := by
  unfold Machine.beginCount
  refine ite_state (fun _ => h) fun _ => ite_state (fun _ => h) fun _ => ?_
  cases hx : s.branch? slot with
  | none => exact h
  | some x =>
    refine ite_state (fun _ => h) fun _ => ?_
    obtain ⟨⟨c1, c2, -⟩, ⟨r1, r2, r3, r4, r5, r6, r7, r8, -⟩, -⟩ := h.stock.lawful hx
    have hf := h.stock.listed hx
    refine h.touchBranch (x' := { x with latch := some (x.latchOn s.record.day) }) hx
      ⟨⟨c1, c2, ?_⟩, ⟨r1, r2, r3, r4, r5, r6, r7, r8, ?_⟩, ?_⟩ rfl rfl ⟨hf.1, ?_⟩
    all_goals
      intro l hl
      obtain rfl := Option.some.inj hl
    · exact ⟨c1, List.Pairwise.nil⟩
    · exact ⟨r7, by simp [Branch.latchOn]⟩
    · rfl
    · simp [Branch.latchOn]

theorem Ledger.enterCount (h : Ledger b 0 0 s) (slot d n : Nat) : Ledger b 0 0 (enterCount slot d n s).1 := by
  unfold Machine.enterCount
  refine ite_state (fun _ => h) fun _ => ite_state (fun _ => h) fun hok => ?_
  simp only [Bool.or_eq_true, Bool.not_eq_true', not_or, Bool.not_eq_false] at hok
  cases hx : s.branch? slot with
  | none => exact h
  | some x =>
    dsimp only
    cases hlatch : x.latch with
    | none => exact h
    | some l =>
      dsimp only
      cases hd : s.denomination? d with
      | none => exact h
      | some z =>
        obtain ⟨⟨c1, c2, c3⟩, ⟨r1, r2, r3, r4, r5, r6, r7, r8, r9⟩, hcount⟩ := h.stock.lawful hx
        have hf := h.stock.listed hx
        refine h.touchBranch (x' := { x with latch := some { l with counted := Table.put l.counted d n } }) hx
          ⟨⟨c1, c2, ?_⟩, ⟨r1, r2, r3, r4, r5, r6, r7, r8, ?_⟩, ?_⟩ rfl rfl ⟨hf.1, ?_⟩
        all_goals
          intro l' hl'
          obtain rfl := Option.some.inj hl'
        · exact ⟨(c3 l hlatch).1, Table.sorted_put (c3 l hlatch).2 d n⟩
        · refine ⟨(r9 l hlatch).1, fun e he => ?_⟩
          rcases Table.mem_put he with rfl | he
          · exact ⟨hok.1.2, hok.2⟩
          · exact (r9 l hlatch).2 e he
        · exact hcount l hlatch
        · intro f hfm
          rcases Table.mem_put hfm with rfl | hfm
          · simp [hd]
          · exact hf.2 l hlatch f hfm

/-- A branch with its open count dropped. -/
theorem Branch.Lawful.unlatched {x : Branch} (h : x.Lawful) : x.unlatched.Lawful := by
  obtain ⟨⟨c1, c2, -⟩, ⟨r1, r2, r3, r4, r5, r6, r7, r8, -⟩, -⟩ := h
  exact ⟨⟨c1, c2, by simp [Branch.unlatched]⟩, ⟨r1, r2, r3, r4, r5, r6, r7, r8, by simp [Branch.unlatched]⟩, by simp [Branch.unlatched]⟩

theorem Ledger.abandonCount (h : Ledger b 0 0 s) (slot : Nat) : Ledger b 0 0 (abandonCount slot s).1 := by
  unfold Machine.abandonCount
  refine ite_state (fun _ => h) fun _ => ite_state (fun _ => h) fun _ => ?_
  cases hx : s.branch? slot with
  | none => exact h
  | some x =>
    dsimp only
    cases hlatch : x.latch with
    | none => exact h
    | some l =>
      have hf := h.stock.listed hx
      exact h.touchBranch hx (h.stock.lawful hx).unlatched rfl rfl ⟨hf.1, by simp [Branch.unlatched]⟩

/-- The close of a count changes a branch in its on-hand counts and its causes (R153 step 1). -/
theorem applyFigures_eq (x : Branch) (counted : Table Nat) :
    ∃ c, applyFigures x counted = { x with onHand := setLevels x.onHand counted, causes := c } := by
  induction counted generalizing x with
  | nil => exact ⟨x.causes, rfl⟩
  | cons e rest ih =>
    obtain ⟨d, n⟩ := e
    obtain ⟨c, hc⟩ := ih (x.lowered d n)
    exact ⟨c, hc⟩

theorem signedTotalOk_iff {x : Int} : signedTotalOk x = true ↔ -(Config.totalMax : Int) ≤ x ∧ x ≤ (Config.totalMax : Int) := by
  simp [signedTotalOk]

/-- A close of a count whose net value fits: the figures are the counts, and the net value leaves X (R153). -/
theorem Ledger.closeInto (h : Ledger b 0 0 s) {slot : Nat} {x : Branch} {l : CountLatch} (hx : s.branch? slot = some x)
    (hlatch : x.latch = some l) (hfit : closeFits s x (countNet s l) = true) :
    Ledger b 0 0 (closeInto slot x l (countNet s l) s) := by
  obtain ⟨⟨c1, c2, c3⟩, ⟨r1, r2, r3, r4, r5, -, r7, r8, r9⟩, hcount⟩ := h.stock.lawful hx
  have hf := h.stock.listed hx
  simp only [closeFits, Bool.and_eq_true, Bool.or_eq_true, decide_eq_true_eq] at hfit
  obtain ⟨⟨hstock, hoff⟩, hvar⟩ := hfit
  obtain ⟨c, hc⟩ := applyFigures_eq x l.counted
  have hnew : x.closed l (countNet s l)
      = { x with onHand := setLevels x.onHand l.counted, causes := c, variance := x.variance + countNet s l, latch := none } := by
    simp only [Branch.closed, hc]
  have hst := h.stock.putBranch (x' := x.closed l (countNet s l)) hx
    (by
      rw [hnew]
      exact ⟨⟨canonical_setLevels c1 _, c2, by simp⟩,
        ⟨r1, r2, r3, r4, r5, hvar, StampsInRange.setLevels r7 (r9 l hlatch).2, r8, by simp⟩, by simp⟩)
    (by rw [hnew])
    (by
      rw [hnew]
      refine ⟨fun f hfm => ?_, by simp⟩
      rcases mem_setLevels hfm with hfm | hfm
      · exact hf.2 l hlatch f hfm
      · exact hf.1 f hfm)
  have hv := stockValue_putBranch h.stock.branchesSorted slot (x.closed l (countNet s l))
  have hsum := sum_setLevels s.face c1 (c3 l hlatch).2
  have hnet : countNet s l
      = Table.sumInt (fun d n => countDifference (Figures.at' x.onHand d) n * (s.face d : Int)) l.counted := by
    rw [countNet, hcount l hlatch]
  rw [← hnet] at hsum
  rw [State.valueAt_some hx] at hv
  simp only [figuresValue, hnew] at hv
  rw [signedTotalOk_iff] at hoff
  obtain ⟨f1, f2, f3, f4, f5, f6, f7, f8, f9⟩ := h.funds
  have hvalue : (stockValue (s.putBranch slot (x.closed l (countNet s l))) : Int) = stockValue s + countNet s l := by
    rw [hnew]; omega
  have hclosed : Ledger b 0 0 (Machine.addWrittenOff (-(countNet s l)) (s.putBranch slot (x.closed l (countNet s l)))) := by
    refine h.restock ((h.outside.withRecord _).withRecord _) rfl rfl rfl rfl (hst.congr rfl rfl rfl rfl) (h.linked.putBranch _ _) ?_
    rw [show stockValue (Machine.addWrittenOff (-(countNet s l)) (s.putBranch slot (x.closed l (countNet s l))))
      = stockValue (s.putBranch slot (x.closed l (countNet s l))) from rfl]
    simp only [Machine.addWrittenOff, State.withPool_record_pool, State.putBranch_record_pool]
    exact ⟨f1, by simp only; omega, by simp only; omega, f4, f5, f6, f7, by simp only; omega, by omega⟩
  unfold Machine.closeInto
  exact hclosed.raiseIf

theorem Ledger.closeCount (h : Ledger b 0 0 s) (slot : Nat) : Ledger b 0 0 (closeCount slot s).1 := by
  unfold Machine.closeCount
  refine ite_state (fun _ => h) fun _ => ite_state (fun _ => h) fun _ => ?_
  cases hx : s.branch? slot with
  | none => exact h
  | some x =>
    dsimp only
    cases hlatch : x.latch with
    | none => exact h
    | some l => exact ite_state (fun _ => h) fun hfit => h.closeInto hx hlatch (by simpa using hfit)

end Sys2Proof.Machine
end

section
/-! SUPPORT. The funds invariant (O58) for TAKE ATTENTION, CLOSE DAY and the application of settings. -/

namespace Sys2Proof.Machine

variable {b s t : State} {due owed : Int}

/-! ## TAKE ATTENTION (R172) -/

theorem Ledger.takeAttention (h : Ledger b 0 0 s) (subject slot : Nat) (causes : Half) :
    Ledger b 0 0 (takeAttention subject slot causes s).1 := by
  unfold Machine.takeAttention
  refine ite_state (fun _ => h) fun _ => ?_
  split
  · unfold takeFromMeter
    refine ite_state (fun _ => h) fun _ => ?_
    cases hm : s.meter? slot with
    | none => exact h
    | some m =>
      have hl := h.lawful hm
      exact h.touchMeter (m' := { m with causes := meterCausesLess m.causes causes }) hm hl ⟨rfl, rfl, rfl, rfl, rfl⟩
  · unfold takeFromBranch
    refine ite_state (fun _ => h) fun _ => ?_
    cases hx : s.branch? slot with
    | none => exact h
    | some x =>
      have hl := h.stock.lawful hx
      have hf := h.stock.listed hx
      exact h.touchBranch (x' := { x with causes := branchCausesLess x.causes causes }) hx hl rfl rfl hf
  · unfold takeFromDevice
    exact ite_state (fun _ => h) fun _ => h.withDeviceCauses _
  · exact h

/-! ## The day effects (R158) -/

theorem Meter.Reissued.refl (m : Meter) : m.Reissued m :=
  ⟨rfl, rfl, rfl, rfl, rfl, fun _ => id, id⟩

theorem Meter.Reissued.trans {m m' m'' : Meter} (h : m.Reissued m') (k : m'.Reissued m'') : m.Reissued m'' where
  licence := k.licence.trans h.licence
  branch := k.branch.trans h.branch
  kind := k.kind.trans h.kind
  credit := k.credit.trans h.credit
  refill := k.refill.trans h.refill
  free := fun hk hg => k.free (h.kind.trans hk) (h.free hk hg)
  lawful := k.lawful ∘ h.lawful

theorem Meter.aged_reissued (m : Meter) : m.Reissued m.aged where
  licence := rfl
  branch := rfl
  kind := rfl
  credit := rfl
  refill := rfl
  free := fun _ => id
  lawful := by
    rintro ⟨h1, h2, h3, r1, r2, r3, r4, r5, r6, -, r8⟩
    refine ⟨h1, h2, fun hc => h3 ?_, r1, r2, r3, r4, r5, r6, ageUp_le _, r8⟩
    simp only [Meter.aged] at hc
    split at hc
    · cases hc
    · exact hc

/-- What a daily limit needs of its meter (R49). -/
theorem limitDue_of {m : Meter} (h : limitDue s m = true) : m.kind = .postpaid ∧ m.state = .active ∧ m.grantOut = none := by
  simp only [limitDue, Bool.and_eq_true, decide_eq_true_eq, Option.isNone_iff_eq_none] at h
  obtain ⟨⟨⟨⟨⟨hk, -⟩, ha⟩, hg⟩, -⟩, -⟩ := h
  exact ⟨hk, ha, hg⟩

theorem Meter.refusedWith_reissued (m : Meter) (st : Status) (c : MeterCauses) : m.Reissued { m.refusedWith st with causes := c } := by
  have hf : (m.refusedWith st).licence = m.licence ∧ (m.refusedWith st).branch = m.branch ∧ (m.refusedWith st).kind = m.kind
      ∧ (m.refusedWith st).credit = m.credit ∧ (m.refusedWith st).grantOut = m.grantOut := by
    unfold Meter.refusedWith
    split <;> exact ⟨rfl, rfl, rfl, rfl, rfl⟩
  obtain ⟨f1, f2, f3, f4, f5⟩ := hf
  exact ⟨f1, f2, f3, f4, by simp only [refillOut, f5], fun _ hg => f5.trans hg, fun hl => hl.refusedWith st⟩

theorem Meter.limited_reissued {m : Meter} (h : limitDue s m = true) (cycle : Byte) (timeout : Nat) (d : Decision) :
    m.Reissued (m.limited cycle timeout d) := by
  obtain ⟨hk, ha, hg⟩ := limitDue_of h
  cases d with
  | issue amount reason =>
    refine ⟨rfl, rfl, rfl, rfl, ?_, fun hp => ?_, fun hl => ?_⟩
    · rw [refillOut_none hg]
      simp [refillOut, Meter.limited, Meter.withGrant, refillAmount]
    · rw [hk] at hp; cases hp
    · exact hl.withGrant (kind := .limit) hk (by simp [ha]) amount false cycle timeout
  | refused st f => exact m.refusedWith_reissued st _
  | join a => exact .refl m

theorem Meter.dayEffect_reissued (s : State) (cycle : Byte) (m : Meter) : m.Reissued (m.dayEffect s cycle) := by
  unfold Meter.dayEffect
  split
  · rename_i h
    exact m.aged_reissued.trans (Meter.limited_reissued h ..)
  · exact m.aged_reissued

theorem Branch.Reissued.trans {x x' x'' : Branch} (h : x.Reissued x') (k : x'.Reissued x'') : x.Reissued x'' where
  code := k.code.trans h.code
  onHand := k.onHand.trans h.onHand
  latch := k.latch.elim (fun e => e ▸ h.latch) .inr
  lawful := k.lawful ∘ h.lawful

theorem Branch.Reissued.withCauses (x : Branch) (c : BranchCauses) : x.Reissued { x with causes := c } :=
  ⟨rfl, rfl, .inl rfl, id⟩

theorem Branch.dayCounted_reissued (x : Branch) : x.Reissued x.dayCounted := by
  unfold Branch.dayCounted
  split
  · exact .withCauses x x.causes
  · exact .withCauses x x.causes
  · split
    · refine ⟨rfl, rfl, .inl rfl, ?_⟩
      rintro ⟨hcan, ⟨r1, r2, r3, -, -, r6⟩, hl⟩
      exact ⟨hcan, ⟨r1, r2, r3, Nat.zero_le _, Nat.zero_le _, r6⟩, hl⟩
    · refine ⟨rfl, rfl, .inl rfl, ?_⟩
      rintro ⟨hcan, ⟨r1, r2, r3, -, r5, r6⟩, hl⟩
      exact ⟨hcan, ⟨r1, r2, r3, ageUp_le _, r5, r6⟩, hl⟩

theorem Branch.countDropped_reissued (x : Branch) : x.Reissued x.countDropped := by
  unfold Branch.countDropped
  split
  · exact ⟨rfl, rfl, .inr rfl, fun h => h.unlatched⟩
  · exact .withCauses x x.causes

theorem Branch.transferLate_reissued (x : Branch) (late : Bool) : x.Reissued (x.transferLate late) := by
  unfold Branch.transferLate
  split
  · exact .withCauses x _
  · exact .withCauses x x.causes

theorem Branch.dayEffect_reissued (s : State) (slot : Nat) (x : Branch) : x.Reissued (x.dayEffect s slot) :=
  (x.dayCounted_reissued.trans x.dayCounted.countDropped_reissued).trans (transferLate_reissued ..)

/-- A taken CLOSE DAY leaves every sum and every link as it was (R158). -/
theorem Ledger.dayAdvance (h : Ledger b due owed s) : Ledger b due owed (dayAdvance s) := by
  have hday := ((h.mapMeters (f := fun slot m => m.dayEffect s (limitCycle s slot m)) fun i m _ => m.dayEffect_reissued s _).mapBranches
    (f := fun slot x => x.dayEffect s slot) fun i x => x.dayEffect_reissued s i).mapTransfers
    (f := Transfer.aged s.inForce.overdueDays) fun x => ⟨rfl, rfl, rfl, rfl, rfl, ageUp_le _⟩
  unfold Machine.dayAdvance
  refine Ledger.raiseIf (c := dayRaises s = true) ?_
  exact hday.congr (hday.outside.trans ⟨rfl, rfl, rfl, rfl, rfl, rfl, rfl, id, id⟩) rfl rfl rfl rfl rfl rfl rfl rfl

theorem Ledger.closeDay (h : Ledger b 0 0 s) : Ledger b 0 0 (closeDay s).1 := by
  unfold Machine.closeDay
  exact ite_state (fun _ => h) fun _ => h.dayAdvance

/-! ## The application of settings (R160) -/

theorem within_numberFrom {lo hi d : Nat} (hd : within lo hi d = true) (w : Word) :
    within lo hi ((numberFrom lo hi w).getD d) = true := by
  unfold numberFrom
  split
  · assumption
  · exact hd

theorem mem_refillStepOf (w : Word) : (refillStepOf w).getD 100 ∈ [1, 10, 100, 1000, 10000] := by
  unfold refillStepOf
  split
  · assumption
  · simp

/-- Every value that a field can take is in its range (R159, R160). -/
theorem settingsInRange_settle (h : SettingsInRange s) (st : StoredSettings) (f : SettingField) :
    SettingsInRange { s with inForce := settle st s.inForce f } := by
  obtain ⟨h1, h2, h3, h4, h5⟩ := h
  cases f
  case refillStep => exact ⟨mem_refillStepOf _, h2, h3, h4, h5⟩
  case loadTimeout => exact ⟨h1, within_numberFrom rfl _, h3, h4, h5⟩
  case overdueDays => exact ⟨h1, h2, within_numberFrom rfl _, h4, h5⟩
  case margin => exact ⟨h1, h2, h3, within_numberFrom rfl _, h5⟩
  case reportInterval => exact ⟨h1, h2, h3, h4, within_numberFrom rfl _⟩
  all_goals exact ⟨h1, h2, h3, h4, h5⟩

/-- A mark that stood under its enable, and is cleared where the enable goes off, stands under the enable then in force (R170). -/
theorem marksLaw_dropMarks (h : MarksLaw s) (cur : Settings) : MarksLaw (dropMarks s.inForce { s with inForce := cur }) := by
  constructor
  · intro hm
    simp only [dropMarks, Bool.and_eq_true] at hm
    have he := h.1 hm.1
    simp only [he, Bool.true_and, Bool.not_not] at hm
    exact hm.2
  · intro hm
    simp only [dropMarks, Bool.and_eq_true] at hm
    have he := h.2 hm.1
    simp only [he, Bool.true_and, Bool.not_not] at hm
    exact hm.2

theorem Ledger.applyField (h : Ledger b due owed s) (f : SettingField) : Ledger b due owed (applyField f s) := by
  have hs : ∀ l, Ledger b due owed { dropMarks s.inForce { s with inForce := settle s.stored s.inForce f } with fallenBack := l } :=
    fun l => h.congr (h.outside.trans ⟨rfl, rfl, rfl, rfl, rfl, rfl, rfl, fun hr => settingsInRange_settle hr s.stored f,
      fun hm => marksLaw_dropMarks hm _⟩) rfl rfl rfl rfl rfl rfl rfl rfl
  unfold Machine.applyField
  dsimp only
  split
  · exact hs _
  · exact (hs _).setDeviceCause _

theorem Ledger.applyFields (h : Ledger b due owed s) (l : List SettingField) : Ledger b due owed (applyFields l s) := by
  induction l generalizing s with
  | nil => exact h
  | cons f rest ih => exact ih (h.applyField f)

theorem Ledger.writeStored (h : Ledger b due owed s) (p : SettingsPatch) : Ledger b due owed (writeStored p s) := by
  have hs : Ledger b due owed { s with stored := storePatch p s.stored, choices := s.choices + 1 } :=
    h.congr (h.outside.trans ⟨rfl, rfl, rfl, rfl, rfl, rfl, rfl, id, id⟩) rfl rfl rfl rfl rfl rfl rfl rfl
  exact hs.applyFields _

theorem Ledger.writeSettings (h : Ledger b 0 0 s) (p : SettingsPatch) : Ledger b 0 0 (writeSettings p s).1 := by
  unfold Machine.writeSettings
  exact ite_state (fun _ => h) fun _ => h.writeStored p

/-! ## SET MODE and CLEAR TABLES -/

theorem Ledger.setMode (h : Ledger b 0 0 s) (target : Coded Mode) : Ledger b 0 0 (setMode target s).1 := by
  unfold Machine.setMode
  refine ite_state (fun _ => h) fun _ => ?_
  split
  · exact h
  · exact h
  · refine ite_state (fun _ => h) fun _ => ite_state (fun _ => ?_) fun _ => h.withMode _
    dsimp only [enterService]
    exact ((h.withMode .service).applyFields serviceEntryClass).serveQueue

/-- Record memory whose tables, pool and lists are empty meets every law. -/
theorem Ledger.blank (ho : OutsideKept b s) (marker : Bool) (mode : Mode) (causes : DeviceCauses) :
    Ledger b 0 0 { s with record := { retentionMarker := marker, mode := mode, deviceCauses := causes } } where
  outside := ho.withRecord _
  accounts :=
    ⟨List.Pairwise.nil, by simp, List.nodup_nil, rfl, ⟨Nat.zero_le _, List.nodup_nil, by simp⟩, by simp, ⟨Nat.zero_le _, Nat.zero_le _⟩⟩
  stock :=
    ⟨List.Pairwise.nil, List.Pairwise.nil, by simp, List.nodup_nil, ⟨by simp, by simp, by simp⟩,
      ⟨Nat.zero_le _, List.nodup_nil, by simp, rfl⟩, by simp, by simp⟩
  linked := by simp [MeterBranchLaw]
  funds :=
    ⟨.inl rfl, rfl, Int.natCast_nonneg _, Nat.zero_le _, Nat.zero_le _, Nat.zero_le _, Nat.zero_le _,
      ⟨Int.neg_nonpos_of_nonneg (Int.natCast_nonneg _), Int.natCast_nonneg _⟩, Nat.zero_le _⟩

theorem Ledger.clearTables (h : Ledger b 0 0 s) : Ledger b 0 0 (clearTables s).1 := by
  unfold Machine.clearTables
  exact ite_state (fun _ => h) fun _ => .blank h.outside ..

/-! ## Timers -/

/-- A change of the load seconds that remain to a grant out. -/
theorem Meter.withRemaining_reissued (m : Meter) (f : Nat → Nat) :
    m.Reissued { m with grantOut := m.grantOut.map (fun g => { g with remaining := f g.remaining }) } where
  licence := rfl
  branch := rfl
  kind := rfl
  credit := rfl
  refill := by simp only [refillOut]; cases m.grantOut <;> rfl
  free := fun _ hg => by simp [hg]
  lawful := by
    rintro ⟨h1, ⟨h2, h3⟩, h4, hr⟩
    refine ⟨h1, ⟨fun g hg => ?_, h3⟩, fun hc => by simp [h4 hc], hr⟩
    obtain ⟨g', hg', rfl⟩ := Option.mem_map.1 hg
    exact h2 g' hg'

theorem Ledger.renewTimers (h : Ledger b due owed s) : Ledger b due owed (renewTimers s) :=
  h.mapMeters fun _ m _ => m.withRemaining_reissued fun _ => s.inForce.loadTimeout

/-- A second on every load timer (R66). -/
theorem Ledger.secondLater (h : Ledger b due owed s) (n : Nat) :
    Ledger b due owed
      { s with seconds := n, record.meters := Table.mapRecords (fun _ m => m.secondLater) s.record.meters } := by
  have hm := h.mapMeters (f := fun _ m => m.secondLater) fun _ m _ => m.withRemaining_reissued (· - 1)
  exact hm.congr (hm.outside.trans ⟨rfl, rfl, rfl, rfl, rfl, rfl, rfl, id, id⟩) rfl rfl rfl rfl rfl rfl rfl rfl

/-! ## Start-up (R161, R162) -/

theorem Ledger.checkRetention (h : Ledger b 0 0 s) (lost : Bool) : Ledger b 0 0 (checkRetention lost s) := by
  unfold Machine.checkRetention
  split
  · unfold lostRecord
    split
    · exact .blank h.outside ..
    · exact .blank h.outside ..
  · exact h.withMode _

theorem Ledger.startSettings (h : Ledger b 0 0 (forgetRings s)) (lost : Bool) : Ledger b 0 0 (startSettings lost s) := by
  unfold Machine.startSettings
  exact (((h.applyFields _).checkRetention lost).applyFields _).raiseIf

/-- Empty rings, equal indices and cleared marks meet the laws of the rings and marks. -/
theorem Sound.forgetRings (h : Sound s) : Sound (forgetRings s) where
  canonical :=
    have ⟨hm, hb, hd, _, _, _, _, hc⟩ := h.canonical
    ⟨hm, hb, hd, List.Pairwise.nil, by simp [Machine.forgetRings], List.Pairwise.nil, by simp [Machine.forgetRings], hc⟩
  pool := h.pool
  loaded := h.loaded
  licences := h.licences
  meterBranches := h.meterBranches
  branchCodes := h.branchCodes
  reserved := h.reserved
  queue := h.queue
  kinds := h.kinds
  closing := h.closing
  counts := h.counts
  emptySlots := h.emptySlots
  transfers := h.transfers
  stockValues := h.stockValues
  identity := h.identity
  range := h.range
  records := h.records
  settings := h.settings
  marks := ⟨by simp [Machine.forgetRings], by simp [Machine.forgetRings]⟩
  indices := fun _ => ⟨show (0 - 0 : Byte).toNat ≤ 32 by decide, show (0 - 0 : Byte).toNat ≤ 32 by decide⟩

/-- The record of the last start-up is in no law. -/
theorem Ledger.withStart (h : Ledger b due owed s) (kind : StartKind) (o : Option Retention) :
    Ledger b due owed { s with lastStart := kind, retention := o } :=
  h.congr (h.outside.trans ⟨rfl, rfl, rfl, rfl, rfl, rfl, rfl, id, id⟩) rfl rfl rfl rfl rfl rfl rfl rfl

/-- A start-up is the work of a block on the state whose rings are forgotten. -/
theorem Sound.startUp_ledger (h : Sound s) (kind : StartKind) : Ledger (Machine.forgetRings s) 0 0 (startUp kind s) :=
  (h.forgetRings.ledger.startSettings (findsLost kind s)).renewTimers.serveQueue.withStart kind (retentionOutcome kind (findsLost kind s))

theorem Sound.startUp (h : Sound s) (kind : StartKind) : Sound (startUp kind s) :=
  (h.startUp_ledger kind).sound h.forgetRings

end Sys2Proof.Machine
end

section
/-!
SUPPORT. The rings under the laws of Safety.lean: what sending, posting, taking and the window writes keep; then every block, every command
and every step (O58).
-/

namespace Sys2Proof.Machine

variable {b s t : State} {due owed : Int}

/-! ## The rings -/

/-- The canonical form of both rings. -/
structure RingsCanonical (s : State) : Prop where
  requestsSorted : Table.Sorted s.requestRing
  requests : ∀ e ∈ s.requestRing, e.1 < Config.ringSlots ∧ e.2.canonical
  resultsSorted : Table.Sorted s.resultRing
  results : ∀ e ∈ s.resultRing, e.1 < Config.ringSlots

theorem Sound.rings (h : Sound s) : RingsCanonical s :=
  have ⟨_, _, _, h1, h2, h3, h4, _⟩ := h.canonical
  ⟨h1, h2, h3, h4⟩

/-- A change outside record memory and the settings in force that keeps the laws of the rings, the marks and the indices. -/
theorem Sound.outside (h : Sound s) (hr : t.record = s.record) (hf : t.inForce = s.inForce) (hc : RingsCanonical t) (hm : MarksLaw t)
    (hi : IndexLaw t) : Sound t := by
  obtain ⟨c1, c2, c3, -, -, -, -, c8⟩ := h.canonical
  have ht : t = { t with record := s.record, inForce := s.inForce } := by rw [← hr, ← hf]
  rw [ht] at hc hm hi ⊢
  exact
    { canonical := ⟨c1, c2, c3, hc.requestsSorted, hc.requests, hc.resultsSorted, hc.results, c8⟩
      pool := h.pool
      loaded := h.loaded
      licences := h.licences
      meterBranches := h.meterBranches
      branchCodes := h.branchCodes
      reserved := h.reserved
      queue := h.queue
      kinds := h.kinds
      closing := h.closing
      counts := h.counts
      emptySlots := h.emptySlots
      transfers := h.transfers
      stockValues := h.stockValues
      identity := h.identity
      range := h.range
      records := h.records
      settings := h.settings
      marks := hm
      indices := hi }

/-- A record put into a slot of the Request Ring. -/
theorem RingsCanonical.putRequest (h : RingsCanonical s) (n : Nat) (c : Instr) (producer : Byte) (fault : Bool) :
    RingsCanonical
      { s with
        requestRing := Table.put s.requestRing (n % Config.ringSlots) (.record c)
        requestProducer := producer
        ringFault := fault } where
  requestsSorted := Table.sorted_put h.requestsSorted _ _
  requests e he := by
    rcases Table.mem_put he with rfl | he
    · exact ⟨Nat.mod_lt _ (by decide), rfl⟩
    · exact h.requests e he
  resultsSorted := h.resultsSorted
  results := h.results

theorem Sound.send (h : Sound s) (c : Instr) : Sound (send c s) := by
  refine h.outside rfl rfl (h.rings.putRequest ..) h.marks fun hf => ?_
  simp only [Machine.send, Bool.or_eq_false_iff, decide_eq_false_iff_not, Nat.not_lt] at hf
  exact ⟨hf.2, (h.indices hf.1).2⟩

theorem mem_writeParts {result : ResultRecord} {first : Byte} {n : Nat} {ring : Table ResultSlot}
    (h : ∀ e ∈ ring, e.1 < Config.ringSlots) : ∀ e ∈ writeParts result first n ring, e.1 < Config.ringSlots := by
  induction n with
  | zero => exact h
  | succ n ih =>
    intro e he
    rcases Table.mem_put he with rfl | he
    · exact Nat.mod_lt _ (by decide)
    · exact ih e he

/-- A producer that advances by so many slots as are free leaves no more than 32 in use. -/
theorem inUse_advance {p c : Byte} {n : Nat} (hu : (p - c).toNat ≤ 32) (hn : n ≤ 32 - (p - c).toNat) :
    (p + BitVec.ofNat 8 n - c).toNat ≤ 32 := by
  simp only [BitVec.toNat_sub, BitVec.toNat_add, BitVec.toNat_ofNat] at *
  omega

/-- A consumer that advances past a slot in use leaves fewer in use. -/
theorem inUse_consume {p c : Byte} (hu : 0 < (p - c).toNat) : (p - (c + 1)).toNat ≤ (p - c).toNat := by
  simp only [BitVec.toNat_sub, BitVec.toNat_add, show (1 : Byte).toNat = 1 from rfl] at *
  omega

/-- A record written into an empty ring is in use. -/
theorem inUse_produce {p c : Byte} (hu : (p - c).toNat = 0) : 0 < (p + 1 - c).toNat := by
  simp only [BitVec.toNat_sub, BitVec.toNat_add, show (1 : Byte).toNat = 1 from rfl] at *
  omega

/-- A result posted where it fits (R168 steps 3 to 5). -/
theorem Sound.postResult (h : Sound s) (kind tag : Half) {r : Reply} (hr : s.ringFault = false → slotsTaken kind r ≤ resultsFree s) :
    Sound (postResult kind tag r s) := by
  have hc := h.rings
  refine h.outside rfl rfl
    ⟨hc.requestsSorted, hc.requests, sorted_writeParts _ _ _ hc.resultsSorted, mem_writeParts hc.results⟩ ⟨?_, h.marks.2⟩
    fun hf => ?_
  · intro hm
    exact (Bool.or_eq_true _ _ ▸ hm : s.resultMark = true ∨ s.inForce.resultEnable = true).elim h.marks.1 id
  · obtain ⟨hq, hp⟩ := h.indices hf
    exact ⟨hq, inUse_advance hp (hr hf)⟩

/-- The advance of the request consumer past a record. -/
theorem Sound.consume (h : Sound s) (hu : 0 < requestsInUse s) : Sound { s with requestConsumer := s.requestConsumer + 1 } := by
  have hc := h.rings
  refine h.outside rfl rfl ⟨hc.requestsSorted, hc.requests, hc.resultsSorted, hc.results⟩ h.marks fun hf => ?_
  obtain ⟨hq, hp⟩ := h.indices hf
  exact ⟨Nat.le_trans (inUse_consume hu) hq, hp⟩

theorem Sound.post (h : Sound s) (hu : 0 < requestsInUse s) (kind tag : Half) {r : Reply}
    (hr : s.ringFault = false → slotsTaken kind r ≤ resultsFree s) : Sound (post kind tag r s) :=
  (h.consume hu).postResult kind tag hr

/-! ## Indices that a block leaves -/

theorem OutsideKept.requestsInUse (h : OutsideKept s t) : requestsInUse t = requestsInUse s := by
  simp only [Machine.requestsInUse, h.requestProducer, h.requestConsumer]

theorem OutsideKept.resultsFree (h : OutsideKept s t) : resultsFree t = resultsFree s := by
  simp only [Machine.resultsFree, resultsInUse, h.resultProducer, h.resultConsumer]

/-- A request over a block that keeps the laws. -/
theorem Sound.request (h : Sound s) {c : Instr} {block : State → State × Reply} (hb : Ledger s 0 0 (block s).1) :
    Sound (request c block s) := by
  have ht := hb.sound h
  unfold Machine.request
  split
  · exact h
  · rename_i kind tag _
    split
    · split
      · rename_i htaken
        obtain ⟨hu, hk⟩ := htaken
        have hfit := ((takes_iff _ _ _).1 hk).2
        refine (ht.send c).post ?_ kind tag fun _ => ?_
        · exact inUse_produce (hb.outside.requestsInUse.trans hu)
        · rw [← hb.outside.resultsFree] at hfit
          exact hfit
      · exact h.send c
    · exact h

/-! ## The blocks -/

theorem Ledger.readAttention (h : Ledger b 0 0 s) (start : Nat) : Ledger b 0 0 (readAttention start s).1 := by
  unfold Machine.readAttention
  exact ite_state (fun _ => h) fun _ => ite_state (fun _ => h) fun _ => h

theorem Ledger.readPosition (h : Ledger b 0 0 s) : Ledger b 0 0 (readPosition s).1 := by
  unfold Machine.readPosition
  exact ite_state (fun _ => h) fun _ => h

theorem Ledger.readDenominations (h : Ledger b 0 0 s) : Ledger b 0 0 (readDenominations s).1 := by
  unfold Machine.readDenominations
  exact ite_state (fun _ => h) fun _ => h

theorem Ledger.readTransfers (h : Ledger b 0 0 s) (start : Nat) : Ledger b 0 0 (readTransfers start s).1 := by
  unfold Machine.readTransfers
  exact ite_state (fun _ => h) fun _ => ite_state (fun _ => h) fun _ => h

theorem Ledger.readCount (h : Ledger b 0 0 s) (slot : Nat) : Ledger b 0 0 (readCount slot s).1 := by
  unfold Machine.readCount
  refine ite_state (fun _ => h) fun _ => ite_state (fun _ => h) fun _ => ?_
  cases s.branch? slot with
  | none => exact h
  | some x =>
    dsimp only
    cases x.latch with
    | none => exact h
    | some l => exact h

/-- The block that owns a request keeps every law. -/
theorem Sound.block_ledger (h : Sound s) : ∀ c, Ledger s 0 0 (blockOf c s).1
  | .readStatus _ => h.ledger
  | .readAttention _ start => h.ledger.readAttention start
  | .takeAttention _ subject slot causes => h.ledger.takeAttention subject slot causes
  | .setMode _ target => h.ledger.setMode target
  | .closeDay _ => h.ledger.closeDay
  | .writeSettings _ patch => h.ledger.writeSettings patch
  | .readSettings _ => h.ledger
  | .clearTables _ => h.ledger.clearTables
  | .enrolMeter _ fields => h.ledger.enrolMeter h.settings fields
  | .setMeter _ slot changes => h.ledger.setMeter slot changes
  | .reassignMeter _ slot branch => h.ledger.reassignMeter slot branch
  | .closeMeter _ slot => h.ledger.closeMeter slot
  | .retireMeter _ slot => h.ledger.retireMeter slot
  | .readMeter _ slot take => h.ledger.readMeter slot take
  | .meterReport _ slot sequence ascending descending => h.ledger.meterReport slot sequence ascending descending
  | .resolveMeter _ slot ascending descending => h.ledger.resolveMeter slot ascending descending
  | .refillRequest _ slot amount => h.ledger.grantRequest .refill slot amount
  | .limitRequest _ slot amount => h.ledger.grantRequest .limit slot amount
  | .loadConfirm _ slot number total => h.ledger.loadConfirm slot number total
  | .cancelGrant _ slot number => h.ledger.cancelGrant slot number
  | .cancelQueued _ slot => h.ledger.cancelQueued slot
  | .readQueue _ start => h.ledger.readQueue start
  | .deposit _ amount => h.ledger.deposit amount
  | .refund _ amount => h.ledger.refund amount
  | .readPosition _ => h.ledger.readPosition
  | .openBranch _ code => h.ledger.openBranch code
  | .setBranch _ slot changes => h.ledger.setBranch slot changes
  | .closeBranch _ slot => h.ledger.closeBranch slot
  | .cycleStart _ slot actionKnown => h.ledger.cycleControl startAction_cycle actionKnown slot
  | .cycleStop _ slot => h.ledger.cycleControl stopAction_cycle true slot
  | .cyclePause _ slot => h.ledger.cycleControl pauseAction_cycle true slot
  | .cycleResume _ slot => h.ledger.cycleControl resumeAction_cycle true slot
  | .readBranch _ slot take => h.ledger.readBranch slot take
  | .defineDenomination _ face => h.ledger.defineDenomination face
  | .withdrawDenomination _ slot => h.ledger.withdrawDenomination slot
  | .retireDenomination _ slot => h.ledger.retireDenomination slot
  | .readDenominations _ => h.ledger.readDenominations
  | .purchaseStock _ branch denomination count => h.ledger.purchaseStock branch denomination count
  | .issueStock _ branch denomination count => h.ledger.issueStock branch denomination count
  | .writeOffStock _ branch denomination count => h.ledger.writeOffStock branch denomination count
  | .surrenderStock _ branch denomination count => h.ledger.surrenderStock branch denomination count
  | .dispatch _ origin destination denomination count => h.ledger.dispatch origin destination denomination count
  | .receive _ number count => h.ledger.receive number count
  | .cancelTransfer _ number => h.ledger.cancelTransfer number
  | .readTransfers _ start => h.ledger.readTransfers start
  | .beginCount _ branch => h.ledger.beginCount branch
  | .enterCount _ branch denomination figure => h.ledger.enterCount branch denomination figure
  | .closeCount _ branch => h.ledger.closeCount branch
  | .abandonCount _ branch => h.ledger.abandonCount branch
  | .readCount _ branch => h.ledger.readCount branch
  | .restart _ | .requestProducerIndexWrite _ | .resultConsumerIndexWrite _ | .interruptEnableWordWrite _
  | .ignoredWindowWrite _ _ _ | .powerOn | .pcieReset | .loadSecondsTick | .loadTimerExpiry _ | .msiPermissionChange _
  | .msiWrite | .powerLoss | .backupCellFailure | .badRequest _ _ _ _ => h.ledger

theorem Sound.sentBlock_ledger (h : Sound s) (c : Instr) : Ledger s 0 0 (sentBlock c s).1 := by
  unfold sentBlock
  split
  · exact h.ledger
  · exact h.block_ledger c

/-! ## RESTART and the board's own taking -/

/-- A RESTART's result finds the emptied Result Ring (R161, R168). -/
theorem Sound.restarted (h : Sound s) (tag : Half) : Sound (restarted tag s) := by
  have ho := (h.startUp_ledger .restart).outside
  refine (h.startUp .restart).postResult 0x14 tag fun _ => ?_
  have hfree : resultsFree (Machine.startUp .restart s) = 32 := by 
    rw [ho.resultsFree]
    show 32 - (0 - 0 : Byte).toNat = 32
    decide
  have hone : slotsTaken 0x14 (restartReply (Machine.startUp .restart s)) = 1 := if_pos (show slotsFor (8 * 13) ≤ 1 by decide)
  omega

theorem Sound.sendRestart (h : Sound s) (tag : Half) : Sound (sendRestart tag s) := by
  unfold Machine.sendRestart
  split
  · exact h.outside rfl rfl (h.rings.putRequest ..) h.marks h.indices
  · exact h.send _

theorem Sound.takeRestart (h : Sound s) : Sound (takeRestart s) := by
  rcases takeRestart_cases s with he | ⟨tag, -, -, he⟩
  · rw [he]; exact h
  · rw [he]; exact h.restarted tag

theorem Sound.takeFirst (h : Sound s) : Sound (takeFirst s) := by
  rcases takeFirst_cases s with he | ⟨-, hu, ⟨tag, -, -, he⟩ | ⟨c, kind, tag, -, -, -, ht, he⟩⟩
  · rw [he]; exact h
  · rw [he]; exact h.restarted tag
  · rw [he]
    have hb := h.block_ledger c
    refine (hb.sound h).post (by rw [hb.outside.requestsInUse]; exact hu) kind tag fun _ => ?_
    rw [hb.outside.resultsFree]
    exact ((takes_iff _ _ _).1 ht).2

/-! ## Every command -/

/-- A request other than RESTART is sent over its block; a BAD_REQUEST whose record passes the header check changes nothing (log 29). -/
theorem exec_request_or_same {c : Instr} (hh : (header c).isSome) (hr : isRestart c = false) (s : State) :
    exec c s = .next (request c (sentBlock c) s) ∨ exec c s = .next s := by
  cases c
  case restart => cases hr
  case badRequest tag kind length reserved =>
    show _ ∨ execBadRequest tag kind length reserved s = _
    unfold execBadRequest
    split
    · exact .inr rfl
    · rename_i hp
      exact .inl (congrArg _ (if_neg hp))
  case requestProducerIndexWrite => cases hh
  case resultConsumerIndexWrite => cases hh
  case interruptEnableWordWrite => cases hh
  case ignoredWindowWrite => cases hh
  case powerOn => cases hh
  case pcieReset => cases hh
  case loadSecondsTick => cases hh
  case loadTimerExpiry => cases hh
  case msiPermissionChange => cases hh
  case msiWrite => cases hh
  case powerLoss => cases hh
  case backupCellFailure => cases hh
  all_goals exact .inl rfl

/-- A change of the power, the permission to send messages, or the model's own counts. -/
theorem Sound.withInputs (h : Sound s) (powered permitted : Bool) (sent : Nat) (queue : List Instr) :
    Sound { s with powered := powered, msiPermitted := permitted, msiSent := sent, pending := queue } :=
  h.outside rfl rfl ⟨h.rings.requestsSorted, h.rings.requests, h.rings.resultsSorted, h.rings.results⟩ h.marks h.indices

/-- A write of both indices, under the ring fault or where it leaves no more than 32 slots in use (R169). -/
theorem Sound.withIndices (h : Sound s) {p c : Byte} {fault : Bool}
    (hi : fault = false → s.ringFault = false ∧ (p - s.requestConsumer).toNat ≤ 32 ∧ (s.resultProducer - c).toNat ≤ 32) :
    Sound { s with requestProducer := p, resultConsumer := c, ringFault := fault } :=
  h.outside rfl rfl ⟨h.rings.requestsSorted, h.rings.requests, h.rings.resultsSorted, h.rings.results⟩ h.marks fun hf => (hi hf).2

/-- The fault that a write of an index sets or leaves. -/
theorem Sound.writeIndex (h : Sound s) {p c : Byte} {inUse : Nat}
    (hi : inUse ≤ 32 → s.ringFault = false → (p - s.requestConsumer).toNat ≤ 32 ∧ (s.resultProducer - c).toNat ≤ 32) :
    Sound (if Config.ringSlots < inUse then { s with requestProducer := p, resultConsumer := c, ringFault := true }
      else { s with requestProducer := p, resultConsumer := c }) := by
  split
  · exact h.withIndices nofun
  · rename_i hn
    exact h.withIndices (fault := s.ringFault) fun hf => ⟨hf, hi (Nat.le_of_not_lt hn) hf⟩

/-- A command that acts on a powered board alone. -/
theorem Sound.ifPowered {c : Prop} [Decidable c] (h : Sound s) (ht : Sound t) : Sound (if c then t else s) := by
  split
  · exact ht
  · exact h

/-- Every command leaves every law standing. -/
theorem Sound.exec (h : Sound s) {c : Instr} (hx : exec c s = .next t) : Sound t := by
  by_cases hq : (header c).isSome ∧ isRestart c = false
  · rcases exec_request_or_same hq.1 hq.2 s with he | he
    · obtain rfl := Host.Outcome.next.inj (he.symm.trans hx)
      exact h.request (h.sentBlock_ledger c)
    · obtain rfl := Host.Outcome.next.inj (he.symm.trans hx)
      exact h
  cases c
  case restart tag =>
    obtain rfl := Host.Outcome.next.inj hx
    refine h.ifPowered ?_
    dsimp only
    split
    · exact (h.sendRestart tag).takeRestart
    · exact h.sendRestart tag
  case requestProducerIndexWrite value =>
    obtain rfl := Host.Outcome.next.inj hx
    exact h.ifPowered (h.writeIndex (c := s.resultConsumer) fun hu hf => ⟨hu, (h.indices hf).2⟩)
  case resultConsumerIndexWrite value =>
    obtain rfl := Host.Outcome.next.inj hx
    exact h.ifPowered (h.writeIndex (p := s.requestProducer) fun hu hf => ⟨(h.indices hf).1, hu⟩)
  case interruptEnableWordWrite value =>
    obtain rfl := Host.Outcome.next.inj hx
    exact h.ifPowered ((h.ledger.writeStored _).sound h)
  case ignoredWindowWrite offset width value =>
    obtain rfl := Host.Outcome.next.inj hx
    have hr := canonical_storeBytes ⟨h.rings.requestsSorted, h.rings.requests⟩ offset (leBytes width value)
    exact h.ifPowered (h.outside rfl rfl ⟨hr.1, hr.2, h.rings.resultsSorted, h.rings.results⟩ h.marks h.indices)
  case powerOn =>
    obtain rfl := Host.Outcome.next.inj hx
    exact (h.withInputs true false s.msiSent s.pending).startUp .powerOn
  case pcieReset =>
    obtain rfl := Host.Outcome.next.inj hx
    exact h.ifPowered ((h.withInputs s.powered false s.msiSent s.pending).startUp .pcieReset)
  case loadSecondsTick =>
    obtain rfl := Host.Outcome.next.inj hx
    exact h.ifPowered ((h.ledger.secondLater _).sound h)
  case loadTimerExpiry slot =>
    obtain rfl := Host.Outcome.next.inj hx
    exact h.ifPowered ((h.ledger.expire slot).sound h)
  case msiPermissionChange allowed =>
    obtain rfl := Host.Outcome.next.inj hx
    exact h.ifPowered (h.withInputs s.powered allowed s.msiSent s.pending)
  case msiWrite =>
    obtain rfl := Host.Outcome.next.inj hx
    exact h.ifPowered (h.outside rfl rfl ⟨h.rings.requestsSorted, h.rings.requests, h.rings.resultsSorted, h.rings.results⟩
      ⟨nofun, nofun⟩ h.indices)
  case powerLoss =>
    obtain rfl := Host.Outcome.next.inj hx
    exact h.withInputs false s.msiPermitted s.msiSent s.pending
  case backupCellFailure =>
    obtain rfl := Host.Outcome.next.inj hx
    split
    · exact h
    · exact (Ledger.blank (.refl s) false .setup {}).sound h
  all_goals exact absurd ⟨rfl, rfl⟩ hq

/-- Settles O58: a block is taken through the laws by its `Ledger`, and the rings, indices and marks are kept around it. -/
theorem soundKept : Obligations.SoundKept := by
  intro s t h hx
  cases hp : s.pending with
  | nil =>
    obtain rfl := Host.Outcome.next.inj ((step_nil hp).symm.trans hx)
    exact h.takeFirst
  | cons c rest => exact (h.withInputs s.powered s.msiPermitted s.msiSent rest).exec ((step_cons hp).symm.trans hx)

end Sys2Proof.Machine
end

section
/-!
SUPPORT. From a block to the answer it gives: how a request's checks, written as a chain, answer it; the checks of the modes and ranges as
inequalities; and the updates of the Account Table written out.
-/

namespace Sys2Proof.Machine

variable {s : State}

/-! ## Answers -/

/-- A request over a block answers with what the block gives. -/
theorem answers_of_block {c : Instr} {kind tag : Half} {block : State → State × Reply} {out : State × Reply}
    (hc : header c = some (kind, tag)) (hx : exec c s = .next (request c block s)) (hb : block s = out) : Answers c kind tag s out := by
  rintro ⟨hp, hu, hf, hm⟩
  subst hb
  rw [hx, request_taken hc hp hu hf hm]

/-- One check of a block against one check of a chain of refusals: the check that fails answers, else the rest decides. -/
theorem refused_ite {c d : Prop} [Decidable c] [Decidable d] {x st : Status} {rest : Option Status} {b : State × Reply} (hcd : c ↔ d)
    (hrest : ¬d → rest = some st → b = (s, refuse st)) (h : (if d then some x else rest) = some st) :
    (if c then (s, refuse x) else b) = (s, refuse st) := by
  by_cases hd : d
  · rw [if_pos hd, Option.some.injEq] at h
    rw [if_pos (hcd.2 hd), h]
  · rw [if_neg hd] at h
    rw [if_neg (mt hcd.1 hd)]
    exact hrest hd h

/-! ## Modes and ranges -/

theorem not_builds {m : Mode} : (!builds m) = true ↔ ¬(m = .setup ∨ m = .service) := by
  cases m <;> simp [builds]

theorem not_serves {m : Mode} : (!serves m) = true ↔ m ≠ .service := by
  cases m <;> simp [serves]

theorem not_unlocked {m : Mode} : (!unlocked m) = true ↔ m = .locked := by
  cases m <;> simp [unlocked]

theorem not_meterSlotOk {slot : Nat} : (!meterSlotOk slot) = true ↔ 511 < slot := by
  simp only [meterSlotOk, Bool.not_eq_true', decide_eq_false_iff_not]
  simp only [Config.meterSlots]
  omega

theorem not_branchSlotOk {slot : Nat} : (!branchSlotOk slot) = true ↔ 127 < slot := by
  simp only [branchSlotOk, Bool.not_eq_true', decide_eq_false_iff_not]
  simp only [Config.branchSlots]
  omega

/-! ## REASSIGN METER and CLOSE METER -/

/-- Settles O21: each check of the two blocks is the check of the statement in the same place. -/
theorem reassignAndCloseMeter : Obligations.ReassignAndCloseMeter := by
  intro tag slot branch s
  constructor
  · refine answers_of_block rfl rfl ?_
    refine ite_congr (propext not_builds) (fun _ => rfl) fun _ => ite_congr (propext not_meterSlotOk) (fun _ => rfl) fun _ => ?_
    cases s.meter? slot with
    | none => rfl
    | some m =>
      exact ite_congr (propext not_branchSlotOk) (fun _ => rfl) fun _ =>
        ite_congr (propext Option.isNone_iff_eq_none) (fun _ => rfl) fun _ => rfl
  · refine answers_of_block rfl rfl ?_
    refine ite_congr (propext not_serves) (fun _ => rfl) fun _ => ite_congr (propext not_meterSlotOk) (fun _ => rfl) fun _ => ?_
    cases s.meter? slot with
    | none => rfl
    | some m =>
      cases hstate : m.state with
      | active => simp only [hstate, reduceCtorEq, if_false]; rfl
      | overdue => simp only [hstate, reduceCtorEq, if_false]; rfl
      | dispute => simp only [hstate, if_true]
      | closing => simp only [hstate, reduceCtorEq, if_false, if_true]

/-! ## READ METER and READ BRANCH -/

theorem effective_eq (s : State) (m : Meter) :
    effective s m = if s.inForce.conditioning = .none then m.conditioning else s.inForce.conditioning := by
  unfold effective
  cases hc : s.inForce.conditioning with
  | none => rfl
  | fixed => rfl
  | hold => rfl
  | trial => rfl

theorem branchReadOf_eq (s : State) (slot : Nat) (x : Branch) :
    branchReadOf s slot x =
      { slot := slot
        branch := x
        state := if x.latch.isSome then .counting else .opened
        remaining := x.allowance - x.spent
        inForce := decide (x.run ≠ .stopped ∧ 0 < x.allowance)
        latchPresent := x.latch.isSome
        metersLinked := Table.count (fun _ m => decide (m.branch = slot)) s.record.meters
        transfersFrom := s.record.transfers.countP (fun t => decide (t.origin = slot))
        transfersTo := s.record.transfers.countP (fun t => decide (t.destination = slot)) } := by
  simp only [branchReadOf, Branch.allowanceInForce, Bool.decide_and]
  rfl

/-- Settles O23: each check of the two blocks is the check of the statement in the same place, and the figures are those listed. -/
theorem readMeterAndReadBranch : Obligations.ReadMeterAndReadBranch := by
  intro tag slot take s
  constructor
  · refine answers_of_block rfl rfl ?_
    refine ite_congr (propext not_unlocked) (fun _ => rfl) fun _ => ite_congr (propext not_meterSlotOk) (fun _ => rfl) fun _ => ?_
    cases take with
    | unknown => rfl
    | value takes =>
      cases hm : s.meter? slot with
      | none => rfl
      | some m =>
        dsimp only
        rw [← effective_eq]
        rfl
  · refine answers_of_block rfl rfl ?_
    refine ite_congr (propext not_unlocked) (fun _ => rfl) fun _ => ite_congr (propext not_branchSlotOk) (fun _ => rfl) fun _ => ?_
    cases take with
    | unknown => rfl
    | value takes =>
      cases hx : s.branch? slot with
      | none => rfl
      | some x =>
        dsimp only
        rw [← branchReadOf_eq]
        rfl

end Sys2Proof.Machine
end

section
/-!
SUPPORT. The Account Table's checks as inequalities, the records and states its requests leave written out, and what ENROL METER, SET METER
and RETIRE METER answer (O18, O19, O20, O22).
-/

namespace Sys2Proof.Machine

variable {s : State} {slot : Nat} {m : Meter} {c : MeterChanges}

/-! ## Ranges -/

theorem within_iff {lo hi x : Nat} : within lo hi x = true ↔ lo ≤ x ∧ x ≤ hi := by
  simp [within]

theorem licenceOk_iff {x : Nat} : licenceOk x = true ↔ 1 ≤ x ∧ x ≤ 999999 := within_iff

theorem ceilingOk_iff {x : Nat} : ceilingOk x = true ↔ 1000 ≤ x ∧ x ≤ 99999999 := within_iff

theorem registerOk_iff {x : Nat} : registerOk x = true ↔ x ≤ 99999999 := decide_eq_true_iff

theorem ascendingOk_iff {x : Nat} : ascendingOk x = true ↔ x ≤ 999999999999 := decide_eq_true_iff

theorem markCodeOk_iff {x : Nat} : markCodeOk x = true ↔ x ≤ 7 := decide_eq_true_iff

theorem branchSlotOk_iff {x : Nat} : branchSlotOk x = true ↔ x ≤ 127 :=
  (decide_eq_true_iff (p := x < 128)).trans Nat.lt_succ_iff

theorem coded_iff {α : Type} {x : Coded α} : coded x = true ↔ x ≠ .unknown := by
  cases x <;> simp [coded]

theorem ifPresent_iff {α : Type} {ok : α → Bool} {o : Option α} : ifPresent ok o = true ↔ ∀ x ∈ o, ok x = true := by
  cases o <;> simp [ifPresent]

theorem forall_coded_iff {α : Type} {o : Option (Coded α)} : (∀ x ∈ o, coded x = true) ↔ o ≠ some .unknown := by
  cases o with
  | none => simp
  | some x => simp [coded_iff]

/-- Check 2 of R7. -/
theorem enrolmentOk_iff {e : Enrolment} :
    enrolmentOk e = true ↔ (1 ≤ e.licence ∧ e.licence ≤ 999999) ∧ e.branch ≤ 127 ∧ e.kind ≠ .unknown ∧ e.subMode ≠ .unknown
      ∧ e.conditioning ≠ .unknown ∧ e.standing ≤ 99999999 ∧ (1000 ≤ e.ceiling ∧ e.ceiling ≤ 99999999) ∧ e.markCode ≤ 7
      ∧ e.interval ≤ 60 ∧ e.ascending ≤ 999999999999 ∧ e.descending ≤ 99999999 := by
  simp only [enrolmentOk, Bool.and_eq_true, licenceOk_iff, branchSlotOk_iff, coded_iff, registerOk_iff, ceilingOk_iff, markCodeOk_iff,
    ascendingOk_iff, decide_eq_true_iff, and_assoc]

/-- Check 1 of R9. -/
theorem meterChangesOk_iff :
    meterChangesOk c = true ↔ (∀ x ∈ c.licence, 1 ≤ x ∧ x ≤ 999999) ∧ c.kind ≠ some .unknown ∧ c.subMode ≠ some .unknown
      ∧ c.conditioning ≠ some .unknown ∧ (∀ x ∈ c.standing, x ≤ 99999999) ∧ (∀ x ∈ c.ceiling, 1000 ≤ x ∧ x ≤ 99999999)
      ∧ (∀ x ∈ c.markCode, x ≤ 7) ∧ (∀ x ∈ c.interval, 1 ≤ x ∧ x ≤ 60) := by
  simp only [meterChangesOk, Bool.and_eq_true, forall_coded_iff, ifPresent_iff, licenceOk_iff, registerOk_iff, ceilingOk_iff,
    markCodeOk_iff, within_iff, and_assoc]

theorem not_meterChangesOk :
    (!meterChangesOk c) = true ↔ (∃ x ∈ c.licence, x < 1 ∨ 999999 < x) ∨ c.kind = some .unknown ∨ c.subMode = some .unknown
      ∨ c.conditioning = some .unknown ∨ (∃ x ∈ c.standing, 99999999 < x) ∨ (∃ x ∈ c.ceiling, x < 1000 ∨ 99999999 < x)
      ∨ (∃ x ∈ c.markCode, 7 < x) ∨ (∃ x ∈ c.interval, x < 1 ∨ 60 < x) := by
  rw [Bool.not_eq_true', ← Bool.not_eq_true, meterChangesOk_iff]
  simp only [not_and_or, not_forall, exists_prop, Nat.not_le, not_not]

/-! ## The checks against the table -/

theorem licenceHeld_iff {licence : Nat} {own : Option Nat} :
    licenceHeld s licence own = true ↔ ∃ e ∈ s.record.meters, e.2.licence = licence ∧ some e.1 ≠ own := by
  simp only [licenceHeld, List.any_eq_true, Bool.and_eq_true, decide_eq_true_eq]

theorem licenceClash_iff :
    licenceClash s slot c = true ↔ ∃ x ∈ c.licence, ∃ e ∈ s.record.meters, e.1 ≠ slot ∧ e.2.licence = x := by
  unfold licenceClash
  cases c.licence with
  | none => simp
  | some l =>
    simp only [licenceHeld_iff, Option.mem_some_iff]
    constructor
    · rintro ⟨e, he, hl, hn⟩
      exact ⟨l, rfl, e, he, fun heq => hn (congrArg some heq), hl⟩
    · rintro ⟨x, rfl, e, he, hn, hl⟩
      exact ⟨e, he, hl, fun heq => hn (Option.some.inj heq)⟩

theorem not_ceilingAllows :
    (!ceilingAllows m c) = true ↔ ∃ k ∈ c.ceiling, ∃ g ∈ m.grantOut, g.kind = .refill ∧ k < m.credit + g.amount := by
  unfold ceilingAllows
  cases c.ceiling with
  | none => simp
  | some k =>
    cases m.grantOut with
    | none => simp
    | some g => cases hk : g.kind <;> simp [hk]

/-! ## The below-mark flag (R20, R21) -/

theorem raiseAttention_eq (s : State) : raiseAttention s = { s with attentionMark := s.attentionMark || s.inForce.attentionEnable } := by
  unfold raiseAttention
  cases h : s.inForce.attentionEnable with
  | true => simp
  | false => simp

theorem isBelow_eq (m : Meter) : m.isBelow = decide (0 < m.markCode ∧ 8 * m.credit < m.markCode * m.ceiling) := by
  rw [Bool.decide_and]
  rfl

theorem evaluated_eq (m : Meter) {below falls : Bool} (hb : below = m.isBelow) (hf : falls = (below && !m.belowMark)) :
    m.evaluated = { m with belowMark := below, causes := { m.causes with lowCredit := m.causes.lowCredit || falls } } := by
  have hfalls : m.falls = falls := by rw [hf, hb]; rfl
  unfold Meter.evaluated
  rw [hfalls, hb]
  cases falls with
  | true => simp [MeterCauses.with]
  | false => simp

/-- The record and the attention mark that an evaluation of the below-mark flag leaves (R21). -/
theorem putEvaluated_eq (slot : Nat) (m : Meter) (s : State) {below falls : Bool} (hb : below = m.isBelow)
    (hf : falls = (below && !m.belowMark)) :
    putEvaluated slot m s =
      { s with
        record.meters := Table.put s.record.meters slot
          { m with belowMark := below, causes := { m.causes with lowCredit := m.causes.lowCredit || falls } }
        attentionMark := s.attentionMark || (falls && s.inForce.attentionEnable) } := by
  have hfalls : m.falls = falls := by rw [hf, hb]; rfl
  unfold putEvaluated
  rw [hfalls, evaluated_eq m hb hf]
  cases falls with
  | true => simp [raiseAttention_eq, State.putMeter]
  | false => simp [State.putMeter]

/-- The record and the attention mark that a SET METER leaves: a present ceiling or mark code re-evaluates the flag (R9, R21). -/
theorem putChanged_eq (slot : Nat) (m : Meter) (c : MeterChanges) (s : State) {below falls : Bool}
    (hb : below = if c.ceiling.isSome || c.markCode.isSome then
      decide (0 < (m.changed c).markCode ∧ 8 * m.credit < (m.changed c).markCode * (m.changed c).ceiling) else m.belowMark)
    (hf : falls = (below && !m.belowMark)) :
    putChanged slot m c s =
      { s with
        record.meters := Table.put s.record.meters slot
          { m.changed c with belowMark := below, causes := { m.causes with lowCredit := m.causes.lowCredit || falls } }
        attentionMark := s.attentionMark || (falls && s.inForce.attentionEnable) } := by
  unfold putChanged
  split
  · rename_i h
    rw [if_pos h] at hb
    exact putEvaluated_eq slot (m.changed c) s (hb.trans (isBelow_eq _).symm) hf
  · rename_i h
    rw [if_neg h] at hb
    subst hb
    rw [Bool.and_not_self] at hf
    subst hf
    simp [State.putMeter, Meter.changed]

/-! ## ENROL METER -/

theorem lowestEmptyFrom_eq_none {α : Type} {t : Table α} {n i : Nat} :
    Table.lowestEmptyFrom t n i = none ↔ ∀ j, i ≤ j → j < i + n → (Table.find t j).isSome := by
  induction n generalizing i with
  | zero => simp only [Table.lowestEmptyFrom, true_iff]; omega
  | succ n ih =>
    simp only [Table.lowestEmptyFrom]
    cases hf : Table.find t i with
    | none =>
      simp only [Option.isNone_none, if_true, reduceCtorEq, false_iff]
      exact fun h => by simpa [hf] using h i (Nat.le_refl i) (by omega)
    | some v =>
      simp only [Option.isNone_some, Bool.false_eq_true, if_false, ih]
      constructor
      · intro h j h1 h2
        rcases Nat.eq_or_lt_of_le h1 with rfl | h1
        · simp [hf]
        · exact h j h1 (by omega)
      · exact fun h j h1 h2 => h j (by omega) (by omega)

/-- The table is full when each of its slots is filled (R7 check 6). -/
theorem lowestEmpty_eq_none {α : Type} {t : Table α} {n : Nat} :
    Table.lowestEmpty t n = none ↔ ∀ j ∈ List.range n, (Table.find t j).isSome := by
  simp only [Table.lowestEmpty, lowestEmptyFrom_eq_none, List.mem_range, Nat.zero_le, Nat.zero_add, true_implies]

/-- The lowest EMPTY slot is the EMPTY one below which none is EMPTY (R8). -/
theorem lowestEmpty_eq_some {α : Type} {t : Table α} {n i : Nat} (hi : i < n) (he : Table.find t i = none)
    (hl : ∀ j < i, (Table.find t j).isSome) : Table.lowestEmpty t n = some i := by
  cases h : Table.lowestEmpty t n with
  | none =>
    have := lowestEmpty_eq_none.1 h i (List.mem_range.2 hi)
    simp [he] at this
  | some k =>
    obtain ⟨hk, -, -, hkl⟩ := Table.lowestEmptyFrom_none h
    rcases Nat.lt_trichotomy k i with hlt | rfl | hlt
    · simpa [hk] using hl k hlt
    · rfl
    · simpa [he] using hkl i (Nat.zero_le i) hlt

/-- Check 6 of R7. -/
theorem meters_full_iff :
    Table.lowestEmpty s.record.meters Config.meterSlots = none ↔ ∀ slot ∈ List.range 512, (s.meter? slot).isSome :=
  lowestEmpty_eq_none

theorem not_covers {n : Nat} : (!covers s n) = true ↔ s.record.pool.balance < n := by
  simp [covers]

theorem openingDebit_eq (kind : MeterKind) (d : Nat) : openingDebit kind d = if kind = .prepaid then d else 0 := by
  cases kind <;> rfl

/-- Check 7 of R7: only a PREPAID meter's opening credit asks the pool for anything. -/
theorem not_covers_openingDebit {e : Enrolment} {kind : MeterKind} (hk : e.kind = .value kind) :
    (!covers s (openingDebit kind e.descending)) = true ↔ e.kind = .value .prepaid ∧ s.record.pool.balance < e.descending := by
  rw [not_covers, hk]
  cases kind <;> simp [openingDebit]

/-- The first check that fails answers, and nothing changes (R7). -/
theorem enrolMeter_refused {e : Enrolment} {st : Status}
    (h : (if ¬(s.record.mode = .setup ∨ s.record.mode = .service) then some Status.wrongMode
     else if ¬((1 ≤ e.licence ∧ e.licence ≤ 999999) ∧ e.branch ≤ 127 ∧ e.kind ≠ .unknown ∧ e.subMode ≠ .unknown
        ∧ e.conditioning ≠ .unknown ∧ e.standing ≤ 99999999 ∧ (1000 ≤ e.ceiling ∧ e.ceiling ≤ 99999999) ∧ e.markCode ≤ 7
        ∧ e.interval ≤ 60 ∧ e.ascending ≤ 999999999999 ∧ e.descending ≤ 99999999) then some .badValue
     else if e.ceiling < e.descending then some .badValue
     else if s.branch? e.branch = none then some .unknownBranch
     else if ∃ x ∈ s.record.meters, x.2.licence = e.licence then some .duplicate
     else if ∀ slot ∈ List.range 512, (s.meter? slot).isSome then some .tableFull
     else if e.kind = .value .prepaid ∧ s.record.pool.balance < e.descending then some .poolShort
     else none) = some st) : enrolMeter e s = (s, refuse st) := by
  refine refused_ite not_builds (fun _ => ?_) h
  refine refused_ite (by rw [Bool.not_eq_true', ← Bool.not_eq_true, enrolmentOk_iff]) fun hok => ?_
  refine refused_ite Iff.rfl fun _ => refused_ite Option.isNone_iff_eq_none fun _ => ?_
  refine refused_ite (by simp [licenceHeld_iff]) fun _ => ?_
  obtain ⟨-, -, hkind, hsub, hcond, -⟩ := not_not.1 hok
  intro h
  cases hl : Table.lowestEmpty s.record.meters Config.meterSlots with
  | none =>
    rw [if_pos (meters_full_iff.1 hl), Option.some.injEq] at h
    rw [← h]
  | some slot =>
    rw [if_neg (fun hall => by simp [meters_full_iff.2 hall] at hl)] at h
    cases hk : e.kind with
    | unknown => exact absurd hk hkind
    | value kind =>
      cases hs : e.subMode with
      | unknown => exact absurd hs hsub
      | value sub =>
        cases hc : e.conditioning with
        | unknown => exact absurd hc hcond
        | value cond => exact refused_ite (not_covers_openingDebit hk) (fun _ h => by cases h) h

/-- Settles O18: the checks are those of the statement in its order, and the record that passes them is the evaluated one. -/
theorem enrolMeterAnswered : Obligations.EnrolMeterAnswered := by
  intro tag e s
  refine ⟨fun st h => answers_of_block rfl rfl (enrolMeter_refused h), ?_⟩
  intro kind sub cond slot hmode hl1 hl2 hb hk hs hc hst hc1 hc2 hmk hi ha hd hbr hlic hslot hempty hlower hpool below hbelow
  refine answers_of_block rfl rfl ?_
  have hok : enrolmentOk e = true :=
    enrolmentOk_iff.2 ⟨⟨hl1, hl2⟩, hb, by simp [hk], by simp [hs], by simp [hc], hst, ⟨hc1, hc2⟩, hmk, hi, ha, by omega⟩
  have hcov : (!covers s (openingDebit kind e.descending)) = true → False := by
    rw [not_covers_openingDebit hk, hk, Coded.value.injEq]
    rintro ⟨hp, hlt⟩
    exact absurd (hpool hp) (by omega)
  have hlow : Table.lowestEmpty s.record.meters Config.meterSlots = some slot := lowestEmpty_eq_some hslot hempty hlower
  unfold enrolMeter
  rw [if_neg (mt not_builds.1 (not_not.2 hmode)), if_neg (by simp [hok]), if_neg (by omega),
    if_neg (by simp [Option.isNone_iff_eq_none, Option.ne_none_iff_isSome.2 hbr]), if_neg (by simpa [licenceHeld_iff] using hlic), hlow, hk, hs, hc]
  dsimp only
  have hflag : below = (enrolled s e kind sub cond).isBelow := hbelow.trans (isBelow_eq (enrolled s e kind sub cond)).symm
  rw [if_neg hcov, putEvaluated_eq slot (enrolled s e kind sub cond) _ hflag (Bool.and_true _).symm, openingDebit_eq]
  cases kind with
  | prepaid => rfl
  | postpaid => rfl

/-! ## SET METER -/

/-- The first check that fails answers, and nothing changes (R9). -/
theorem setMeter_refused {st : Status}
    (h : (if ¬(s.record.mode = .setup ∨ s.record.mode = .service) then some Status.wrongMode
       else if 511 < slot then some .badValue
       else
        match s.meter? slot with
        | none => some .unknownMeter
        | some m =>
          if (∃ x ∈ c.licence, x < 1 ∨ 999999 < x) ∨ c.kind = some .unknown ∨ c.subMode = some .unknown
            ∨ c.conditioning = some .unknown ∨ (∃ x ∈ c.standing, 99999999 < x) ∨ (∃ x ∈ c.ceiling, x < 1000 ∨ 99999999 < x)
            ∨ (∃ x ∈ c.markCode, 7 < x) ∨ (∃ x ∈ c.interval, x < 1 ∨ 60 < x) then some .badValue
          else if ∃ x ∈ c.licence, ∃ e ∈ s.record.meters, e.1 ≠ slot ∧ e.2.licence = x then some .duplicate
          else if ∃ k ∈ c.ceiling, ∃ g ∈ m.grantOut, g.kind = .refill ∧ k < m.credit + g.amount then some .badValue
          else none) = some st) : setMeter slot c s = (s, refuse st) := by
  refine refused_ite not_builds (fun _ => refused_ite not_meterSlotOk fun _ => ?_) h
  cases s.meter? slot with
  | none => exact fun h => by rw [Option.some.inj h]
  | some m =>
    exact refused_ite not_meterChangesOk fun _ => refused_ite licenceClash_iff fun _ =>
      refused_ite not_ceilingAllows fun _ h => by cases h

/-- The checks of R9 that come before the changes, passed. -/
theorem setMeter_checked (hmode : s.record.mode = .setup ∨ s.record.mode = .service) (hslot : slot < 512)
    (hm : s.meter? slot = some m) (hok : meterChangesOk c = true)
    (hlic : ∀ x ∈ c.licence, ∀ e ∈ s.record.meters, e.1 ≠ slot → e.2.licence ≠ x)
    (hceil : ∀ k ∈ c.ceiling, ∀ g ∈ m.grantOut, g.kind = .refill → m.credit + g.amount ≤ k) :
    setMeter slot c s = applyChanges slot m c s := by
  have hclash : ¬licenceClash s slot c = true := by
    rw [licenceClash_iff]
    rintro ⟨x, hx, e, he, hne, heq⟩
    exact hlic x hx e he hne heq
  have hallows : ¬(!ceilingAllows m c) = true := by
    rw [not_ceilingAllows]
    rintro ⟨k, hk, g, hg, hkind, hlt⟩
    exact absurd (hceil k hk g hg hkind) (by omega)
  unfold setMeter
  rw [if_neg (mt not_builds.1 (not_not.2 hmode)), if_neg (by rw [not_meterSlotOk]; omega), hm]
  dsimp only
  rw [if_neg (by simp [hok]), if_neg hclash, if_neg hallows]

/-- The result reads the record that the act wrote (log 46). -/
theorem meterSetReply_eq {m' : Meter} {moved : Int} (hm : s.meter? slot = some m') :
    meterSetReply slot m moved s = done (.meterSet m' moved) := by
  rw [meterSetReply, hm]
  rfl

/-- Settles O19: the checks are those of the statement in its order, and the changes are written with the flag re-evaluated. -/
theorem setMeterChangesFields : Obligations.SetMeterChangesFields := by
  refine ⟨fun tag slot c s => ⟨fun st h => answers_of_block rfl rfl (setMeter_refused h), ?_⟩, fun _ _ => ⟨rfl, rfl⟩,
    fun _ _ => ⟨rfl, rfl⟩⟩
  intro m hmode hslot hm hlic hkind hsub hcond hst hceil hmark hint hdup hallow k code below falls hk hcode hbelow hfalls m' hm'
  refine answers_of_block rfl rfl ?_
  subst hk hcode
  have hkept : codedOr m.kind c.kind = m.kind := by rcases hkind with h | h <;> rw [h] <;> rfl
  have hok : meterChangesOk c = true :=
    meterChangesOk_iff.2 ⟨hlic, by rcases hkind with h | h <;> simp [h], hsub, hcond, hst, hceil, hmark, hint⟩
  have hnew : { m.changed c with belowMark := below, causes := { m.causes with lowCredit := m.causes.lowCredit || falls } } = m' := by
    rw [hm', Meter.changed, hkept, if_pos rfl]
  rw [setMeter_checked hmode hslot hm hok hdup hallow, applyChanges, if_pos hkept]
  dsimp only
  rw [putChanged_eq slot m c s hbelow hfalls, hnew]
  exact congrArg _ (meterSetReply_eq (Table.find_put_self ..))

end Sys2Proof.Machine
end

section
/-! SUPPORT. A change of kind (O20) and RETIRE METER with no grant out (O22): the movements of the pool and the queue written out. -/

namespace Sys2Proof.Machine

variable {s : State} {slot : Nat} {m : Meter} {c : MeterChanges}

/-! ## A change of kind (R10) -/

/-- The pool credit before its serving: arrears are paid first, and ARREARS is removed where that leaves none (R99). -/
theorem creditPool_eq (n : Nat) (s : State) :
    creditPool n s =
      { s with
        record.pool.balance := s.record.pool.balance + (n - min s.record.pool.arrears n)
        record.pool.arrears := s.record.pool.arrears - min s.record.pool.arrears n
        record.deviceCauses.arrears := s.record.deviceCauses.arrears
          && !decide (0 < s.record.pool.arrears ∧ s.record.pool.arrears ≤ n) } := by
  have hcond : (0 < s.record.pool.arrears ∧ s.record.pool.arrears - min s.record.pool.arrears n = 0)
      ↔ (0 < s.record.pool.arrears ∧ s.record.pool.arrears ≤ n) := by omega
  unfold creditPool
  dsimp only
  by_cases h : 0 < s.record.pool.arrears ∧ s.record.pool.arrears ≤ n
  · rw [if_pos (hcond.2 h), decide_eq_true h, Bool.not_true, Bool.and_false]
    rfl
  · rw [if_neg (mt hcond.1 h), decide_eq_false h, Bool.not_false, Bool.and_true]
    rfl

/-- The refusals of a change of kind, in R10's order. -/
theorem applyChanges_refused {kind : MeterKind} {st : Status} (hkind : c.kind = some (.value kind)) (hne : kind ≠ m.kind)
    (h : (if m.state = .dispute then some Status.disputed
       else if m.state = .closing then some .wrongState
       else if m.grantOut.isSome then some .grantOut
       else if ∃ e ∈ s.record.queue, e.slot = slot then some .alreadyQueued
       else if kind = .prepaid ∧ s.record.pool.balance < m.credit then some .poolShort
       else none) = some st) : applyChanges slot m c s = (s, refuse st) := by
  have hnew : codedOr m.kind c.kind = kind := by rw [hkind]; rfl
  unfold applyChanges kindChangeRefusal
  rw [hnew]
  dsimp only
  rw [if_neg hne]
  by_cases hd : m.state = .dispute
  · rw [if_pos hd] at h ⊢
    rw [Option.some.inj h]
  rw [if_neg hd] at h ⊢
  by_cases hc : m.state = .closing
  · rw [if_pos hc] at h ⊢
    rw [Option.some.inj h]
  rw [if_neg hc] at h ⊢
  by_cases hg : m.grantOut.isSome
  · rw [if_pos hg] at h ⊢
    rw [Option.some.inj h]
  rw [if_neg hg] at h ⊢
  by_cases hq : ∃ e ∈ s.record.queue, e.slot = slot
  · rw [if_pos hq] at h
    rw [if_pos (queued_iff.2 hq), Option.some.inj h]
  rw [if_neg hq] at h
  rw [if_neg (mt queued_iff.1 hq)]
  cases kind with
  | postpaid => simp at h
  | prepaid => exact refused_ite (by rw [not_covers]; simp) (fun _ h => by cases h) h

/-- The checks of R10 that come before the movement of the credit, passed. -/
theorem kindChangeRefusal_eq_none (hstate : m.state = .active ∨ m.state = .overdue) (hg : m.grantOut = none)
    (hq : s.queued slot = false) : kindChangeRefusal s slot m = none := by
  unfold kindChangeRefusal
  rw [if_neg (by rcases hstate with h | h <;> simp [h]), if_neg (by rcases hstate with h | h <;> simp [h]), if_neg (by simp [hg]),
    if_neg (by simp [hq])]

/-- Settles O20: the refusals are those of the statement in its order; else the changed record is written and its credit is moved, and the
queue's serving does not reach the record, which has no entry there. -/
theorem kindChangeMovesCredit : Obligations.KindChangeMovesCredit := by
  intro tag slot c kind m s hmode hslot hm hkind hne hlic hsub hcond hst hceil hmark hint hdup hallow
  have hnew : codedOr m.kind c.kind = kind := by rw [hkind]; rfl
  have hok : meterChangesOk c = true :=
    meterChangesOk_iff.2 ⟨hlic, by simp [hkind], hsub, hcond, hst, hceil, hmark, hint⟩
  have hchecked := setMeter_checked hmode hslot hm hok hdup hallow
  refine ⟨fun st h => answers_of_block rfl rfl (hchecked.trans (applyChanges_refused hkind hne h)), ?_⟩
  intro k code below falls hk hcode hbelow hfalls m' hm' hstate hg hqueue
  subst hk hcode
  have hq : s.queued slot = false := not_queued_iff.2 hqueue
  have hrecord : { m.changed c with belowMark := below, causes := { m.causes with lowCredit := m.causes.lowCredit || falls } } = m' := by
    rw [hm', Meter.changed, hnew, if_neg hne]
  have hput : ∀ t, putChanged slot m c t = { t with
      record.meters := Table.put t.record.meters slot m'
      attentionMark := t.attentionMark || (falls && t.inForce.attentionEnable) } :=
    fun t => (putChanged_eq slot m c t hbelow hfalls).trans (by rw [hrecord])
  have hnone := kindChangeRefusal_eq_none (s := s) (slot := slot) hstate hg hq
  constructor
  · intro hp hcov
    refine answers_of_block rfl rfl (hchecked.trans ?_)
    unfold applyChanges
    rw [hnew, hp, if_neg (hp ▸ hne), hnone]
    dsimp only
    rw [if_neg (by rw [not_covers]; omega), hput]
    exact congrArg _ (meterSetReply_eq (Table.find_put_self ..))
  · intro hp paid hpaid credited hcredited
    refine answers_of_block rfl rfl (hchecked.trans ?_)
    have hserved : (creditAndServe m.credit (putChanged slot m c s)).state
        = if m.credit = 0 then credited else (serveQueue credited).state := by
      subst hpaid hcredited
      unfold creditAndServe
      rw [hput, creditPool_eq]
      by_cases h0 : m.credit = 0
      · rw [if_pos h0, if_pos h0]
        simp [h0, Nat.pos_iff_ne_zero]
      · rw [if_neg h0, if_neg h0]
    have hu : Unserved slot (some m') s.record.pool.writtenOff (putChanged slot m c s) := by
      rw [hput]
      exact ⟨hq, Table.find_put_self .., rfl⟩
    obtain ⟨-, hleft, -⟩ := hu.creditAndServe m.credit
    unfold applyChanges
    rw [hnew, hp, if_neg (hp ▸ hne), hnone]
    dsimp only
    rw [meterSetReply_eq hleft, hserved]

/-! ## RETIRE METER (R14, R15) -/

/-- The first check that fails answers, and nothing changes (R14, R96). -/
theorem retireMeter_refused {st : Status}
    (h : (if s.record.mode ≠ .service then some Status.wrongMode
       else if 511 < slot then some .badValue
       else
        match s.meter? slot with
        | none => some .unknownMeter
        | some m =>
          if m.kind = .prepaid ∧ 2 ^ 47 - 1 < s.record.pool.writtenOff + m.credit then some .badValue else none) = some st) :
    retireMeter slot s = (s, refuse st) := by
  refine refused_ite not_serves (fun _ => refused_ite not_meterSlotOk fun _ => ?_) h
  cases s.meter? slot with
  | none => exact fun h => by rw [Option.some.inj h]
  | some m => exact refused_ite Iff.rfl fun _ h => by cases h

/-- The queue without a slot's entry; POOL_WAIT goes with the last entry (R84, R90). -/
theorem removeEntry_eq (slot : Nat) (s : State) :
    removeEntry slot s =
      { s with
        record.queue := s.record.queue.filter (fun e => decide (e.slot ≠ slot))
        record.deviceCauses.poolWait := s.record.deviceCauses.poolWait
          && !(s.record.queue.any (fun e => decide (e.slot = slot)) && s.record.queue.all (fun e => decide (e.slot = slot))) } := by
  have hfilter : s.record.queue.filter (fun e => e.slot != slot) = s.record.queue.filter (fun e => decide (e.slot ≠ slot)) := by
    congr 1
    funext e
    exact (decide_not ..).symm
  have hany : s.record.queue.any (fun e => decide (e.slot = slot)) = s.queued slot := rfl
  unfold removeEntry setQueueAfterRemoval
  rw [hany, hfilter]
  cases hq : s.queued slot with
  | false =>
    have hall : s.record.queue.filter (fun e => decide (e.slot ≠ slot)) = s.record.queue :=
      List.filter_eq_self.2 fun e he => decide_eq_true (not_queued_iff.1 hq e he)
    rw [hall, Bool.false_and, Bool.not_false, Bool.and_true]
    rfl
  | true =>
    have hempty : (s.record.queue.filter (fun e => decide (e.slot ≠ slot))).isEmpty
        = s.record.queue.all (fun e => decide (e.slot = slot)) := by
      rw [Bool.eq_iff_iff, List.isEmpty_iff, List.filter_eq_nil_iff, List.all_eq_true]
      simp
    rw [if_pos rfl, hempty, Bool.true_and]
    cases s.record.queue.all (fun e => decide (e.slot = slot)) with
    | true => simp [clearDeviceCause, DeviceCauses.without]
    | false => simp

theorem headIs_iff : headIs s slot = true ↔ (s.record.queue.head?.map (·.slot)) = some slot := by
  unfold headIs
  cases s.record.queue with
  | nil => simp
  | cons e rest => simp

/-- Settles O22: with no grant out there is no void, so the credit is written off, the slot emptied, and the queue served once where the
entry stood at its head. -/
theorem retireMeterWithoutGrant : Obligations.RetireMeterWithoutGrant := by
  intro tag slot s
  refine ⟨fun st h => answers_of_block rfl rfl (retireMeter_refused h), ?_⟩
  intro m hmode hslot hm hg hx off hoff emptied hemptied
  refine answers_of_block rfl rfl ?_
  have hshare : prepaidShare m = off := hoff.symm
  have hempty : emptySlot slot (addWrittenOff off s) = emptied := by
    rw [hemptied, emptySlot, removeEntry_eq]
    rfl
  have hserved : retireServed m = false := by simp [retireServed, hg]
  have hretire : retire slot m s = if (s.record.queue.head?.map (·.slot)) = some slot then (serveQueue emptied).state else emptied := by
    unfold retire retireVoid
    rw [hg, hserved, hshare]
    dsimp only
    rw [hempty, Bool.not_false, Bool.and_true]
    exact ite_congr (propext headIs_iff) (fun _ => rfl) fun _ => rfl
  have hfits : ¬(m.kind = .prepaid ∧ (Config.totalMax : Int) < s.record.pool.writtenOff + m.credit) := by
    rintro ⟨hp, hlt⟩
    exact absurd (hx hp) (Int.not_le.2 hlt)
  unfold retireMeter
  rw [if_neg (by simp [hmode, serves]), if_neg (by rw [not_meterSlotOk]; omega), hm]
  dsimp only
  rw [if_neg hfits, hretire, hg, hshare]
  rfl

end Sys2Proof.Machine
end

section
/-!
SUPPORT. What the shared operations under a report and a resolution leave, written out: the charge, the spent total, settlement, void, late
settlement, DISPUTE and the joining of the queue.
-/

namespace Sys2Proof.Machine

variable {s : State} {slot : Nat} {m : Meter}

/-! ## The pool's charge (R98) -/

/-- A charge takes what the pool has, the rest joins the arrears, and ARREARS is set where they rise from 0 (R98). -/
theorem chargeUsage_eq {paid owed : Nat} {arrearsSet : Bool} (usage : Nat) (s : State) (hpaid : paid = min usage s.record.pool.balance)
    (howed : owed = usage - paid) (hset : arrearsSet = decide (s.record.pool.arrears = 0 ∧ 0 < owed)) :
    chargeUsage usage s =
      { s with
        record.pool.balance := s.record.pool.balance - paid
        record.pool.arrears := s.record.pool.arrears + owed
        record.deviceCauses.arrears := s.record.deviceCauses.arrears || arrearsSet
        attentionMark := s.attentionMark || (arrearsSet && s.inForce.attentionEnable) } := by
  subst hpaid howed
  unfold chargeUsage chargePaid
  dsimp only
  by_cases h : s.record.pool.arrears = 0 ∧ 0 < usage - min usage s.record.pool.balance
  · rw [if_pos h, hset, decide_eq_true h, setDeviceCause, raiseAttention_eq, Bool.or_true, Bool.true_and]
    rfl
  · rw [if_neg h, hset, decide_eq_false h, Bool.or_false, Bool.false_and, Bool.or_false]
    rfl

theorem chargeFigures_eq (kind : MeterKind) (usage : Nat) (s : State) :
    chargeFigures kind usage s =
      (if kind = .postpaid then min usage s.record.pool.balance else 0,
       if kind = .postpaid then usage - min usage s.record.pool.balance else 0) := by
  cases kind <;> rfl

/-- Only a POSTPAID meter's usage is charged (R38, R39). -/
theorem chargeFor_eq {kind : MeterKind} {paid owed : Nat} {arrearsSet : Bool} (usage : Nat) (s : State)
    (hfigures : chargeFigures kind usage s = (paid, owed)) (hset : arrearsSet = decide (s.record.pool.arrears = 0 ∧ 0 < owed)) :
    chargeFor kind usage s =
      { s with
        record.pool.balance := s.record.pool.balance - paid
        record.pool.arrears := s.record.pool.arrears + owed
        record.deviceCauses.arrears := s.record.deviceCauses.arrears || arrearsSet
        attentionMark := s.attentionMark || (arrearsSet && s.inForce.attentionEnable) } := by
  cases kind with
  | prepaid =>
    cases hfigures
    simp [hset, chargeFor]
  | postpaid =>
    cases hfigures
    exact chargeUsage_eq usage s rfl rfl hset

/-- The totals check, read off the two ranges it keeps (R32). -/
theorem usageFits_of {kind : MeterKind} {usage : Nat} (hf : s.record.pool.franked + usage ≤ 2 ^ 47 - 1)
    (ha : kind = .postpaid → s.record.pool.arrears + (usage - min usage s.record.pool.balance) ≤ 2 ^ 47 - 1) :
    usageFits kind usage s = true :=
  usageFits_iff.2 ⟨hf, ha⟩

theorem not_usageFits {kind : MeterKind} {usage : Nat} :
    (!usageFits kind usage s) = true ↔ 2 ^ 47 - 1 < s.record.pool.franked + usage
      ∨ (kind = .postpaid ∧ 2 ^ 47 - 1 < s.record.pool.arrears + (usage - min usage s.record.pool.balance)) := by
  rw [Bool.not_eq_true', ← Bool.not_eq_true, usageFits_iff, Decidable.not_and_iff_or_not, Classical.not_imp, Nat.not_le, Nat.not_le]
  rfl

/-! ## The spent total (R121, R122) -/

theorem countSpent_none {branch : Nat} (amount : Nat) (h : allowanceOf s branch = none) : countSpent branch amount s = s := by
  simp [countSpent, h]

theorem allowanceOf_some {branch : Nat} {x : Branch} (hx : s.branch? branch = some x) (hrun : x.run ≠ .stopped) (ha : 0 < x.allowance) :
    allowanceOf s branch = some x.remaining := by
  simp [allowanceOf, hx, Branch.allowanceInForce, hrun, ha]

/-- An addition to the spent total of a branch whose allowance is in force; ALLOWANCE_SPENT follows what is left (R121, R122). -/
theorem countSpent_eq {branch spent : Nat} {x : Branch} {used : Bool} (amount : Nat) (hx : s.branch? branch = some x)
    (hrun : x.run ≠ .stopped) (ha : 0 < x.allowance) (hspent : spent = min (x.spent + amount) (2 ^ 47 - 1))
    (hused : used = decide (x.allowance < spent + s.inForce.refillStep)) :
    countSpent branch amount s =
      { s with
        record.branches := Table.put s.record.branches branch
          { x with spent := spent, causes := { x.causes with allowanceSpent := x.causes.allowanceSpent || used } }
        attentionMark := s.attentionMark || (used && s.inForce.attentionEnable) } := by
  have hmax : min (x.spent + amount) Config.totalMax = spent := hspent.symm
  unfold countSpent addSpent
  rw [allowanceOf_some hx hrun ha, Option.isSome_some, if_pos rfl, hx]
  dsimp only
  rw [hmax]
  by_cases h : x.allowance < spent + s.inForce.refillStep
  · rw [if_pos ⟨ha, h⟩, hused, decide_eq_true h, setBranchCause, State.branch?_putBranch_self]
    dsimp only
    rw [raiseAttention_eq, State.putBranch, State.putBranch, Table.put_put, Bool.or_true, Bool.true_and]
    rfl
  · rw [if_neg (fun hc => h hc.2), hused, decide_eq_false h, Bool.or_false, Bool.false_and, Bool.or_false]
    rfl

/-! ## Settlement (R69, R75, R76) -/

theorem refillAmount_ite (g : GrantOut) : refillAmount g = if g.kind = .refill then g.amount else 0 := by
  unfold refillAmount
  cases g.kind <;> rfl

theorem unreserve_eq (g : GrantOut) (s : State) :
    unreserve g s = { s with record.pool.reserved := s.record.pool.reserved - if g.kind = .refill then g.amount else 0 } := by
  unfold unreserve
  cases g.kind <;> rfl

/-- The settlement of the grant out (R69): its amount joins C and L and leaves the reserved total. -/
theorem settleFor_grant {below falls : Bool} (slot : Nat) (m : Meter) (s : State) (g : GrantOut)
    (hbelow : below = decide (0 < m.markCode ∧ 8 * (m.credit + g.amount) < m.markCode * m.ceiling))
    (hfalls : falls = (below && !m.belowMark)) :
    settleFor slot m s (.grant g) = some
      { s with
        record.meters := Table.put s.record.meters slot
          { m with
            credit := m.credit + g.amount, loaded := m.loaded + g.amount, grantOut := none, belowMark := below
            causes := { m.causes with lowCredit := m.causes.lowCredit || falls } }
        record.pool.reserved := s.record.pool.reserved - (if g.kind = .refill then g.amount else 0)
        attentionMark := s.attentionMark || (falls && s.inForce.attentionEnable) } := by
  show some (settleGrant slot m g s) = _
  rw [settleGrant, unreserve_eq]
  exact congrArg some (putEvaluated_eq slot { m.loadedWith g.amount with grantOut := none } _
    (hbelow.trans (isBelow_eq { m.loadedWith g.amount with grantOut := none }).symm) hfalls)

/-- The record that a late settlement leaves (R75, R76). -/
theorem putEvaluated_late {below falls : Bool} (slot : Nat) (m : Meter) (s : State) (v : Voided)
    (hbelow : below = decide (0 < m.markCode ∧ 8 * (m.credit + v.amount) < m.markCode * m.ceiling))
    (hfalls : falls = (below && !m.belowMark)) :
    putEvaluated slot { m.loadedWith v.amount with lastVoided := none } s =
      { s with
        record.meters := Table.put s.record.meters slot
          { m with
            credit := m.credit + v.amount, loaded := m.loaded + v.amount, lastVoided := none, belowMark := below
            causes := { m.causes with lowCredit := m.causes.lowCredit || falls } }
        attentionMark := s.attentionMark || (falls && s.inForce.attentionEnable) } :=
  putEvaluated_eq slot { m.loadedWith v.amount with lastVoided := none } s
    (hbelow.trans (isBelow_eq { m.loadedWith v.amount with lastVoided := none }).symm) hfalls

theorem settleFor_lateLimit (slot : Nat) (m : Meter) (s : State) {v : Voided} (hk : v.kind = .limit) :
    settleFor slot m s (.late v) = some (putEvaluated slot { m.loadedWith v.amount with lastVoided := none } s) := by
  show lateSettle slot m v s = _
  unfold lateSettle
  rw [hk]

theorem settleFor_lateRefill (slot : Nat) (m : Meter) {v : Voided} (hk : v.kind = .refill) (hc : v.amount ≤ s.record.pool.balance) :
    settleFor slot m s (.late v) = some
      (putEvaluated slot { m.loadedWith v.amount with lastVoided := none } (countSpent m.branch v.amount (debitPool v.amount s))) := by
  show lateSettle slot m v s = _
  unfold lateSettle
  rw [hk]
  exact if_pos (decide_eq_true hc)

theorem settleFor_lateShort (slot : Nat) (m : Meter) {v : Voided} (hk : v.kind = .refill) (hc : s.record.pool.balance < v.amount) :
    settleFor slot m s (.late v) = none := by
  show lateSettle slot m v s = _
  unfold lateSettle
  rw [hk]
  exact if_neg (by simp [covers, hc])

/-- What the spent total does not touch of the settings in force. -/
@[simp] theorem countSpent_inForce (branch amount : Nat) (s : State) : (countSpent branch amount s).inForce = s.inForce := by
  unfold countSpent addSpent setBranchCause
  cases hx : s.branch? branch with
  | none => simp
  | some x =>
    dsimp only
    rw [State.branch?_putBranch_self]
    split
    · split
      · simp
      · rfl
    · rfl

/-- What a settlement made first leaves alone: the settings, and of the meter's record all but its credit, totals and grants (R34, R35). -/
theorem settleFor_leaves {s1 : State} {m1 : Meter} {first : Settlement} (hm : s.meter? slot = some m)
    (hs : settleFor slot m s first = some s1) (hm1 : s1.meter? slot = some m1) :
    s1.inForce = s.inForce ∧ m.kind = m1.kind ∧ m.state = m1.state ∧ m.ascending = m1.ascending
      ∧ m.lastSequence = m1.lastSequence ∧ m.missed = m1.missed ∧ m.markCode = m1.markCode ∧ m.ceiling = m1.ceiling := by
  cases first with
  | none =>
    cases hs
    cases hm.symm.trans hm1
    exact ⟨rfl, rfl, rfl, rfl, rfl, rfl, rfl, rfl⟩
  | grant g =>
    rw [settleFor_grant slot m s g rfl rfl, Option.some.injEq] at hs
    subst hs
    cases (Table.find_put_self ..).symm.trans hm1
    exact ⟨rfl, rfl, rfl, rfl, rfl, rfl, rfl, rfl⟩
  | late v =>
    have hlate := fun u => putEvaluated_late slot m u v rfl rfl
    rcases lateSettle_some hs with ⟨-, rfl⟩ | ⟨-, -, rfl⟩ <;> rw [hlate] at hm1 <;>
      cases (Table.find_put_self ..).symm.trans hm1
    · exact ⟨putEvaluated_inForce .., rfl, rfl, rfl, rfl, rfl, rfl, rfl⟩
    · exact ⟨(putEvaluated_inForce ..).trans (countSpent_inForce ..), rfl, rfl, rfl, rfl, rfl, rfl, rfl⟩

/-! ## Void and DISPUTE (R71, R41) -/

theorem reduceSpent_eq (g : GrantOut) (s : State) :
    reduceSpent g s =
      { s with
        record.branches :=
          match s.branch? g.branch with
          | none => s.record.branches
          | some x =>
            if g.counted = true ∧ x.cycle = g.cycle then Table.put s.record.branches g.branch { x with spent := x.spent - g.amount }
            else s.record.branches } := by
  unfold reduceSpent
  cases s.branch? g.branch with
  | none => rfl
  | some x =>
    dsimp only
    split <;> rfl

/-- The void of a grant out, up to its pool credit (R71 steps 1 to 5). -/
theorem voidGrant_eq (slot : Nat) (m : Meter) (g : GrantOut) (s : State) :
    voidGrant slot m g s =
      { s with
        record.meters := Table.put s.record.meters slot (m.voided g)
        record.branches := (reduceSpent g s).record.branches
        record.pool.reserved := s.record.pool.reserved - (if g.kind = .refill then g.amount else 0)
        attentionMark := s.attentionMark || s.inForce.attentionEnable } := by
  unfold voidGrant
  rw [raiseAttention_eq, unreserve_eq, reduceSpent_eq, reduceSpent_eq]
  rfl

theorem enterDispute_eq (slot : Nat) (m : Meter) (s : State) :
    enterDispute slot m s =
      { s with
        record.meters := Table.put s.record.meters slot { m with state := .dispute, causes := { m.causes with dispute := true } }
        attentionMark := s.attentionMark || s.inForce.attentionEnable } :=
  raiseAttention_eq _

end Sys2Proof.Machine
end

section
/-!
SUPPORT. METER REPORT: its checks before the control check (O24), the control check and DISPUTE (O25), the accepted report (O26).
-/

namespace Sys2Proof.Machine

variable {s : State} {slot : Nat} {m : Meter} {q : Half} {a d : Nat}

/-! ## The checks before the control check (R27, R30, R32) -/

theorem not_registersOk :
    (!meterSlotOk slot || !ascendingOk a || !registerOk d) = true ↔ 511 < slot ∨ 999999999999 < a ∨ 99999999 < d := by
  have ha : (!ascendingOk a) = true ↔ 999999999999 < a := by
    rw [Bool.not_eq_true', ← Bool.not_eq_true, ascendingOk_iff, Nat.not_le]
  have hd : (!registerOk d) = true ↔ 99999999 < d := by
    rw [Bool.not_eq_true', ← Bool.not_eq_true, registerOk_iff, Nat.not_le]
  rw [Bool.or_eq_true, Bool.or_eq_true, not_meterSlotOk, ha, hd, or_assoc]

/-- The first of checks 1 to 4 that fails answers, and nothing changes (R27). -/
theorem meterReport_refused {st : Status}
    (h : (if s.record.mode ≠ .service then some Status.wrongMode
       else if 511 < slot ∨ 999999999999 < a ∨ 99999999 < d then some .badValue
       else
        match s.meter? slot with
        | none => some .unknownMeter
        | some m => if m.state = .dispute then some .disputed else none) = some st) :
    meterReport slot q a d s = (s, refuse st) := by
  refine refused_ite not_serves (fun _ => refused_ite not_registersOk fun _ => ?_) h
  cases s.meter? slot with
  | none => exact fun h => by rw [Option.some.inj h]
  | some m => exact refused_ite Iff.rfl fun _ h => by cases h

/-- Checks 1 to 4 of R27, passed. -/
theorem meterReport_checked (hmode : s.record.mode = .service) (hslot : slot < 512) (ha : a ≤ 999999999999) (hd : d ≤ 99999999)
    (hm : s.meter? slot = some m) (hstate : m.state ≠ .dispute) : meterReport slot q a d s = reportOn slot m q a d s := by
  unfold meterReport
  rw [if_neg (by rw [not_serves, hmode]; simp), if_neg (by rw [not_registersOk]; omega), hm]
  exact if_neg hstate

/-- The sequence window (R30). -/
theorem inWindow_iff : inWindow m q = true ↔ ∀ last ∈ m.lastSequence, 1 ≤ (q - last).toNat ∧ (q - last).toNat ≤ 64 := by
  unfold inWindow ahead
  cases m.lastSequence with
  | none => simp
  | some last => simp [within_iff, Config.sequenceWindow]

/-- Check 5 fails: the report is stale, and counted (R30). -/
theorem reportOn_stale {last : Half} (a d : Nat) (s : State) (hl : m.lastSequence = some last)
    (hw : (q - last).toNat = 0 ∨ 64 < (q - last).toNat) :
    reportOn slot m q a d s =
      ({ s with record.meters := Table.put s.record.meters slot { m with stale := min (m.stale + 1) 65535 } },
       refuseWith .staleReport (.lastSequence last)) := by
  have hout : inWindow m q = false := by
    rw [← Bool.not_eq_true, inWindow_iff, hl]
    intro h
    have := h last rfl
    omega
  unfold reportOn
  rw [hout, hl]
  rfl

/-- Check 6 fails: a total would pass its range, and nothing changes (R32). -/
theorem reportOn_unfit (d : Nat) (hw : inWindow m q = true) (hle : m.ascending ≤ a) (hfit : usageFits m.kind (a - m.ascending) s = false) :
    reportOn slot m q a d s = (s, refuse .badValue) := by
  unfold reportOn
  rw [hw, if_pos ⟨hle, hfit⟩]
  cases m.lastSequence <;> rfl

/-- Checks 5 and 6 passed: the control check, on the settlement that the total calls for (R33). -/
theorem reportOn_checked {first : Settlement} (hw : inWindow m q = true)
    (hfit : m.ascending ≤ a → usageFits m.kind (a - m.ascending) s = true) (hfirst : settlementFor m (a + d) = first) :
    (∀ s1, settleFor slot m s first = some s1 → reportOn slot m q a d s = judgeReport slot (settledFirst first) q a d s1)
      ∧ ∀ v, settleFor slot m s first = none → m.lastVoided = some v → reportOn slot m q a d s =
          (enterDispute slot m s, refuseWith .poolShort (.lateShort v.amount s.record.pool.balance)) := by
  have hpass : ¬(m.ascending ≤ a ∧ usageFits m.kind (a - m.ascending) s = false) := by
    rintro ⟨hle, hf⟩
    simp [hfit hle] at hf
  unfold reportOn
  rw [hw, hfirst]
  dsimp only
  rw [if_neg hpass]
  constructor
  · intro s1 hs
    rw [hs]
    cases m.lastSequence <;> rfl
  · intro v hs hv
    rw [hs, hv]
    cases m.lastSequence <;> rfl

/-- Settles O24: the checks are those of the statement in its order, and of those on the record only the stale report is counted. -/
theorem meterReportRefusedBeforeControl : Obligations.MeterReportRefusedBeforeControl := by
  intro tag slot q a d s
  refine ⟨fun st h => answers_of_block rfl rfl (meterReport_refused h), ?_⟩
  intro m hmode hslot ha hd hm hstate
  have hchecked : meterReport slot q a d s = reportOn slot m q a d s := meterReport_checked hmode hslot ha hd hm hstate
  constructor
  · intro last hl hw
    exact answers_of_block rfl rfl (hchecked.trans (reportOn_stale a d s hl hw))
  · intro hw hle hover
    refine answers_of_block rfl rfl (hchecked.trans (reportOn_unfit d (inWindow_iff.2 hw) hle ?_))
    exact Bool.not_eq_true' _ ▸ not_usageFits.2 hover

/-! ## The control check (R33 to R36) -/

theorem holds_iff {n : Nat} : m.holds n = true ↔ m.credit + n ≤ 99999999 := decide_eq_true_iff

theorem stepOneApplies_eq_some {total : Nat} {g : GrantOut} (hg : m.grantOut = some g) (ht : total = m.loaded + g.amount)
    (hc : m.credit + g.amount ≤ 99999999) : stepOneApplies m total = some g := by
  simp [stepOneApplies, hg, ht, holds_iff, hc]

theorem stepOneApplies_eq_none {total : Nat} (h : ∀ g ∈ m.grantOut, total ≠ m.loaded + g.amount ∨ 99999999 < m.credit + g.amount) :
    stepOneApplies m total = none := by
  unfold stepOneApplies
  cases hg : m.grantOut with
  | none => rfl
  | some g =>
    have := h g hg
    exact if_neg (by rw [holds_iff]; omega)

theorem stepTwoApplies_eq_some {total : Nat} {v : Voided} (hv : m.lastVoided = some v) (ht : total = m.loaded + v.amount)
    (hc : m.credit + v.amount ≤ 99999999) : stepTwoApplies m total = some v := by
  simp [stepTwoApplies, hv, ht, holds_iff, hc]

theorem stepTwoApplies_eq_none {total : Nat} (h : ∀ v ∈ m.lastVoided, total ≠ m.loaded + v.amount ∨ 99999999 < m.credit + v.amount) :
    stepTwoApplies m total = none := by
  unfold stepTwoApplies
  cases hv : m.lastVoided with
  | none => rfl
  | some v =>
    have := h v hv
    exact if_neg (by rw [holds_iff]; omega)

/-- Step 1 applies (R33). -/
theorem settlementFor_grant {total : Nat} {g : GrantOut} (hg : m.grantOut = some g) (ht : total = m.loaded + g.amount)
    (hc : m.credit + g.amount ≤ 99999999) : settlementFor m total = .grant g := by
  rw [settlementFor, stepOneApplies_eq_some hg ht hc]

/-- Step 1 does not apply, and step 2 does (R33). -/
theorem settlementFor_late {total : Nat} {v : Voided}
    (h : ∀ g ∈ m.grantOut, total ≠ m.loaded + g.amount ∨ 99999999 < m.credit + g.amount) (hv : m.lastVoided = some v)
    (ht : total = m.loaded + v.amount) (hc : m.credit + v.amount ≤ 99999999) : settlementFor m total = .late v := by
  rw [settlementFor, stepOneApplies_eq_none h, stepTwoApplies_eq_some hv ht hc]

/-- Neither step applies (R33). -/
theorem settlementFor_none {total : Nat}
    (h : ∀ g ∈ m.grantOut, total ≠ m.loaded + g.amount ∨ 99999999 < m.credit + g.amount)
    (hv : ∀ v ∈ m.lastVoided, total ≠ m.loaded + v.amount ∨ 99999999 < m.credit + v.amount) : settlementFor m total = .none := by
  rw [settlementFor, stepOneApplies_eq_none h, stepTwoApplies_eq_none hv]

theorem stepThreePasses_iff : stepThreePasses m a d = true ↔ (a + d = m.loaded ∧ m.ascending ≤ a) ∧ d ≤ m.credit := by
  simp only [stepThreePasses, Bool.and_eq_true, decide_eq_true_eq]

/-- Step 3 fails: the mismatch is counted and the meter enters DISPUTE (R36, R41). -/
theorem judgeReport_fails (first : SettledFirst) (q : Half) (hm : s.meter? slot = some m)
    (h : a + d ≠ m.loaded ∨ a < m.ascending ∨ m.credit < d) :
    judgeReport slot first q a d s =
      ({ s with
          record.meters := Table.put s.record.meters slot
            { m with
              mismatches := min (m.mismatches + 1) 65535, state := .dispute, causes := { m.causes with dispute := true } }
          attentionMark := s.attentionMark || s.inForce.attentionEnable },
       refuseWith .controlMismatch (.reportMismatch m.loaded (m.grantOut.map (·.amount)) first)) := by
  unfold judgeReport
  rw [hm]
  dsimp only
  rw [if_neg (by rw [stepThreePasses_iff]; omega), mismatchReport, enterDispute_eq]
  rfl

/-- Settles O25: the report reaches the control check, the total decides the settlement, and step 3 judges what it leaves. -/
theorem meterReportEntersDispute : Obligations.MeterReportEntersDispute := by
  intro tag slot q a d m s hmode hslot ha hd hm hstate hw hf hp
  have hfit : m.ascending ≤ a → usageFits m.kind (a - m.ascending) s = true := fun hle => usageFits_of (hf hle) (hp hle)
  have hchecked : meterReport slot q a d s = reportOn slot m q a d s := meterReport_checked hmode hslot ha hd hm hstate
  refine ⟨fun hg hv hbad => ?_, fun v hg hv hk ht hc hshort => ?_, fun first field s1 m1 hcalls hs hm1 hbad => ?_⟩
  · have hreach := (reportOn_checked (slot := slot) (inWindow_iff.2 hw) hfit (settlementFor_none hg hv)).1 s rfl
    exact answers_of_block rfl rfl (hchecked.trans (hreach.trans (judgeReport_fails _ q hm hbad)))
  · have hreach := (reportOn_checked (slot := slot) (inWindow_iff.2 hw) hfit (settlementFor_late hg hv ht hc)).2 v
      (settleFor_lateShort slot m hk hshort) hv
    exact answers_of_block rfl rfl (hchecked.trans (hreach.trans (by rw [enterDispute_eq])))
  · obtain ⟨hset, -⟩ := settleFor_leaves hm hs hm1
    have hfirst : settlementFor m (a + d) = first ∧ settledFirst first = field := by
      rcases hcalls with ⟨g, hg, ht, hc, rfl, rfl⟩ | ⟨hg, v, hv, ht, hc, rfl, rfl⟩
      · exact ⟨settlementFor_grant hg ht hc, rfl⟩
      · exact ⟨settlementFor_late hg hv ht hc, rfl⟩
    obtain ⟨hcall, rfl⟩ := hfirst
    have hreach := (reportOn_checked (slot := slot) (inWindow_iff.2 hw) hfit hcall).1 s1 hs
    rw [← hset]
    exact answers_of_block rfl rfl (hchecked.trans (hreach.trans (judgeReport_fails _ q hm1 hbad)))

end Sys2Proof.Machine
end

section
/-!
SUPPORT. METER REPORT accepted (O26): what the report writes, the retirement of a CLOSING meter, and the answer.
-/

namespace Sys2Proof.Machine

variable {s : State} {slot : Nat} {m : Meter} {q : Half} {a d : Nat}

/-! ## What an accepted report writes (R31, R37 to R39, R98, R101) -/

theorem skipped_eq (m : Meter) (q : Half) : skipped m q = (m.lastSequence.map (fun last => (q - last).toNat - 1)).getD 0 := by
  unfold skipped ahead
  cases m.lastSequence <;> rfl

/-- The record, the franked total and the charge that an accepted report leaves. -/
theorem settleReport_eq {paid owed missed : Nat} {below lowCredit arrearsSet : Bool} (q : Half) (a d : Nat)
    (hfigures : chargeFigures m.kind (a - m.ascending) s = (paid, owed)) (hmissed : missed = skipped m q)
    (hbelow : below = decide (0 < m.markCode ∧ 8 * d < m.markCode * m.ceiling)) (hlow : lowCredit = (below && !m.belowMark))
    (hset : arrearsSet = decide (s.record.pool.arrears = 0 ∧ 0 < owed)) :
    settleReport slot m q a d s =
      { s with
        record.meters := Table.put s.record.meters slot
          { m with
            credit := d, ascending := a, lastSequence := some q, missed := min (m.missed + missed) 65535, daysSince := 0
            state := if m.state = .overdue then .active else m.state
            belowMark := below, causes := { m.causes with lowCredit := m.causes.lowCredit || lowCredit } }
        record.pool.franked := s.record.pool.franked + (a - m.ascending)
        record.pool.balance := s.record.pool.balance - paid
        record.pool.arrears := s.record.pool.arrears + owed
        record.deviceCauses.arrears := s.record.deviceCauses.arrears || arrearsSet
        attentionMark := s.attentionMark || ((lowCredit || arrearsSet) && s.inForce.attentionEnable) } := by
  have hput := putEvaluated_eq slot (m.reported q a d) s (hbelow.trans (isBelow_eq (m.reported q a d)).symm) hlow
  rw [Bool.and_or_distrib_right, ← Bool.or_assoc, hmissed]
  unfold settleReport
  dsimp only
  rw [hput]
  refine Eq.trans (chargeFor_eq (paid := paid) (owed := owed) (arrearsSet := arrearsSet) _ _ ?_ ?_) rfl
  · exact hfigures
  · exact hset

/-! ## The retirement of a CLOSING meter (R40, R90) -/

/-- The state with a meter slot EMPTY and its queue entry gone, written out. -/
theorem emptySlot_written (slot : Nat) (t : State) :
    emptySlot slot t =
      { t with
        record.meters := Table.erase t.record.meters slot
        record.queue := t.record.queue.filter (fun e => decide (e.slot ≠ slot))
        record.deviceCauses.poolWait := t.record.deviceCauses.poolWait
          && !(t.record.queue.any (fun e => decide (e.slot = slot)) && t.record.queue.all (fun e => decide (e.slot = slot))) } := by
  rw [emptySlot, removeEntry_eq]
  rfl

/-- The queue is served once, for the credit or for the removal of its head (R40, R85, R99). -/
theorem retireClosing_eq {credit : Nat} {kind : MeterKind} {emptied : State} (t : State) (he : emptySlot slot t = emptied) :
    retireClosing slot credit kind t =
      if kind = .prepaid ∧ 0 < credit then (serveQueue (creditPool credit emptied)).state
      else if (t.record.queue.head?.map (·.slot)) = some slot then (serveQueue emptied).state else emptied := by
  have hhead : (if headIs t slot then (serveQueue emptied).state else emptied)
      = if (t.record.queue.head?.map (·.slot)) = some slot then (serveQueue emptied).state else emptied :=
    ite_congr (propext headIs_iff) (fun _ => rfl) fun _ => rfl
  unfold retireClosing
  rw [he]
  cases kind with
  | postpaid =>
    rw [if_neg (fun hc : MeterKind.postpaid = .prepaid ∧ 0 < credit => nomatch hc.1)]
    exact hhead
  | prepaid =>
    dsimp only
    by_cases h0 : credit = 0
    · rw [if_pos h0, if_neg (fun hc : MeterKind.prepaid = .prepaid ∧ 0 < credit => Nat.ne_of_gt hc.2 h0)]
      exact hhead
    · rw [if_neg h0, if_pos ⟨rfl, Nat.pos_of_ne_zero h0⟩, creditAndServe, if_neg h0]

/-! ## The answer -/

/-- Step 3 passes: the report is accepted (R36, R37). -/
theorem judgeReport_passes (first : SettledFirst) (q : Half) (hm : s.meter? slot = some m) (hl : a + d = m.loaded)
    (ha : m.ascending ≤ a) (hd : d ≤ m.credit) : judgeReport slot first q a d s = acceptReport slot m first q a d s := by
  unfold judgeReport
  rw [hm]
  exact if_pos (stepThreePasses_iff.2 ⟨⟨hl, ha⟩, hd⟩)

/-- An accepted report on the record `m`, which writes the state `t` and then ends by its closing or by its top-up (R37 to R40, R47). -/
theorem acceptReport_eq {paid owed : Nat} {t : State} {ended : State × TopUp} (first : SettledFirst)
    (hfigures : chargeFigures m.kind (a - m.ascending) s = (paid, owed)) (ht : settleReport slot m q a d s = t)
    (hended : ended = if m.state ≠ .closing then topUp slot t else (retireClosing slot d m.kind t, .notOriginated)) :
    acceptReport slot m first q a d s =
      (ended.1,
       done (.report
        { settledFirst := first, usage := a - m.ascending, missed := skipped m q, credit := d, loaded := m.loaded, charged := paid
          arrearsAdded := owed, retired := decide (m.state = .closing)
          credited := if m.state = .closing ∧ m.kind = .prepaid then d else 0, topUp := ended.2 })) := by
  unfold acceptReport
  dsimp only
  rw [hfigures, ht, hended]
  by_cases hc : m.state = .closing
  · simp only [hc, decide_true, ne_eq, not_true_eq_false, if_true, if_false]
  · simp only [hc, decide_false, ne_eq, not_false_eq_true, if_true, if_false, Bool.false_eq_true]

/-- Settles O26: the total decides the settlement, which leaves the record's other fields, and the report is written on the record that it
leaves; the second part is the settlement written out. -/
theorem meterReportAccepted : Obligations.MeterReportAccepted := by
  constructor
  · intro tag slot q a d m m1 first s s1 hmode hslot ha hd hm hstate hw hle hf hp hcalls hs hm1 hl hcredit usage paid owed missed below
      lowCredit arrearsSet husage hpaid howed hmissed hbelow hlow hset t ht emptied hemptied ended hended
    have hcall : settlementFor m (a + d) = first := by
      rcases hcalls with ⟨g, hg, htotal, hc, rfl⟩ | ⟨hg, ⟨v, hv, htotal, hc, rfl⟩ | ⟨hv, rfl⟩⟩
      · exact settlementFor_grant hg htotal hc
      · exact settlementFor_late hg hv htotal hc
      · exact settlementFor_none hg hv
    obtain ⟨hforce, hkind, hstate1, hasc, hlast, hskips, hcode, hceiling⟩ := settleFor_leaves hm hs hm1
    have hchecked : meterReport slot q a d s = acceptReport slot m1 (settledFirst first) q a d s1 :=
      calc meterReport slot q a d s = reportOn slot m q a d s := meterReport_checked hmode hslot ha hd hm hstate
        _ = judgeReport slot (settledFirst first) q a d s1 :=
          (reportOn_checked (inWindow_iff.2 hw) (fun _ => usageFits_of hf hp) hcall).1 s1 hs
        _ = acceptReport slot m1 (settledFirst first) q a d s1 := judgeReport_passes _ q hm1 hl (hasc ▸ hle) hcredit
    rw [hkind] at hpaid howed hended ⊢
    rw [hstate1] at ht hended ⊢
    rw [hskips] at ht
    rw [hasc] at husage
    rw [hlast] at hmissed
    rw [hcode, hceiling] at hbelow
    have hfigures : chargeFigures m1.kind (a - m1.ascending) s1 = (paid, owed) := by
      rw [chargeFigures_eq, howed, hpaid, husage]
      by_cases hk : m1.kind = .postpaid <;> simp only [hk, if_true, if_false]
    have hskipped : missed = skipped m1 q := hmissed.trans (skipped_eq m1 q).symm
    refine answers_of_block rfl rfl (hchecked.trans ((acceptReport_eq (t := t) (ended := ended) _ hfigures ?_ ?_).trans ?_))
    · rw [ht, husage, ← hforce]
      exact settleReport_eq q a d hfigures hskipped hbelow hlow hset
    · rw [hended, retireClosing_eq t ((emptySlot_written slot t).trans hemptied.symm), apply_ite (·, TopUp.notOriginated),
        apply_ite (·, TopUp.notOriginated), creditPool_eq]
      refine ite_congr rfl (fun _ => rfl) fun _ => ite_congr rfl (fun _ => ?_) fun _ => rfl
      rw [hemptied]
    · rw [hskipped, husage]
      cases first <;> rfl
  · intro slot m s hm
    refine ⟨rfl, fun g below falls => settleFor_grant slot m s g, fun v below falls m' hbelow hfalls hm' => ?_⟩
    have hlate := fun t => (putEvaluated_late slot m t v hbelow hfalls)
    rw [← hm'] at hlate
    refine ⟨fun hk => ?_, fun hk hc hnone => ?_, fun b hk hc hb hrun hallow spent used hspent hused => ?_, settleFor_lateShort slot m⟩
    · rw [settleFor_lateLimit slot m s hk, hlate]
    · rw [settleFor_lateRefill slot m hk hc, countSpent_none (s := debitPool v.amount s) v.amount hnone, hlate]
      rfl
    · rw [settleFor_lateRefill slot m hk hc, countSpent_eq (s := debitPool v.amount s) v.amount hb hrun hallow hspent hused, hlate,
        Bool.and_or_distrib_right, ← Bool.or_assoc]
      rfl

end Sys2Proof.Machine
end

section
/-! SUPPORT. The top-up after an accepted report (O27): when it is due, the decision on it, and what each decision leaves. -/

namespace Sys2Proof.Machine

variable {s : State} {slot : Nat} {m : Meter}

/-! ## The state after each decision (R48, R82, R84) -/

theorem joinQueue_eq (slot amount : Nat) (origin : Origin) (s : State) :
    joinQueue slot amount origin s =
      { s with
        record.queue := s.record.queue ++ [{ slot := slot, amount := amount, origin := origin, day := s.record.day }]
        record.queuePeak := max s.record.queuePeak (s.record.queue.length + 1)
        record.deviceCauses.poolWait := s.record.deviceCauses.poolWait || s.record.queue.isEmpty
        attentionMark := s.attentionMark || (s.record.queue.isEmpty && s.inForce.attentionEnable) } := by
  unfold joinQueue
  dsimp only
  rw [List.length_append]
  cases s.record.queue.isEmpty with
  | true =>
    rw [if_pos rfl, setDeviceCause, raiseAttention_eq, Bool.or_true, Bool.true_and]
    rfl
  | false =>
    rw [if_neg Bool.false_ne_true, Bool.or_false, Bool.false_and, Bool.or_false]
    rfl

/-- A cause set on a record just written (R25). -/
theorem setMeterCause_putMeter (slot : Nat) (m : Meter) (c : MeterCause) (s : State) :
    setMeterCause slot c (s.putMeter slot m) =
      { s with
        record.meters := Table.put s.record.meters slot { m with causes := m.causes.with c }
        attentionMark := s.attentionMark || s.inForce.attentionEnable } := by
  rw [setMeterCause, State.meter?_putMeter_self]
  dsimp only
  rw [raiseAttention_eq, State.putMeter, State.putMeter, Table.put_put]

/-- A refused top-up: QUEUE_FULL defers it, and every refusal but BAD_VALUE counts (R48, R22). -/
theorem refusedTopUp_eq (slot : Nat) (m : Meter) (st : Status) (s : State) :
    refusedTopUp slot m st s =
      ({ s with
          record.meters := Table.put s.record.meters slot
            { m with
              refused := if st = .badValue then m.refused else min (m.refused + 1) 65535
              causes :=
                { m.causes with
                  topupDeferred := m.causes.topupDeferred || decide (st = .queueFull)
                  refillRefused := m.causes.refillRefused || decide (st ≠ .queueFull) } }
          attentionMark := s.attentionMark || s.inForce.attentionEnable },
       if st = .queueFull then .deferred st else .refused st) := by
  have hrecord : m.refusedWith st = { m with refused := if st = .badValue then m.refused else min (m.refused + 1) 65535 } := by
    unfold Meter.refusedWith
    split <;> rfl
  unfold refusedTopUp
  dsimp only
  rw [setMeterCause_putMeter, setMeterCause_putMeter, hrecord]
  by_cases hfull : st = .queueFull <;> simp [hfull, MeterCauses.with]

/-! ## The decision (R47, R55, R61, R83) -/

theorem headroom_toNat (m : Meter) : m.headroom.toNat = m.ceiling - m.credit := by
  unfold Meter.headroom
  omega

theorem substituted_eq (c : Conditioning) (m : Meter) (n : Nat) : substituted c m n = if c = .fixed then m.standing else n := by
  cases c <;> rfl

theorem mayOriginate_iff {c : Conditioning} : mayOriginate c = true ↔ c = .none ∨ c = .fixed := by
  cases c <;> simp [mayOriginate]

theorem topUpDue_iff :
    topUpDue s slot m = true ↔ m.kind = .prepaid ∧ m.subMode = .second ∧ m.state = .active ∧ m.belowMark = true ∧ m.grantOut = none
      ∧ (∀ e ∈ s.record.queue, e.slot ≠ slot) ∧ (effective s m = .none ∨ effective s m = .fixed) := by
  simp only [topUpDue, Bool.and_eq_true, decide_eq_true_eq, Option.isNone_iff_eq_none, Bool.not_eq_true', not_queued_iff,
    mayOriginate_iff, and_assoc]

theorem decideRefill_refused {st : Status} {f : Outcome} {amount : Nat} (origin : Origin) (carried : Nat)
    (h : computeGrant s.inForce.refillStep (allowanceOf s m.branch) m amount = .refused st f) :
    decideRefill s m origin carried amount = .refused st f := by
  rw [decideRefill, h]

/-- The placement of a top-up that reached an amount (R61, R83). -/
theorem decideRefill_auto {g carried amount part held : Nat} {reason : Reason}
    (h : computeGrant s.inForce.refillStep (allowanceOf s m.branch) m amount = .grant g reason)
    (hpart : part = s.record.pool.balance / s.inForce.refillStep * s.inForce.refillStep)
    (hheld : held = if 1 ≤ carried ∧ carried ≤ 99999999 then carried else amount) :
    decideRefill s m .auto carried amount =
      if s.record.queue = [] ∧ g ≤ s.record.pool.balance then .issue g reason
      else if s.record.queue = [] ∧ s.inForce.shortage = .partly ∧ s.inForce.refillStep ≤ part then .issue part .pool
      else if s.inForce.margin < 32 - s.record.queue.length then .join held
      else .refused .queueFull .none := by
  have hamount : heldAmount carried amount = held := by
    rw [hheld, heldAmount]
    exact ite_congr (propext within_iff) (fun _ => rfl) fun _ => rfl
  have hjoin : joinOrFull s .auto held
      = if s.inForce.margin < 32 - s.record.queue.length then .join held else .refused .queueFull .none :=
    ite_congr (propext decide_eq_true_iff) (fun _ => rfl) fun _ => rfl
  have hpartial : partialServes s = true ↔ s.inForce.shortage = .partly ∧ s.inForce.refillStep ≤ part := by
    rw [partialServes, Bool.and_eq_true, decide_eq_true_iff, decide_eq_true_iff, hpart]
    rfl
  rw [decideRefill, h]
  dsimp only
  rw [placeRefill, hamount, hjoin]
  by_cases hq : s.record.queue = []
  · simp only [hq, List.isEmpty_nil, if_true, true_and]
    refine ite_congr (propext decide_eq_true_iff) (fun _ => rfl) fun _ => ite_congr (propext hpartial) (fun _ => ?_) fun _ => rfl
    rw [hpart]
    rfl
  · simp only [List.isEmpty_iff, hq, false_and, if_false]

/-! ## The top-up -/

theorem topUp_eq (hm : s.meter? slot = some m) :
    topUp slot s = if topUpDue s slot m then actOnTopUp slot m s (topUpDecision s m) else (s, .notOriginated) := by
  rw [topUp, hm]

/-- Settles O27: the top-up is due under R47's conditions, and its decision is carried out. -/
theorem topUpAfterReport : Obligations.TopUpAfterReport := by
  intro slot m s hm due hdue
  have hiff : topUpDue s slot m = true ↔ due := topUpDue_iff.trans hdue.symm
  refine ⟨fun hnot => ?_, fun h carried amount hcarried hamount => ?_⟩
  · rw [topUp_eq hm, if_neg (mt hiff.1 hnot)]
  · have hact : topUp slot s = actOnTopUp slot m s (decideRefill s m .auto carried amount) := by
      rw [topUp_eq hm, if_pos (hiff.2 h), topUpDecision, headroom_toNat, substituted_eq, ← hcarried, ← hamount]
    refine ⟨fun g reason hd => ?_, fun held hd => ?_, fun st figures hd => ?_, fun st figures => decideRefill_refused .auto carried,
      fun g reason hc part held => decideRefill_auto hc⟩
    · rw [hact, hd]
      rfl
    · rw [hact, hd, actOnTopUp, joinQueue_eq]
    · rw [hact, hd, actOnTopUp, refusedTopUp_eq]

end Sys2Proof.Machine
end

section
/-! SUPPORT. RESOLVE METER (O28): its checks, the void and the record, and the one movement of the pool. -/

namespace Sys2Proof.Machine

variable {s : State} {slot : Nat} {m : Meter} {a d : Nat}

/-! ## The checks (R43) -/

theorem refillOut_eq (m : Meter) : refillOut m = (m.grantOut.map refillAmount).getD 0 := by
  unfold refillOut
  cases m.grantOut <;> rfl

/-- Check 7 of R43 (R44). -/
theorem coversResolution_iff :
    coversResolution s m a d = true ↔ ((a + d : Nat) : Int) - m.loaded
      ≤ (s.record.pool.balance : Int) + max 0 (((m.grantOut.map refillAmount).getD 0 : Int) - s.record.pool.arrears) := by
  rw [coversResolution, decide_eq_true_iff, refillOut_eq, loadedChange]

/-- The first check that fails answers, and nothing changes (R43). -/
theorem resolveMeter_refused {st : Status}
    (h : (if s.record.mode ≠ .service then some Status.wrongMode
       else if 511 < slot ∨ 999999999999 < a ∨ 99999999 < d then some .badValue
       else
        match s.meter? slot with
        | none => some .unknownMeter
        | some m =>
          if m.state ≠ .dispute then some .wrongState
          else if a < m.ascending then some .badValue
          else if 2 ^ 47 - 1 < s.record.pool.franked + (a - m.ascending) then some .badValue
          else if m.kind = .postpaid ∧ 2 ^ 47 - 1 < s.record.pool.arrears
            + ((a - m.ascending) - min (a - m.ascending) s.record.pool.balance) then some .badValue
          else if m.kind = .prepaid ∧ (s.record.pool.balance : Int)
            + max 0 (((m.grantOut.map refillAmount).getD 0 : Int) - s.record.pool.arrears) < ((a + d : Nat) : Int) - m.loaded
            then some .poolShort
          else none) = some st) : resolveMeter slot a d s = (s, refuse st) := by
  refine refused_ite not_serves (fun _ => refused_ite not_registersOk fun _ => ?_) h
  cases s.meter? slot with
  | none => exact fun h => by rw [Option.some.inj h]
  | some m =>
    refine refused_ite Iff.rfl fun _ => refused_ite Iff.rfl fun _ => ?_
    rw [← ite_or]
    refine refused_ite not_usageFits fun _ => refused_ite (and_congr_right fun _ => ?_) fun _ h => by cases h
    rw [← Bool.not_eq_true, coversResolution_iff, Int.not_le]

/-- The checks of R43, passed. -/
theorem resolveMeter_checked (hmode : s.record.mode = .service) (hslot : slot < 512) (ha : a ≤ 999999999999) (hd : d ≤ 99999999)
    (hm : s.meter? slot = some m) (hstate : m.state = .dispute) (hle : m.ascending ≤ a)
    (hfit : usageFits m.kind (a - m.ascending) s = true) (hcov : m.kind = .prepaid → coversResolution s m a d = true) :
    resolveMeter slot a d s = resolve slot m a d s := by
  unfold resolveMeter
  rw [if_neg (by rw [not_serves, hmode]; simp), if_neg (by rw [not_registersOk]; omega), hm]
  dsimp only
  rw [if_neg (not_not.2 hstate), if_neg (by omega), if_neg (by simp [hfit]), if_neg]
  rintro ⟨hk, hc⟩
  simp [hcov hk] at hc

/-! ## The void and the record (R44 to R46) -/

/-- What the void of a resolution leaves alone: the settings, the pool but its reserved total, the device causes, and of the meter's record
the low mark (R71). -/
theorem resolveVoid_leaves {v : State} {m1 : Meter} (hm : s.meter? slot = some m) (hv : resolveVoid slot m s = v)
    (hm1 : v.meter? slot = some m1) :
    v.inForce = s.inForce ∧ v.record.pool.franked = s.record.pool.franked ∧ v.record.pool.balance = s.record.pool.balance
      ∧ v.record.pool.arrears = s.record.pool.arrears ∧ v.record.deviceCauses = s.record.deviceCauses
      ∧ m1.markCode = m.markCode ∧ m1.ceiling = m.ceiling ∧ m1.belowMark = m.belowMark := by
  subst hv
  unfold resolveVoid at hm1 ⊢
  cases hg : m.grantOut with
  | none =>
    rw [hg] at hm1
    cases hm.symm.trans hm1
    exact ⟨rfl, rfl, rfl, rfl, rfl, rfl, rfl, rfl⟩
  | some g =>
    rw [hg] at hm1
    dsimp only at hm1 ⊢
    rw [voidGrant_eq] at hm1 ⊢
    cases (Table.find_put_self ..).symm.trans hm1
    exact ⟨rfl, rfl, rfl, rfl, rfl, rfl, rfl, rfl⟩

/-- The record and the franked total of a resolution, after its void (R44 to R46). -/
theorem resolveRecord_eq {v : State} {m1 : Meter} {usage : Nat} {below : Bool} (hm : s.meter? slot = some m) (hv : resolveVoid slot m s = v)
    (hm1 : v.meter? slot = some m1) (husage : usage = a - m.ascending)
    (hbelow : below = decide (0 < m.markCode ∧ 8 * d < m.markCode * m.ceiling)) :
    resolveRecord slot m a d s =
      { v with
        record.meters := Table.put v.record.meters slot
          { m1 with
            credit := d, ascending := a, loaded := a + d, lastVoided := none, lastSequence := none, daysSince := 0
            state := .active, belowMark := below
            causes := { m1.causes with lowCredit := m1.causes.lowCredit || (below && !m.belowMark) } }
        record.pool.franked := s.record.pool.franked + usage
        attentionMark := v.attentionMark || ((below && !m.belowMark) && s.inForce.attentionEnable) } := by
  obtain ⟨hforce, hfranked, -, -, -, hcode, hceiling, hmark⟩ := resolveVoid_leaves hm hv hm1
  have hafter : afterVoid slot m s = m1 := by rw [afterVoid, hv, hm1, Option.getD_some]
  rw [← hcode, ← hceiling] at hbelow
  rw [resolveRecord, hafter, hv, ← hmark, ← hforce, ← hfranked, husage]
  exact putEvaluated_eq slot (m1.resolved a d) (addFranked (a - m.ascending) v)
    (hbelow.trans (isBelow_eq (m1.resolved a d)).symm) rfl

/-! ## The answer -/

/-- A resolution whose record is written as `base`, with the charge it makes (R44 to R46). -/
theorem resolve_eq {base : State} {paid owed : Nat} (hbase : resolveRecord slot m a d s = base)
    (hfigures : chargeFigures m.kind (a - m.ascending) s = (paid, owed)) :
    resolve slot m a d s =
      (resolveFunds m a d base,
       done (.resolved
        { change := loadedChange m a d, net := resolveNet m a d s, charged := paid, arrearsAdded := owed
          voided := m.grantOut.map grantFigures, credit := d, ascending := a, loaded := a + d })) := by
  unfold resolve
  dsimp only
  rw [hbase, hfigures]

/-- Settles O28: the checks are those of the statement in its order; past them the void and the record are written, and the pool moves once. -/
theorem resolveMeterTakesRegisters : Obligations.ResolveMeterTakesRegisters := by
  refine ⟨fun tag slot a d s => ⟨fun st h => answers_of_block rfl rfl (resolveMeter_refused h), ?_⟩, fun slot m g s hm =>
    ⟨refillAmount_ite g, (voidGrant_eq slot m g s).trans (by rw [reduceSpent_eq]; rfl)⟩⟩
  intro m m1 v hmode hslot ha hd hm hstate hle hf hv hm1 usage change net below husage hchange hnet hbelow base hbase report hreport
  have hbase' : resolveRecord slot m a d s = base := (resolveRecord_eq hm hv.symm hm1 husage hbelow).trans hbase.symm
  obtain ⟨hforce, -, hbalance, harrears, hcauses, -⟩ := resolveVoid_leaves hm hv.symm hm1
  have hb : base.record.pool.balance = s.record.pool.balance := by rw [hbase, ← hbalance]
  have hr : base.record.pool.arrears = s.record.pool.arrears := by rw [hbase, ← harrears]
  have hc : base.record.deviceCauses.arrears = s.record.deviceCauses.arrears := by rw [hbase, ← hcauses]
  have hi : base.inForce = s.inForce := by rw [hbase, ← hforce]
  have hmoved : (refillOut m : Int) - loadedChange m a d = net := by rw [hnet, hchange, refillOut_eq, loadedChange]
  have hfits : (m.kind = .postpaid →
      s.record.pool.arrears + ((a - m.ascending) - min (a - m.ascending) s.record.pool.balance) ≤ 2 ^ 47 - 1) →
      usageFits m.kind (a - m.ascending) s = true := usageFits_of hf
  have hprepaid : m.kind = .prepaid → change ≤ (s.record.pool.balance : Int)
      + max 0 (((m.grantOut.map refillAmount).getD 0 : Int) - s.record.pool.arrears) →
      resolveMeter slot a d s = (resolveFunds m a d base, done (.resolved (report net 0 0))) := by
    intro hk hcov
    rw [resolveMeter_checked hmode hslot ha hd hm hstate hle (hfits fun hp => nomatch hk.symm.trans hp)
        fun _ => coversResolution_iff.2 (hchange ▸ hcov),
      resolve_eq hbase' (show chargeFigures m.kind (a - m.ascending) s = (0, 0) by rw [hk]; rfl), hreport, resolveNet, hk]
    dsimp only
    rw [hmoved, hchange]
    rfl
  refine ⟨fun hk hneg _ hcov => ?_, fun hk hpos hcov back paid hback hpaid => ?_, fun hk paid owed hpaid howed hmax => ?_⟩
  · refine answers_of_block rfl rfl ((hprepaid hk hcov).trans ?_)
    rw [resolveFunds, hk]
    dsimp only
    rw [hmoved, if_neg (Int.not_lt.2 hneg), debitPool, State.withPool, hb]
  · refine answers_of_block rfl rfl ((hprepaid hk hcov).trans ?_)
    rw [resolveFunds, hk]
    dsimp only
    rw [hmoved, if_pos hpos, ← hback, creditAndServe, if_neg (by omega), creditPool_eq, hb, hr, hc, ← hpaid]
  · have hfigures : chargeFigures m.kind (a - m.ascending) s = (paid, owed) := by
      rw [chargeFigures_eq, if_pos hk, if_pos hk, howed, hpaid, husage]
    refine answers_of_block rfl rfl ((resolveMeter_checked hmode hslot ha hd hm hstate hle (hfits fun _ => ?_)
      fun hp => nomatch hk.symm.trans hp).trans ((resolve_eq hbase' hfigures).trans ?_))
    · rwa [howed, hpaid, husage] at hmax
    · rw [hreport, resolveFunds, resolveNet, hk]
      dsimp only
      rw [chargeUsage_eq (paid := paid) (owed := owed) _ base (by rw [hb, hpaid, husage]) (by rw [howed, husage]) rfl, hb, hr, hc, hi,
        chargePaid, ← husage, ← hpaid, hchange]
      rfl

end Sys2Proof.Machine
end

section
/-! SUPPORT. The daily limits of CLOSE DAY (O15): the day effect on a meter that stays ACTIVE, and the attention mark. -/

namespace Sys2Proof.Machine

variable {s : State} {slot : Nat} {m : Meter}

/-! ## CLOSE DAY on one meter (R158, R19) -/

theorem closeDay_taken (hmode : s.record.mode = .service) : closeDay s = (dayAdvance s, done (.day (s.record.day + 1))) := by
  unfold closeDay
  exact if_neg (by rw [not_serves, hmode]; simp)

theorem dayAdvance_meter? (hm : s.meter? slot = some m) :
    (dayAdvance s).meter? slot = some (m.dayEffect s (limitCycle s slot m)) := by
  have hmap : (dayAdvance s).record.meters = Table.mapRecords (fun slot m => m.dayEffect s (limitCycle s slot m)) s.record.meters := by
    unfold dayAdvance
    dsimp only
    split
    · rw [raiseAttention_record]
    · rfl
  have hfind : Table.find s.record.meters slot = some m := hm
  rw [State.meter?, hmap, Table.find_mapRecords, hfind]
  rfl

/-- A cause that the day effect sets on a meter raises the attention mark while its enable is on (R170). -/
theorem dayAdvance_raises (hm : s.meter? slot = some m) (hr : meterDayRaises s m = true) (he : s.inForce.attentionEnable = true) :
    (dayAdvance s).attentionMark = true := by
  have hany : dayRaises s = true :=
    Bool.or_eq_true_iff.2 (.inl (List.any_eq_true.2 ⟨_, Table.mem_of_find hm, hr⟩))
  unfold dayAdvance
  rw [if_pos hany, raiseAttention_attentionMark]
  exact Bool.or_eq_true_iff.2 (.inr he)

/-- A meter within its report interval only ages (R19). -/
theorem aged_eq (h : min (m.daysSince + 1) 255 ≤ m.interval) : m.aged = { m with daysSince := min (m.daysSince + 1) 255 } := by
  have hstays : m.goesOverdue = false := by
    rw [Meter.goesOverdue, Bool.and_eq_false_iff]
    exact .inr (decide_eq_false (Nat.not_lt.2 h))
  rw [Meter.aged, hstays]
  rfl

/-! ## The daily limit (R49, R50) -/

theorem limitDue_iff :
    limitDue s m = true ↔ m.kind = .postpaid ∧ m.subMode = .second ∧ m.state = .active ∧ m.grantOut = none
      ∧ (effective s m = .none ∨ effective s m = .fixed) ∧ m.credit < m.standing := by
  simp only [limitDue, Bool.and_eq_true, decide_eq_true_eq, Option.isNone_iff_eq_none, mayOriginate_iff, and_assoc]

/-- The stamped cycle number is the branch's before the day advance, or the next one where its cycle ends (R62; log 8). -/
theorem limitCycle_cases {x : Branch} (slot : Nat) (hx : s.branch? m.branch = some x) :
    limitCycle s slot m = x.cycle ∨ (x.run = .running ∧ 0 < x.cycleLength ∧ x.cycleLength ≤ min (x.dayCount + 1) 255
      ∧ limitCycle s slot m = x.cycle + 1) := by
  have hcounted : x.dayCounted.cycle = x.cycle ∨ (x.run = .running ∧ 0 < x.cycleLength
      ∧ x.cycleLength ≤ min (x.dayCount + 1) 255 ∧ x.dayCounted.cycle = x.cycle + 1) := by
    unfold Branch.dayCounted
    cases hrun : x.run with
    | stopped => exact .inl rfl
    | paused => exact .inl rfl
    | running =>
      dsimp only
      split
      · rename_i hends
        rw [Branch.cycleEnds, Bool.and_eq_true, Bool.and_eq_true, decide_eq_true_iff, decide_eq_true_iff, decide_eq_true_iff] at hends
        exact .inr ⟨rfl, hends.1.2, hends.2, rfl⟩
      · exact .inl rfl
  unfold limitCycle
  rw [hx]
  dsimp only
  split
  · exact .inl rfl
  · exact hcounted

/-- Settles O15: the meter stays ACTIVE, so the day effect ages it and carries out the decision on its limit; a limit that is originated
sets a cause either way. -/
theorem closeDayGivesDailyLimits : Obligations.CloseDayGivesDailyLimits := by
  intro tag s hmode
  refine ⟨dayAdvance s, answers_of_block rfl rfl (closeDay_taken hmode), ?_⟩
  intro slot m hm hk hsub hstate hint hg heff amount hamount
  have haged := aged_eq hint
  have hmeter := dayAdvance_meter? hm
  have hdue : limitDue s m.aged = true ↔ m.credit < m.standing := by
    rw [haged, limitDue_iff]
    exact ⟨fun h => h.2.2.2.2.2, fun h => ⟨hk, hsub, hstate, hg, heff, h⟩⟩
  have hlimited : m.credit < m.standing →
      (dayAdvance s).meter? slot = some (m.aged.limited (limitCycle s slot m) s.inForce.loadTimeout (decideLimit s m amount))
        ∧ (s.inForce.attentionEnable = true → (dayAdvance s).attentionMark = true) := by
    intro hlt
    refine ⟨?_, dayAdvance_raises hm (Bool.or_eq_true_iff.2 (.inr (hdue.2 hlt)))⟩
    rw [hmeter, Meter.dayEffect, if_pos (hdue.2 hlt), limitDecision, substituted_eq, hamount, haged]
    rfl
  have hrefused : ∀ st figures, m.credit < m.standing → st ≠ .badValue → decideLimit s m amount = .refused st figures →
      (dayAdvance s).meter? slot = some
        { m with
          daysSince := min (m.daysSince + 1) 255
          refused := min (m.refused + 1) 65535
          causes := { m.causes with refillRefused := true } }
        ∧ (s.inForce.attentionEnable = true → (dayAdvance s).attentionMark = true) := by
    intro st figures hlt hst hd
    obtain ⟨hleft, hraised⟩ := hlimited hlt
    refine ⟨?_, hraised⟩
    rw [hleft, hd, haged, Meter.limited, Meter.refusedWith, if_neg hst]
    rfl
  refine ⟨fun hle => ?_, fun g reason hlt hc hv => ?_, fun g reason hlt hc hv => ?_, fun figures hlt hc => ?_⟩
  · rw [hmeter, Meter.dayEffect, if_neg (fun h => Nat.not_lt.2 hle (hdue.1 h)), haged]
  · obtain ⟨hleft, hraised⟩ := hlimited hlt
    refine ⟨limitCycle s slot m, ?_, hraised, fun b => limitCycle_cases slot⟩
    rw [hleft, decideLimit, hc]
    dsimp only
    rw [if_neg (by omega), haged]
    rfl
  · refine hrefused .poolShort (.arrears s.record.pool.arrears) hlt (by simp) ?_
    rw [decideLimit, hc]
    exact if_pos hv
  · refine hrefused .atCeiling figures hlt (by simp) ?_
    rw [decideLimit, hc]

end Sys2Proof.Machine
end

section
/-!
SUPPORT. The laws of the grants out and of the queue (O56), apart from the other laws of Safety.lean. `GrantsHeld owed s` holds of a state that a
block has reached: `owed` is by how much the reserved total is above the refills out, 0 at the start and at the end of a block
(`GrantsSound.held`, `GrantsHeld.sound`). First, one lemma per update of the state.
-/

namespace Sys2Proof.Machine

variable {s t : State} {owed owed' : Int}

/-- The laws of the grants of one meter record: their kinds (R62, R10), and a closing meter has none out (R40). -/
abbrev Meter.GrantsLawful (m : Meter) : Prop :=
  ((∀ g ∈ m.grantOut, m.kind = kindFor g.kind) ∧ ∀ v ∈ m.lastVoided, m.kind = kindFor v.kind)
    ∧ (m.state = .closing → m.grantOut = none)

/-- The laws of `GrantsSound`, the reserved total above the sum of the refills out by `owed`. -/
structure GrantsHeld (owed : Int) (s : State) : Prop where
  canonical : TablesCanonical s
  meters : ∀ e ∈ s.record.meters, e.2.GrantsLawful
  queue : QueueLaw s
  reserved : (s.record.pool.reserved : Int) = refillsOut s + owed

theorem GrantsSound.held (h : GrantsSound s) : GrantsHeld 0 s where
  canonical := h.canonical
  meters e he := ⟨h.kinds e he, h.closing e he⟩
  queue := h.queue
  reserved := by rw [Int.add_zero]; exact congrArg _ h.reserved

theorem GrantsHeld.sound (h : GrantsHeld 0 s) : GrantsSound s where
  canonical := h.canonical
  reserved := by have := h.reserved; rw [Int.add_zero] at this; exact Int.natCast_inj.1 this
  queue := h.queue
  kinds e he := (h.meters e he).1
  closing e he := (h.meters e he).2

/-! ## What the laws read -/

theorem GrantsHeld.congr (h : GrantsHeld owed s) (hc : TablesCanonical t) (hm : t.record.meters = s.record.meters)
    (hq : t.record.queue = s.record.queue) (hr : t.record.pool.reserved = s.record.pool.reserved) : GrantsHeld owed t := by
  obtain ⟨-, h2, h3, h4⟩ := h
  refine ⟨hc, ?_, ?_, ?_⟩
  all_goals simpa only [refillsOut, QueueLaw, State.meter?, hm, hq, hr] using ‹_›

theorem GrantsHeld.raiseAttention (h : GrantsHeld owed s) : GrantsHeld owed (raiseAttention s) := by
  rw [raiseAttention_eq]
  exact h.congr h.canonical rfl rfl rfl

theorem GrantsHeld.raiseIf {c : Prop} [Decidable c] (h : GrantsHeld owed s) :
    GrantsHeld owed (if c then Machine.raiseAttention s else s) := by
  split
  · exact h.raiseAttention
  · exact h

theorem GrantsHeld.withDeviceCauses (h : GrantsHeld owed s) (c : DeviceCauses) :
    GrantsHeld owed { s with record.deviceCauses := c } :=
  h.congr h.canonical rfl rfl rfl

theorem GrantsHeld.setDeviceCause (h : GrantsHeld owed s) (c : DeviceCause) : GrantsHeld owed (setDeviceCause c s) :=
  (h.withDeviceCauses _).raiseAttention

theorem GrantsHeld.withMode (h : GrantsHeld owed s) (m : Mode) : GrantsHeld owed (s.withMode m) :=
  h.congr h.canonical rfl rfl rfl

/-! ## The pool -/

theorem GrantsHeld.withPool (h : GrantsHeld owed s) {p : Pool} (hr : (p.reserved : Int) + owed = s.record.pool.reserved + owed') :
    GrantsHeld owed' (s.withPool p) where
  canonical := h.canonical
  meters := h.meters
  queue := h.queue
  reserved := by
    have := h.reserved
    show (p.reserved : Int) = refillsOut s + owed'
    omega

/-- A change of the pool that leaves the reserved total. -/
theorem GrantsHeld.movePool (h : GrantsHeld owed s) {p : Pool} (hr : p.reserved = s.record.pool.reserved) :
    GrantsHeld owed (s.withPool p) :=
  h.withPool (by rw [hr])

theorem GrantsHeld.debitPool (h : GrantsHeld owed s) (n : Nat) : GrantsHeld owed (debitPool n s) :=
  h.movePool rfl

theorem GrantsHeld.addFranked (h : GrantsHeld owed s) (n : Nat) : GrantsHeld owed (addFranked n s) :=
  h.movePool rfl

theorem GrantsHeld.addWrittenOff (h : GrantsHeld owed s) (n : Int) : GrantsHeld owed (addWrittenOff n s) :=
  h.movePool rfl

theorem GrantsHeld.addIssued (h : GrantsHeld owed s) (n : Nat) : GrantsHeld owed (addIssued n s) :=
  h.movePool rfl

theorem GrantsHeld.creditPool (h : GrantsHeld owed s) (n : Nat) : GrantsHeld owed (creditPool n s) := by
  have hp : GrantsHeld owed (s.withPool
      { s.record.pool with
        balance := s.record.pool.balance + (n - min s.record.pool.arrears n)
        arrears := s.record.pool.arrears - min s.record.pool.arrears n }) := h.movePool rfl
  unfold Machine.creditPool
  dsimp only
  split
  · exact hp.withDeviceCauses _
  · exact hp

theorem GrantsHeld.chargeUsage (h : GrantsHeld owed s) (n : Nat) : GrantsHeld owed (chargeUsage n s) := by
  have hp : GrantsHeld owed (s.withPool
      { s.record.pool with
        balance := s.record.pool.balance - chargePaid n s
        arrears := s.record.pool.arrears + (n - chargePaid n s) }) := h.movePool rfl
  unfold Machine.chargeUsage
  dsimp only
  split
  · exact hp.setDeviceCause _
  · exact hp

theorem GrantsHeld.reserveFunds (h : GrantsHeld owed s) (n : Nat) : GrantsHeld (owed + n) (reserveFunds n s) :=
  h.withPool (by simp only; omega)

theorem GrantsHeld.unreserve (h : GrantsHeld owed s) (g : GrantOut) (hg : refillAmount g ≤ s.record.pool.reserved) :
    GrantsHeld (owed - refillAmount g) (unreserve g s) := by
  unfold Machine.unreserve refillAmount at *
  cases hk : g.kind with
  | limit => simpa using h
  | refill =>
    rw [hk] at hg
    exact h.withPool (p := { s.record.pool with reserved := s.record.pool.reserved - g.amount }) (by simp only at hg ⊢; omega)

/-- Where the reserved total is the sum of the refills out it holds the amount of each of them. -/
theorem GrantsHeld.reserved_ge (h : GrantsHeld 0 s) {slot : Nat} {m : Meter} {g : GrantOut} (hm : s.meter? slot = some m)
    (hg : m.grantOut = some g) : refillAmount g ≤ s.record.pool.reserved := by
  have hs := Table.le_sum (fun _ m => refillOut m) hm
  have hr := h.reserved
  rw [refillOut_some hg] at hs
  simp only [refillsOut] at hr
  omega

/-! ## The branches -/

theorem GrantsHeld.branch (h : GrantsHeld owed s) {slot : Nat} {x : Branch} (hx : s.branch? slot = some x) : x.Canonical := by
  obtain ⟨-, -, -, -, -, -, -, hb⟩ := h.canonical
  exact hb _ (Table.mem_of_find hx)

/-- Another list of branch records in canonical form. -/
theorem GrantsHeld.withBranches (h : GrantsHeld owed s) {bs : Table Branch} (hs : Table.Sorted bs) (hc : ∀ e ∈ bs, e.2.Canonical) :
    GrantsHeld owed { s with record.branches := bs } := by
  obtain ⟨c1, -, c3, c4, c5, c6, c7, -⟩ := h.canonical
  exact h.congr ⟨c1, hs, c3, c4, c5, c6, c7, hc⟩ rfl rfl rfl

theorem GrantsHeld.branchesSorted (h : GrantsHeld owed s) : Table.Sorted s.record.branches :=
  h.canonical.2.1

theorem GrantsHeld.metersSorted (h : GrantsHeld owed s) : Table.Sorted s.record.meters :=
  h.canonical.1

theorem GrantsHeld.branchesCanonical (h : GrantsHeld owed s) : ∀ e ∈ s.record.branches, e.2.Canonical := by
  obtain ⟨-, -, -, -, -, -, -, hb⟩ := h.canonical
  exact hb

theorem GrantsHeld.putBranch (h : GrantsHeld owed s) (slot : Nat) {x : Branch} (hx : x.Canonical) :
    GrantsHeld owed (s.putBranch slot x) := by
  refine h.withBranches (Table.sorted_put h.branchesSorted slot x) fun e he => ?_
  rcases Table.mem_put he with rfl | he
  · exact hx
  · exact h.branchesCanonical e he

theorem GrantsHeld.setBranchCause (h : GrantsHeld owed s) (slot : Nat) (c : BranchCause) :
    GrantsHeld owed (setBranchCause slot c s) := by
  rcases setBranchCause_cases slot c s with ⟨-, he⟩ | ⟨x, hx, he⟩
  · rw [he]; exact h
  · rw [he]
    have hc := h.branch hx
    exact (h.putBranch slot (x := { x with causes := x.causes.with c }) hc).raiseAttention

theorem GrantsHeld.countSpent (h : GrantsHeld owed s) (branch amount : Nat) : GrantsHeld owed (countSpent branch amount s) := by
  unfold Machine.countSpent addSpent
  split
  · split
    · exact h
    · rename_i x hx
      have hc := h.branch hx
      have hw := h.putBranch branch (x := { x with spent := min (x.spent + amount) Config.totalMax }) hc
      dsimp only
      split
      · exact hw.setBranchCause _ _
      · exact hw
  · exact h

theorem GrantsHeld.reduceSpent (h : GrantsHeld owed s) (g : GrantOut) : GrantsHeld owed (reduceSpent g s) := by
  unfold Machine.reduceSpent
  split
  · exact h
  · rename_i x hx
    have hc := h.branch hx
    split
    · exact h.putBranch g.branch (x := { x with spent := x.spent - g.amount }) hc
    · exact h

/-! ## The meters -/

theorem GrantsHeld.lawful (h : GrantsHeld owed s) {slot : Nat} {m : Meter} (hm : s.meter? slot = some m) : m.GrantsLawful :=
  h.meters _ (Table.mem_of_find hm)

/-- A slot filled with a lawful record. -/
theorem GrantsHeld.fillMeter (h : GrantsHeld owed s) {slot : Nat} {m : Meter} (hm : m.GrantsLawful)
    (hq : s.queued slot = true → m.grantOut = none ∧ m.kind = .prepaid)
    (ho : owed' = owed + s.figureAt refillOut slot - refillOut m) : GrantsHeld owed' (s.putMeter slot m) := by
  have hout := refillsOut_putMeter h.metersSorted slot m
  obtain ⟨⟨c1, c⟩, h2, ⟨q1, q2, q3⟩, h4⟩ := h
  refine ⟨⟨Table.sorted_put c1 _ _, c⟩, ?_, ⟨q1, q2, ?_⟩, ?_⟩
  · intro e he
    rcases Table.mem_put he with rfl | he
    · exact hm
    · exact h2 e he
  · intro e he
    rw [State.meter?_putMeter]
    by_cases hes : e.slot = slot
    · rw [if_pos hes]
      exact ⟨m, rfl, hq (queued_iff.2 ⟨e, he, hes⟩)⟩
    · rw [if_neg hes]
      exact q3 e he
  · simp only [State.putMeter_record_pool]; omega

/-- The record of a meter changed. -/
theorem GrantsHeld.putMeter (h : GrantsHeld owed s) {slot : Nat} {m m' : Meter} (hm : s.meter? slot = some m)
    (hl : m'.GrantsLawful) (hq : s.queued slot = true → m'.grantOut = none ∧ m'.kind = .prepaid)
    (ho : owed' = owed + refillOut m - refillOut m') : GrantsHeld owed' (s.putMeter slot m') :=
  h.fillMeter hl hq (by rw [State.figureAt_some hm]; exact ho)

/-- The record of a meter changed, its kind and its grant out standing. -/
theorem GrantsHeld.touchMeter (h : GrantsHeld owed s) {slot : Nat} {m m' : Meter} (hm : s.meter? slot = some m)
    (hl : m'.GrantsLawful) (hk : m'.kind = m.kind) (hg : m'.grantOut = m.grantOut) : GrantsHeld owed (s.putMeter slot m') := by
  refine h.putMeter hm hl (fun hq => ?_) ?_
  · rw [hg, hk]; exact h.queue.of_queued hq hm
  · simp only [refillOut, hg]; omega

theorem GrantsHeld.setMeterCause (h : GrantsHeld owed s) (slot : Nat) (c : MeterCause) :
    GrantsHeld owed (setMeterCause slot c s) := by
  rcases setMeterCause_cases slot c s with ⟨-, he⟩ | ⟨m, hm, he⟩
  · rw [he]; exact h
  · rw [he]
    have hl := h.lawful hm
    exact (h.touchMeter (m' := { m with causes := m.causes.with c }) hm hl rfl rfl).raiseAttention

theorem GrantsHeld.putEvaluated_of (slot : Nat) (m : Meter) (h : GrantsHeld owed (s.putMeter slot m.evaluated)) :
    GrantsHeld owed (putEvaluated slot m s) :=
  h.raiseIf

/-! ## The queue -/

/-- The queue with some of its entries gone. -/
theorem GrantsHeld.setQueueAfterRemoval (h : GrantsHeld owed s) {rest : List QueueEntry} (hr : rest.Sublist s.record.queue) :
    GrantsHeld owed (setQueueAfterRemoval rest s) := by
  obtain ⟨q1, q2, q3⟩ := h.queue
  have hq : GrantsHeld owed { s with record.queue := rest } :=
    ⟨h.canonical, h.meters, ⟨Nat.le_trans hr.length_le q1, q2.sublist (hr.map _), fun e he => q3 e (hr.subset he)⟩, h.reserved⟩
  unfold Machine.setQueueAfterRemoval
  dsimp only
  split
  · exact hq.withDeviceCauses _
  · exact hq

/-- An entry of a PREPAID meter with no grant out and no entry joins a queue that has room (R80, R82). -/
theorem GrantsHeld.enqueue (h : GrantsHeld owed s) (e : QueueEntry) {m : Meter} (hm : s.meter? e.slot = some m)
    (hk : m.kind = .prepaid) (hg : m.grantOut = none) (hq : s.queued e.slot = false)
    (hr : s.record.queue.length < Config.queuePlaces) (peak : Nat) :
    GrantsHeld owed { s with record.queue := s.record.queue ++ [e], record.queuePeak := peak } := by
  obtain ⟨q1, q2, q3⟩ := h.queue
  refine ⟨h.canonical, h.meters, ⟨?_, ?_, fun d hd => ?_⟩, h.reserved⟩
  · rw [List.length_append, List.length_singleton]; exact hr
  · simp only [List.map_append, List.map_cons, List.map_nil]
    refine List.nodup_append.2 ⟨q2, by simp, fun x hx y hy => ?_⟩
    obtain ⟨d, hd, rfl⟩ := List.mem_map.1 hx
    rw [List.mem_singleton.1 hy]
    exact not_queued_iff.1 hq d hd
  · rcases List.mem_append.1 hd with hd | hd
    · exact q3 d hd
    · rw [List.mem_singleton.1 hd]; exact ⟨m, hm, hg, hk⟩

theorem GrantsHeld.joinQueue (h : GrantsHeld owed s) {slot : Nat} {m : Meter} (amount : Nat) (origin : Origin)
    (hm : s.meter? slot = some m) (hk : m.kind = .prepaid) (hg : m.grantOut = none) (hq : s.queued slot = false)
    (hr : s.record.queue.length < Config.queuePlaces) : GrantsHeld owed (joinQueue slot amount origin s) := by
  have hj := h.enqueue { slot := slot, amount := amount, origin := origin, day := s.record.day } hm hk hg hq hr
  unfold Machine.joinQueue
  dsimp only
  split
  · exact (hj _).setDeviceCause _
  · exact hj _

theorem GrantsHeld.removeEntry (h : GrantsHeld owed s) (slot : Nat) : GrantsHeld owed (removeEntry slot s) := by
  unfold Machine.removeEntry
  split
  · exact h.setQueueAfterRemoval List.filter_sublist
  · exact h

theorem not_queued_removeEntry (slot : Nat) (s : State) : (removeEntry slot s).queued slot = false := by
  unfold removeEntry
  split
  · refine not_queued_iff.2 fun e he => ?_
    rw [setQueueAfterRemoval_queue] at he
    simpa using (List.mem_filter.1 he).2
  · simp_all

theorem removeEntry_meters (slot : Nat) (s : State) : (removeEntry slot s).record.meters = s.record.meters := by
  unfold removeEntry
  split
  · simp
  · rfl

/-- A slot with no refill out becomes EMPTY and loses its entry (R6, R90). -/
theorem GrantsHeld.emptySlot (h : GrantsHeld owed s) {slot : Nat} {m : Meter} (hm : s.meter? slot = some m)
    (hr : refillOut m = 0) : GrantsHeld owed (emptySlot slot s) := by
  have hfree := not_queued_iff.1 (not_queued_removeEntry slot s)
  have hm' := (meter?_congr (removeEntry_meters slot s) slot).trans hm
  rw [emptySlot_eq]
  replace h := h.removeEntry slot
  have hout := refillsOut_dropMeter h.metersSorted slot
  rw [State.figureAt_some hm', hr] at hout
  obtain ⟨⟨c1, c⟩, h2, ⟨q1, q2, q3⟩, h4⟩ := h
  refine ⟨⟨Table.sorted_erase c1 _, c⟩, fun e he => h2 e (Table.mem_erase he).1, ⟨q1, q2, fun e he => ?_⟩, ?_⟩
  · rw [State.meter?_dropMeter_ne _ (hfree e he)]
    exact q3 e he
  · simp only [State.dropMeter_record_pool]; omega

end Sys2Proof.Machine
end

section
/-! SUPPORT. The laws of the grants (O56) under the Grant Unit's operations (issue, settlement, void, late settlement) and under serving. -/

namespace Sys2Proof.Machine

variable {s t : State} {owed : Int}

/-! ## Issue, settlement, void, late settlement -/

theorem Meter.GrantsLawful.withGrant {m : Meter} (h : m.GrantsLawful) {kind : GrantKind} (hk : m.kind = kindFor kind)
    (hc : m.state ≠ .closing) (amount : Nat) (counted : Bool) (cycle : Byte) (timeout : Nat) :
    (m.withGrant kind amount counted cycle timeout).GrantsLawful := by
  obtain ⟨⟨-, hv⟩, -⟩ := h
  refine ⟨⟨fun g hg => ?_, hv⟩, fun h => absurd h hc⟩
  obtain rfl := Option.some.inj hg
  exact hk

/-- A grant issued to a meter with none out, of its own kind, that is not closing and has no entry in the queue (R62). -/
theorem GrantsHeld.issueGrant (h : GrantsHeld owed s) {slot : Nat} {m : Meter} (hm : s.meter? slot = some m) {kind : GrantKind}
    (hk : m.kind = kindFor kind) (hc : m.state ≠ .closing) (hg : m.grantOut = none) (hq : s.queued slot = false) (amount : Nat) :
    GrantsHeld owed (issueGrant slot m kind amount s) := by
  have hl := h.lawful hm
  cases kind with
  | limit =>
    refine h.putMeter hm (hl.withGrant hk hc ..) (by simp [hq]) ?_
    rw [refillOut_none hg]; simp [refillOut, Meter.withGrant, refillAmount]
  | refill =>
    refine ((h.reserveFunds amount).countSpent m.branch amount).putMeter (m := m) ?_ (hl.withGrant hk hc ..) ?_ ?_
    · rw [meter?_congr (countSpent_meters ..)]; exact hm
    · rw [queued_congr (countSpent_queue ..)]
      exact fun h => absurd (hq.symm.trans h) (by simp)
    · rw [refillOut_none hg]; simp [refillOut, Meter.withGrant, refillAmount]

/-- A grant out settled (R69). -/
theorem GrantsHeld.settleGrant (h : GrantsHeld 0 s) {slot : Nat} {m : Meter} (hm : s.meter? slot = some m) {g : GrantOut}
    (hg : m.grantOut = some g) : GrantsHeld 0 (settleGrant slot m g s) := by
  obtain ⟨⟨-, hv⟩, -⟩ := h.lawful hm
  refine GrantsHeld.putEvaluated_of _ _ ((h.unreserve g (h.reserved_ge hm hg)).putMeter (m := m) ?_ ⟨⟨?_, hv⟩, fun _ => rfl⟩ ?_ ?_)
  · rw [meter?_congr (unreserve_meters ..)]; exact hm
  · simp [Meter.evaluated]
  · rw [queued_congr (unreserve_queue ..)]
    exact fun hq => ⟨rfl, (h.queue.of_queued hq hm).2⟩
  · rw [refillOut_some hg, refillOut_none (by rfl)]; omega

/-- A grant out voided, up to its pool credit (R71). -/
theorem GrantsHeld.voidGrant (h : GrantsHeld 0 s) {slot : Nat} {m : Meter} (hm : s.meter? slot = some m) {g : GrantOut}
    (hg : m.grantOut = some g) : GrantsHeld 0 (voidGrant slot m g s) := by
  obtain ⟨⟨hgk, -⟩, -⟩ := h.lawful hm
  have hr := (h.unreserve g (h.reserved_ge hm hg)).reduceSpent g
  refine (hr.putMeter (m := m) ?_ ⟨⟨by simp [Meter.voided], fun v hv => ?_⟩, fun _ => rfl⟩ ?_ ?_).raiseAttention
  · rw [meter?_congr ((reduceSpent_meters ..).trans (unreserve_meters ..))]; exact hm
  · obtain rfl := Option.some.inj hv
    exact hgk g hg
  · rw [queued_congr ((reduceSpent_queue ..).trans (unreserve_queue ..))]
    exact fun hq => ⟨rfl, (h.queue.of_queued hq hm).2⟩
  · rw [refillOut_some hg, refillOut_none (by rfl)]; omega

/-- A late settlement that is made (R75, R76). -/
theorem GrantsHeld.lateSettle (h : GrantsHeld owed s) {slot : Nat} {m : Meter} (hm : s.meter? slot = some m) {v : Voided}
    (ht : lateSettle slot m v s = some t) : GrantsHeld owed t := by
  obtain ⟨⟨hg, -⟩, hc⟩ := h.lawful hm
  have hl : ({ m.loadedWith v.amount with lastVoided := none } : Meter).evaluated.GrantsLawful :=
    ⟨⟨hg, by simp [Meter.evaluated]⟩, hc⟩
  rcases lateSettle_some ht with ⟨-, rfl⟩ | ⟨-, -, rfl⟩
  · exact GrantsHeld.putEvaluated_of _ _ (h.touchMeter hm hl rfl rfl)
  · refine GrantsHeld.putEvaluated_of _ _ (((h.debitPool v.amount).countSpent m.branch v.amount).touchMeter (m := m) ?_ hl rfl rfl)
    rw [meter?_congr (countSpent_meters ..)]; exact hm

/-- A meter enters DISPUTE (R41, R77). -/
theorem GrantsHeld.enterDispute (h : GrantsHeld owed s) {slot : Nat} {m m' : Meter} (hm : s.meter? slot = some m)
    (hl : m'.GrantsLawful) (hk : m'.kind = m.kind) (hg : m'.grantOut = m.grantOut) : GrantsHeld owed (enterDispute slot m' s) :=
  (h.touchMeter (m' := { m' with state := .dispute, causes := m'.causes.with .dispute }) hm ⟨hl.1, by simp⟩ hk hg).raiseAttention

/-- What a counted refusal leaves of the meter's grants. -/
theorem Meter.refusedWith_grants (m : Meter) (st : Status) :
    (m.refusedWith st).kind = m.kind ∧ (m.refusedWith st).grantOut = m.grantOut ∧ (m.refusedWith st).lastVoided = m.lastVoided
      ∧ (m.refusedWith st).state = m.state := by
  unfold Meter.refusedWith
  split <;> exact ⟨rfl, rfl, rfl, rfl⟩

theorem Meter.GrantsLawful.refusedWith {m : Meter} (h : m.GrantsLawful) (st : Status) : (m.refusedWith st).GrantsLawful := by
  obtain ⟨hk, hg, hv, hs⟩ := m.refusedWith_grants st
  simpa only [Meter.GrantsLawful, hk, hg, hv, hs] using h

/-- A refusal counted on a meter (R22, R52). -/
theorem GrantsHeld.refuseMeter (h : GrantsHeld owed s) {slot : Nat} {m : Meter} (hm : s.meter? slot = some m) (st : Status) :
    GrantsHeld owed (s.putMeter slot (m.refusedWith st)) := by
  obtain ⟨hk, hg, -, -⟩ := m.refusedWith_grants st
  exact h.touchMeter hm ((h.lawful hm).refusedWith st) hk hg

/-! ## Serving -/

/-- A round of serving (R86 to R89): the entry served has left the queue, so its meter may be issued a grant. -/
theorem GrantsHeld.serveRound (h : GrantsHeld owed s) (hr : serveRound s = .issued t ∨ serveRound s = .removed t) :
    GrantsHeld owed t := by
  have hdrop : ∀ {e : QueueEntry} {rest}, s.record.queue = e :: rest → GrantsHeld owed (Machine.setQueueAfterRemoval rest s) :=
    fun hq => h.setQueueAfterRemoval (hq ▸ List.sublist_cons_self _ _)
  rcases serveRound_cases s with he | ⟨e, rest, m, g, reason, a, hq, hm, hel, -, ha, he⟩ |
      ⟨e, rest, m, st, f, hq, hm, -, -, he⟩ | ⟨e, rest, m, hq, hm, -, he⟩ | ⟨e, rest, hq, -, he⟩
  · simp [he] at hr
  · simp only [he, Round.issued.injEq, reduceCtorEq, or_false] at hr
    subst hr
    obtain ⟨-, hnd, -⟩ := h.queue
    rw [hq] at hnd
    have hfree : (Machine.setQueueAfterRemoval rest s).queued e.slot = false := by
      refine not_queued_iff.2 fun x hx heq => ?_
      rw [setQueueAfterRemoval_queue] at hx
      exact (List.nodup_cons.1 hnd).1 (List.mem_map.2 ⟨x, hx, heq⟩)
    obtain ⟨hgo, hkind⟩ := h.queue.of_queued (queued_iff.2 ⟨e, by simp [hq], rfl⟩) hm
    have hact : m.state = .active := by
      simp only [eligible, Bool.and_eq_true, decide_eq_true_eq] at hel
      exact hel.1.1
    refine ((hdrop hq).issueGrant ?_ hkind (by simp [hact]) hgo hfree a).setMeterCause _ _
    rw [meter?_congr (setQueueAfterRemoval_meters ..)]; exact hm
  · simp only [he, Round.removed.injEq, reduceCtorEq, false_or] at hr
    subst hr
    refine ((hdrop hq).refuseMeter ?_ st).setMeterCause _ _
    rw [meter?_congr (setQueueAfterRemoval_meters ..)]; exact hm
  · simp only [he, Round.removed.injEq, reduceCtorEq, false_or] at hr
    subst hr
    exact (hdrop hq).setMeterCause _ _
  · simp only [he, Round.removed.injEq, reduceCtorEq, false_or] at hr
    subst hr
    exact hdrop hq

theorem GrantsHeld.serveQueue (h : GrantsHeld owed s) : GrantsHeld owed (serveQueue s).state :=
  serveQueue_keeps (P := GrantsHeld owed) (fun _ _ hs hr => hs.serveRound hr) s h

theorem GrantsHeld.creditAndServe (h : GrantsHeld owed s) (n : Nat) : GrantsHeld owed (creditAndServe n s).state := by
  unfold Machine.creditAndServe
  split
  · exact h
  · exact (h.creditPool n).serveQueue

/-- A void with its pool credit (R71). -/
theorem GrantsHeld.voidAndCredit (h : GrantsHeld 0 s) {slot : Nat} {m : Meter} (hm : s.meter? slot = some m) {g : GrantOut}
    (hg : m.grantOut = some g) : GrantsHeld 0 (voidAndCredit slot m g s) :=
  (h.voidGrant hm hg).creditAndServe _

end Sys2Proof.Machine
end

section
/-! SUPPORT. The laws of the grants (O56) under the requests of the Account Table. -/

namespace Sys2Proof.Machine

variable {s t : State}

/-! ## RETIRE METER -/

/-- A meter with a grant out has no entry in the queue (R80). -/
theorem QueueLaw.not_queued_of_grant (h : QueueLaw s) {slot : Nat} {m : Meter} (hm : s.meter? slot = some m) {g : GrantOut}
    (hg : m.grantOut = some g) : s.queued slot = false := by
  cases hq : s.queued slot with
  | false => rfl
  | true => exact absurd (hg.symm.trans (h.of_queued hq hm).1) (by simp)

/-- The serving of a void leaves the record of a voided meter without a queue entry. -/
theorem unserved_voidGrant {slot : Nat} (m : Meter) (g : GrantOut) (hq : s.queued slot = false) :
    Unserved slot (some (m.voided g)) s.record.pool.writtenOff (voidGrant slot m g s) :=
  ⟨(queued_congr (voidGrant_queue ..) slot).trans hq, by simp [State.meter?, voidGrant_meters], by rw [voidGrant_pool]⟩

/-- Step 1 of R15 leaves the meter in its slot, with no refill out. -/
theorem GrantsHeld.retireVoid (h : GrantsHeld 0 s) {slot : Nat} {m : Meter} (hm : s.meter? slot = some m) :
    GrantsHeld 0 (retireVoid slot m s) ∧ ∃ m', (retireVoid slot m s).meter? slot = some m' ∧ refillOut m' = 0 := by
  unfold Machine.retireVoid
  cases hg : m.grantOut with
  | none => exact ⟨h, m, hm, refillOut_none hg⟩
  | some g =>
    obtain ⟨-, hm', -⟩ := (unserved_voidGrant m g (h.queue.not_queued_of_grant hm hg)).creditAndServe (refillAmount g)
    exact ⟨h.voidAndCredit hm hg, m.voided g, hm', refillOut_none rfl⟩

theorem GrantsHeld.retire (h : GrantsHeld 0 s) {slot : Nat} {m : Meter} (hm : s.meter? slot = some m) :
    GrantsHeld 0 (retire slot m s) := by
  obtain ⟨h1, m', hm', hr⟩ := h.retireVoid hm
  have h3 := (h1.addWrittenOff (prepaidShare m)).emptySlot (m := m') hm' hr
  unfold Machine.retire
  dsimp only
  split
  · exact h3.serveQueue
  · exact h3

theorem GrantsHeld.retireMeter (h : GrantsHeld 0 s) (slot : Nat) : GrantsHeld 0 (retireMeter slot s).1 := by
  unfold Machine.retireMeter
  refine ite_state (fun _ => h) fun _ => ite_state (fun _ => h) fun _ => ?_
  cases hm : s.meter? slot with
  | none => exact h
  | some m => exact ite_state (fun _ => h) fun _ => h.retire hm

/-! ## ENROL METER -/

theorem enrolled_grantsLawful (e : Enrolment) (kind : MeterKind) (sub : SubMode) (cond : Conditioning) (s : State) :
    (enrolled s e kind sub cond).evaluated.GrantsLawful :=
  ⟨⟨by simp [enrolled, Meter.evaluated], by simp [enrolled, Meter.evaluated]⟩, fun _ => rfl⟩

theorem GrantsHeld.enrolMeter (h : GrantsHeld 0 s) (e : Enrolment) : GrantsHeld 0 (enrolMeter e s).1 := by
  unfold Machine.enrolMeter
  refine ite_state (fun _ => h) fun _ => ite_state (fun _ => h) fun _ => ite_state (fun _ => h) fun _ =>
    ite_state (fun _ => h) fun _ => ite_state (fun _ => h) fun _ => ?_
  split
  · exact h
  · rename_i slot kind sub cond hslot _ _ _
    refine ite_state (fun _ => h) fun _ => GrantsHeld.putEvaluated_of _ _ ?_
    obtain ⟨-, hm⟩ := lowestEmpty_meter hslot
    refine (h.debitPool _).fillMeter (enrolled_grantsLawful e kind sub cond s) (fun hq => ?_) ?_
    · exact absurd (h.queue.not_queued hm) (by simpa using show s.queued slot = true from hq)
    · rw [State.figureAt_none (by exact hm)]; rfl
  · exact h

/-! ## SET METER -/

/-- The record of a SET METER: a change of the kind finds no grant out and clears the last voided grant (R10). -/
theorem Meter.GrantsLawful.changed {m : Meter} (h : m.GrantsLawful) {c : MeterChanges}
    (hk : codedOr m.kind c.kind ≠ m.kind → m.grantOut = none) : (m.changed c).GrantsLawful := by
  obtain ⟨hgrants, hclosing⟩ := h
  refine ⟨?_, hclosing⟩
  by_cases hs : codedOr m.kind c.kind = m.kind
  · simp only [Meter.changed, hs, if_true]
    exact hgrants
  · simp only [Meter.changed, hs, if_false, hk hs]
    simp

theorem GrantsHeld.putChanged (h : GrantsHeld 0 s) {slot : Nat} {m : Meter} (hm : s.meter? slot = some m) {c : MeterChanges}
    (hk : codedOr m.kind c.kind ≠ m.kind → m.grantOut = none ∧ s.queued slot = false) :
    GrantsHeld 0 (putChanged slot m c s) := by
  have hl := (h.lawful hm).changed (c := c) (fun hne => (hk hne).1)
  have hqueue : s.queued slot = true → m.grantOut = none ∧ codedOr m.kind c.kind = .prepaid := by
    intro hq
    obtain ⟨hg, hp⟩ := h.queue.of_queued hq hm
    by_cases hs : codedOr m.kind c.kind = m.kind
    · exact ⟨hg, hs.trans hp⟩
    · exact absurd hq (by simp [(hk hs).2])
  have howed : (0 : Int) = 0 + refillOut m - refillOut (m.changed c) := by
    have : refillOut (m.changed c) = refillOut m := rfl
    omega
  unfold Machine.putChanged
  split
  · exact GrantsHeld.putEvaluated_of _ _ (h.putMeter hm hl hqueue howed)
  · exact h.putMeter hm hl hqueue howed

theorem GrantsHeld.applyChanges (h : GrantsHeld 0 s) {slot : Nat} {m : Meter} (hm : s.meter? slot = some m) (c : MeterChanges) :
    GrantsHeld 0 (applyChanges slot m c s).1 := by
  unfold Machine.applyChanges
  refine ite_state (fun hs => h.putChanged hm fun hne => absurd hs hne) fun hs => ?_
  split
  · exact h
  · rename_i hr
    have hfree := kindChangeRefusal_none hr
    split
    · exact (h.putChanged hm fun _ => hfree).creditAndServe _
    · exact ite_state (fun _ => h) fun _ => (h.debitPool m.credit).putChanged hm fun _ => hfree

theorem GrantsHeld.setMeter (h : GrantsHeld 0 s) (slot : Nat) (c : MeterChanges) : GrantsHeld 0 (setMeter slot c s).1 := by
  unfold Machine.setMeter
  refine ite_state (fun _ => h) fun _ => ite_state (fun _ => h) fun _ => ?_
  cases hm : s.meter? slot with
  | none => exact h
  | some m =>
    exact ite_state (fun _ => h) fun _ => ite_state (fun _ => h) fun _ => ite_state (fun _ => h) fun _ => h.applyChanges hm c

/-! ## REASSIGN METER, CLOSE METER, READ METER -/

theorem GrantsHeld.reassignMeter (h : GrantsHeld 0 s) (slot branch : Nat) : GrantsHeld 0 (reassignMeter slot branch s).1 := by
  unfold Machine.reassignMeter
  refine ite_state (fun _ => h) fun _ => ite_state (fun _ => h) fun _ => ?_
  cases hm : s.meter? slot with
  | none => exact h
  | some m =>
    have hl := h.lawful hm
    exact ite_state (fun _ => h) fun _ => ite_state (fun _ => h) fun _ => ite_state (fun _ => h) fun _ =>
      h.touchMeter (m' := { m with branch := branch }) hm hl rfl rfl

theorem GrantsHeld.closeMeter (h : GrantsHeld 0 s) (slot : Nat) : GrantsHeld 0 (closeMeter slot s).1 := by
  unfold Machine.closeMeter
  refine ite_state (fun _ => h) fun _ => ite_state (fun _ => h) fun _ => ?_
  cases hm : s.meter? slot with
  | none => exact h
  | some m =>
    have hl := h.lawful hm
    have hclose : GrantsHeld 0
        (if m.grantOut.isSome = true then (s, refuse .grantOut)
          else (s.putMeter slot { m with state := .closing }, done .none)).1 :=
      ite_state (fun _ => h) fun hg =>
        h.touchMeter (m' := { m with state := .closing }) hm ⟨hl.1, fun _ => by simpa using hg⟩ rfl rfl
    dsimp only
    split
    · exact h
    · exact h
    · exact hclose
    · exact hclose

theorem GrantsHeld.readMeter (h : GrantsHeld 0 s) (slot : Nat) (take : Coded Bool) : GrantsHeld 0 (readMeter slot take s).1 := by
  unfold Machine.readMeter
  refine ite_state (fun _ => h) fun _ => ite_state (fun _ => h) fun _ => ?_
  cases take with
  | unknown => exact h
  | value takes =>
    cases hm : s.meter? slot with
    | none => exact h
    | some m =>
      have hl := h.lawful hm
      dsimp only
      split
      · exact h.touchMeter (m' := m.countersTaken) hm hl rfl rfl
      · exact h

end Sys2Proof.Machine
end

section
/-! SUPPORT. The laws of the grants (O56) under the requests of refills and limits, of the queue, and under METER REPORT and RESOLVE METER. -/

namespace Sys2Proof.Machine

variable {s t : State}

/-! ## REFILL REQUEST and LIMIT REQUEST -/

theorem GrantsHeld.actOnRequest (h : GrantsHeld 0 s) {slot : Nat} {m : Meter} (hm : s.meter? slot = some m) (kind : GrantKind)
    (held : Bool) (carried amount : Nat) :
    GrantsHeld 0 (actOnRequest slot m kind (hostDecision s slot m kind held carried amount) s).1 := by
  unfold hostDecision
  cases hr : requestRefusal s slot m kind held with
  | some st => exact h.refuseMeter hm st
  | none =>
    obtain ⟨hact, hg, hq, hk⟩ := requestRefusal_none hr
    have hc : m.state ≠ .closing := by simp [hact]
    cases kind with
    | refill =>
      rcases decideRefill_cases s m .host carried amount with ⟨st, f, he⟩ | ⟨n, he, -, hroom⟩ | ⟨a, r, he, -⟩ <;>
        simp only [decideHost, he]
      · exact h.refuseMeter hm st
      · exact h.joinQueue n .host hm hk hg hq hroom
      · exact h.issueGrant hm hk hc hg hq a
    | limit =>
      rcases decideLimit_cases s m amount with ⟨st, f, he⟩ | ⟨a, r, he⟩ <;> simp only [decideHost, he]
      · exact h.refuseMeter hm st
      · exact h.issueGrant hm hk hc hg hq a

theorem GrantsHeld.grantRequest (h : GrantsHeld 0 s) (kind : GrantKind) (slot amount : Nat) :
    GrantsHeld 0 (grantRequest kind slot amount s).1 := by
  unfold Machine.grantRequest
  refine ite_state (fun _ => h) fun _ => ?_
  cases hm : s.meter? slot with
  | none => exact h
  | some m =>
    refine ite_state (fun _ => h) fun _ => ?_
    unfold answerRequest
    split
    · exact h
    · exact h.actOnRequest hm kind _ _ _

/-! ## LOAD CONFIRM, CANCEL GRANT and the load timer -/

theorem GrantsHeld.confirmOut (h : GrantsHeld 0 s) {slot : Nat} {m : Meter} (hm : s.meter? slot = some m) {g : GrantOut}
    (hg : m.grantOut = some g) (total : Nat) : GrantsHeld 0 (confirmOut slot m g total s).1 := by
  have hl := h.lawful hm
  unfold Machine.confirmOut
  exact ite_state (fun _ => h.settleGrant hm hg) fun _ => ite_state (fun _ => h.voidAndCredit hm hg) fun _ =>
    h.touchMeter (m' := { m with mismatches := countUp m.mismatches 1 }) hm hl rfl rfl

theorem GrantsHeld.confirmVoided (h : GrantsHeld 0 s) {slot : Nat} {m : Meter} (hm : s.meter? slot = some m) (v : Voided)
    (total : Nat) : GrantsHeld 0 (confirmVoided slot m v total s).1 := by
  unfold Machine.confirmVoided
  refine ite_state (fun _ => ?_) fun _ => h
  cases hs : Machine.lateSettle slot m v s with
  | some s' => exact h.lateSettle hm hs
  | none => exact h.enterDispute hm (h.lawful hm) rfl rfl

theorem GrantsHeld.loadConfirm (h : GrantsHeld 0 s) (slot number total : Nat) :
    GrantsHeld 0 (loadConfirm slot number total s).1 := by
  unfold Machine.loadConfirm
  refine ite_state (fun _ => h) fun _ => ite_state (fun _ => h) fun _ => ?_
  cases hm : s.meter? slot with
  | none => exact h
  | some m =>
    dsimp only
    unfold confirm
    split
    · rename_i g _ hg
      exact ite_state (fun _ => h.confirmOut hm hg total) fun _ => h
    · rename_i v _ _
      exact ite_state (fun _ => h.confirmVoided hm v total) fun _ => h
    · exact h

theorem GrantsHeld.cancelGrant (h : GrantsHeld 0 s) (slot number : Nat) : GrantsHeld 0 (cancelGrant slot number s).1 := by
  unfold Machine.cancelGrant
  refine ite_state (fun _ => h) fun _ => ite_state (fun _ => h) fun _ => ?_
  cases hm : s.meter? slot with
  | none => exact h
  | some m =>
    dsimp only
    cases hg : m.grantOut with
    | none => exact h
    | some g => exact ite_state (fun _ => h.voidAndCredit hm hg) fun _ => h

theorem GrantsHeld.expire (h : GrantsHeld 0 s) (slot : Nat) : GrantsHeld 0 (expire slot s) := by
  unfold Machine.expire
  cases hm : s.meter? slot with
  | none => exact h
  | some m =>
    dsimp only
    cases hg : m.grantOut with
    | none => exact h
    | some g =>
      dsimp only
      split
      · exact h.voidAndCredit hm hg
      · exact h

/-! ## CANCEL QUEUED and READ QUEUE -/

theorem GrantsHeld.cancelQueued (h : GrantsHeld 0 s) (slot : Nat) : GrantsHeld 0 (cancelQueued slot s).1 := by
  unfold Machine.cancelQueued
  refine ite_state (fun _ => h) fun _ => ite_state (fun _ => h) fun _ => ite_state (fun _ => h) fun _ => ?_
  split
  · exact h
  · dsimp only
    split
    · exact (h.removeEntry slot).serveQueue
    · exact h.removeEntry slot

theorem GrantsHeld.readQueue (h : GrantsHeld 0 s) (start : Nat) : GrantsHeld 0 (readQueue start s).1 := by
  unfold Machine.readQueue
  exact ite_state (fun _ => h) fun _ => ite_state (fun _ => h) fun _ => h.congr h.canonical rfl rfl rfl

/-! ## METER REPORT -/

theorem GrantsHeld.settleFor (h : GrantsHeld 0 s) {slot : Nat} {m : Meter} (hm : s.meter? slot = some m) {total : Nat}
    (ht : settleFor slot m s (settlementFor m total) = some t) : GrantsHeld 0 t := by
  rcases settlementFor_cases m total with he | ⟨g, he, hg, -⟩ | ⟨v, he, -, -⟩ <;> rw [he] at ht <;>
    simp only [Machine.settleFor] at ht
  · cases ht; exact h
  · cases ht; exact h.settleGrant hm hg
  · exact h.lateSettle hm ht

theorem Meter.GrantsLawful.reported {m : Meter} (h : m.GrantsLawful) (q : Half) (a d : Nat) : (m.reported q a d).GrantsLawful := by
  refine ⟨h.1, fun hc => h.2 ?_⟩
  simp only [Meter.reported] at hc
  split at hc
  · cases hc
  · exact hc

theorem GrantsHeld.settleReport (h : GrantsHeld 0 s) {slot : Nat} {m : Meter} (hm : s.meter? slot = some m) (q : Half) (a d : Nat) :
    GrantsHeld 0 (settleReport slot m q a d s) := by
  have hl := (h.lawful hm).reported q a d
  have hp : GrantsHeld 0 (putEvaluated slot (m.reported q a d) s) := GrantsHeld.putEvaluated_of _ _ (h.touchMeter hm hl rfl rfl)
  unfold Machine.settleReport chargeFor
  cases m.kind with
  | prepaid => exact hp.addFranked _
  | postpaid => exact (hp.addFranked _).chargeUsage _

/-- The retirement of a closing meter, whose credit goes to the pool (R40). -/
theorem GrantsHeld.retireClosing (h : GrantsHeld 0 s) {slot : Nat} {m : Meter} (hm : s.meter? slot = some m)
    (hc : m.state = .closing) (credit : Nat) (kind : MeterKind) : GrantsHeld 0 (retireClosing slot credit kind s) := by
  have he := h.emptySlot hm (refillOut_none ((h.lawful hm).2 hc))
  have hserve : GrantsHeld 0 (if headIs s slot then (Machine.serveQueue (Machine.emptySlot slot s)).state
      else Machine.emptySlot slot s) := by
    split
    · exact he.serveQueue
    · exact he
  unfold Machine.retireClosing
  cases kind with
  | postpaid => exact hserve
  | prepaid =>
    dsimp only
    split
    · exact hserve
    · exact he.creditAndServe _

theorem GrantsHeld.topUp (h : GrantsHeld 0 s) (slot : Nat) : GrantsHeld 0 (topUp slot s).1 := by
  unfold Machine.topUp
  cases hm : s.meter? slot with
  | none => exact h
  | some m =>
    dsimp only
    split
    · rename_i hdue
      simp only [topUpDue, Bool.and_eq_true, decide_eq_true_eq, Bool.not_eq_true', Option.isNone_iff_eq_none] at hdue
      obtain ⟨⟨⟨⟨⟨⟨hk, -⟩, hact⟩, -⟩, hg⟩, hq⟩, -⟩ := hdue
      unfold topUpDecision
      rcases decideRefill_cases s m .auto m.headroom.toNat (substituted (effective s m) m m.headroom.toNat) with
        ⟨st, f, he⟩ | ⟨n, he, -, hroom⟩ | ⟨a, r, he, -⟩ <;> simp only [he, actOnTopUp]
      · unfold refusedTopUp
        dsimp only
        split
        · exact (h.refuseMeter hm st).setMeterCause _ _
        · exact (h.refuseMeter hm st).setMeterCause _ _
      · exact h.joinQueue n .auto hm hk hg hq hroom
      · exact (h.issueGrant (kind := .refill) hm hk (by simp [hact]) hg hq a).setMeterCause _ _
    · exact h

theorem GrantsHeld.acceptReport (h : GrantsHeld 0 s) {slot : Nat} {m : Meter} (hm : s.meter? slot = some m) (first : SettledFirst)
    (q : Half) (a d : Nat) : GrantsHeld 0 (acceptReport slot m first q a d s).1 := by
  have hr := h.settleReport hm q a d
  unfold Machine.acceptReport
  dsimp only
  split
  · rename_i hc
    have hc' : m.state = .closing := by simpa using hc
    exact hr.retireClosing (settleReport_meter? slot m q a d s) (by simp [Meter.reported, Meter.evaluated, hc']) _ _
  · exact hr.topUp slot

theorem GrantsHeld.reportOn (h : GrantsHeld 0 s) {slot : Nat} {m : Meter} (hm : s.meter? slot = some m) (q : Half) (a d : Nat) :
    GrantsHeld 0 (reportOn slot m q a d s).1 := by
  have hl := h.lawful hm
  unfold Machine.reportOn
  split
  · exact h.touchMeter (m' := { m with stale := countUp m.stale 1 }) hm hl rfl rfl
  · refine ite_state (fun _ => h) fun _ => ?_
    dsimp only
    split
    · rename_i t ht
      have h' := h.settleFor hm ht
      unfold judgeReport
      cases hm' : t.meter? slot with
      | none => exact h'
      | some m' =>
        have hl' := h'.lawful hm'
        exact ite_state (fun _ => h'.acceptReport hm' _ q a d) fun _ => h'.enterDispute hm' hl' rfl rfl
    · exact h.enterDispute hm hl rfl rfl

theorem GrantsHeld.meterReport (h : GrantsHeld 0 s) (slot : Nat) (q : Half) (a d : Nat) :
    GrantsHeld 0 (meterReport slot q a d s).1 := by
  unfold Machine.meterReport
  refine ite_state (fun _ => h) fun _ => ite_state (fun _ => h) fun _ => ?_
  cases hm : s.meter? slot with
  | none => exact h
  | some m => exact ite_state (fun _ => h) fun _ => h.reportOn hm q a d

/-! ## RESOLVE METER -/

/-- The void of a resolution leaves the meter in its slot, with no grant out (R44). -/
theorem GrantsHeld.resolveVoid (h : GrantsHeld 0 s) {slot : Nat} {m : Meter} (hm : s.meter? slot = some m) :
    GrantsHeld 0 (resolveVoid slot m s) ∧ ∃ m', (resolveVoid slot m s).meter? slot = some m' ∧ m'.grantOut = none := by
  unfold Machine.resolveVoid
  cases hg : m.grantOut with
  | none => exact ⟨h, m, hm, hg⟩
  | some g => exact ⟨h.voidGrant hm hg, m.voided g, by simp [State.meter?, voidGrant_meters], rfl⟩

theorem GrantsHeld.resolveRecord (h : GrantsHeld 0 s) {slot : Nat} {m : Meter} (hm : s.meter? slot = some m) (a d : Nat) :
    GrantsHeld 0 (resolveRecord slot m a d s) := by
  obtain ⟨hv, m', hm', hg⟩ := h.resolveVoid hm
  have hl : (m'.resolved a d).evaluated.GrantsLawful :=
    ⟨⟨by simp [Meter.resolved, Meter.evaluated, hg], by simp [Meter.resolved, Meter.evaluated]⟩, fun _ => hg⟩
  unfold Machine.resolveRecord
  rw [show afterVoid slot m s = m' by simp [afterVoid, hm']]
  exact GrantsHeld.putEvaluated_of _ _ ((hv.addFranked _).touchMeter hm' hl rfl rfl)

theorem GrantsHeld.resolve (h : GrantsHeld 0 s) {slot : Nat} {m : Meter} (hm : s.meter? slot = some m) (a d : Nat) :
    GrantsHeld 0 (resolve slot m a d s).1 := by
  have hr := h.resolveRecord hm a d
  show GrantsHeld 0 (resolveFunds m a d (Machine.resolveRecord slot m a d s))
  unfold resolveFunds
  split
  · exact hr.chargeUsage _
  · dsimp only
    split
    · exact hr.creditAndServe _
    · exact hr.debitPool _

theorem GrantsHeld.resolveMeter (h : GrantsHeld 0 s) (slot a d : Nat) : GrantsHeld 0 (resolveMeter slot a d s).1 := by
  unfold Machine.resolveMeter
  refine ite_state (fun _ => h) fun _ => ite_state (fun _ => h) fun _ => ?_
  cases hm : s.meter? slot with
  | none => exact h
  | some m =>
    exact ite_state (fun _ => h) fun _ => ite_state (fun _ => h) fun _ => ite_state (fun _ => h) fun _ =>
      ite_state (fun _ => h) fun _ => h.resolve hm a d

end Sys2Proof.Machine
end

section
/-! SUPPORT. The laws of the grants (O56) under the requests of branches, denominations, stock, transfers and counts, DEPOSIT and REFUND. -/

namespace Sys2Proof.Machine

variable {s t : State} {owed : Int}

/-! ## What these requests change -/

/-- Every record of the Account Table changed, its kind and its refill out standing. -/
theorem GrantsHeld.mapMeters (h : GrantsHeld owed s) {f : Nat → Meter → Meter}
    (hk : ∀ i m, (f i m).kind = m.kind) (hr : ∀ i m, refillOut (f i m) = refillOut m)
    (hg : ∀ i m, m.kind = .prepaid → m.grantOut = none → (f i m).grantOut = none)
    (hl : ∀ i m, m.GrantsLawful → (f i m).GrantsLawful) :
    GrantsHeld owed { s with record.meters := Table.mapRecords f s.record.meters } := by
  have hsum : Table.sum (fun _ m => refillOut m) (Table.mapRecords f s.record.meters) = refillsOut s := by
    rw [Table.sum_mapRecords]
    exact Table.sum_congr fun e _ => hr e.1 e.2
  obtain ⟨⟨c1, c⟩, h2, ⟨q1, q2, q3⟩, h4⟩ := h
  refine ⟨⟨Table.sorted_mapRecords f c1, c⟩, fun e he => ?_, ⟨q1, q2, fun e he => ?_⟩, ?_⟩
  · obtain ⟨m, hm, hem⟩ := Table.mem_mapRecords he
    rw [hem]
    exact hl _ _ (h2 _ hm)
  · obtain ⟨m, hm, hgo, hkind⟩ := q3 e he
    refine ⟨f e.slot m, ?_, hg _ _ hkind hgo, (hk _ _).trans hkind⟩
    simp only [State.meter?, Table.find_mapRecords]
    rw [show Table.find s.record.meters e.slot = some m from hm]
    rfl
  · simpa only [refillsOut, hsum] using h4

/-- Another list of denominations in rising order. -/
theorem GrantsHeld.withDenominations (h : GrantsHeld owed s) {ds : Table Denomination} (hs : Table.Sorted ds) :
    GrantsHeld owed { s with record.denominations := ds } := by
  obtain ⟨c1, c2, -, c⟩ := h.canonical
  exact h.congr ⟨c1, c2, hs, c⟩ rfl rfl rfl

theorem GrantsHeld.denominationsSorted (h : GrantsHeld owed s) : Table.Sorted s.record.denominations :=
  h.canonical.2.2.1

/-- A branch with another on-hand count of one denomination. -/
theorem GrantsHeld.recount (h : GrantsHeld owed s) {slot : Nat} {x : Branch} (hx : s.branch? slot = some x) (d n : Nat)
    (c : BranchCauses) : GrantsHeld owed (s.putBranch slot { x.withCount d n with causes := c }) := by
  obtain ⟨c1, c2, c3⟩ := h.branch hx
  exact h.putBranch slot ⟨Figures.canonical_set c1 d n, c2, c3⟩

theorem GrantsHeld.addStamps (h : GrantsHeld owed s) {slot : Nat} {x : Branch} (hx : s.branch? slot = some x) (d n : Nat) :
    GrantsHeld owed (addStamps slot x d n s) :=
  h.recount hx d (x.count d + n) x.causes

theorem GrantsHeld.takeStamps (h : GrantsHeld owed s) {slot : Nat} {x : Branch} (hx : s.branch? slot = some x) (d n : Nat) :
    GrantsHeld owed (takeStamps slot x d n s) := by
  have hp := fun c => h.recount hx d (x.count d - n) c
  unfold Machine.takeStamps
  dsimp only
  split
  · exact (hp _).raiseAttention
  · exact hp _

/-! ## The branches' requests -/

theorem GrantsHeld.openBranch (h : GrantsHeld 0 s) (code : Nat) : GrantsHeld 0 (openBranch code s).1 := by
  unfold Machine.openBranch
  refine ite_state (fun _ => h) fun _ => ite_state (fun _ => h) fun _ => ite_state (fun _ => h) fun _ => ?_
  split
  · exact h
  · exact h.putBranch _ ⟨⟨List.Pairwise.nil, by simp [openedBranch]⟩, ⟨List.Pairwise.nil, by simp [openedBranch]⟩, by simp [openedBranch]⟩

theorem GrantsHeld.setBranch (h : GrantsHeld 0 s) (slot : Nat) (c : BranchChanges) : GrantsHeld 0 (setBranch slot c s).1 := by
  unfold Machine.setBranch
  refine ite_state (fun _ => h) fun _ => ite_state (fun _ => h) fun _ => ?_
  cases hx : s.branch? slot with
  | none => exact h
  | some x =>
    obtain ⟨c1, c2, c3⟩ := h.branch hx
    exact ite_state (fun _ => h) fun _ => h.putBranch slot ⟨c1, canonical_setLevels c2 _, c3⟩

theorem GrantsHeld.readBranch (h : GrantsHeld 0 s) (slot : Nat) (take : Coded Bool) : GrantsHeld 0 (readBranch slot take s).1 := by
  unfold Machine.readBranch
  refine ite_state (fun _ => h) fun _ => ite_state (fun _ => h) fun _ => ?_
  cases take with
  | unknown => exact h
  | value takes =>
    cases hx : s.branch? slot with
    | none => exact h
    | some x =>
      have hc := h.branch hx
      dsimp only
      split
      · exact h.putBranch slot (x := { x with variance := 0 }) hc
      · exact h

theorem GrantsHeld.cycleControl (h : GrantsHeld 0 s) {action : Branch → Option Branch} (ha : CycleAction action) (known : Bool)
    (slot : Nat) : GrantsHeld 0 (cycleControl action known slot s).1 := by
  unfold Machine.cycleControl
  refine ite_state (fun _ => h) fun _ => ite_state (fun _ => h) fun _ => ?_
  cases hx : s.branch? slot with
  | none => exact h
  | some x =>
    dsimp only
    cases hact : action x with
    | none => exact h
    | some x' =>
      have hc := h.branch hx
      obtain ⟨run, cycle, rfl | rfl⟩ := ha x x' hact
      · exact h.putBranch slot (x := { x with run := run }) hc
      · exact h.putBranch slot (x := { x with run := run, dayCount := 0, spent := 0, cycle := cycle }) hc

theorem GrantsHeld.closeBranch (h : GrantsHeld 0 s) (slot : Nat) : GrantsHeld 0 (closeBranch slot s).1 := by
  unfold Machine.closeBranch
  refine ite_state (fun _ => h) fun _ => ite_state (fun _ => h) fun _ => ?_
  cases s.branch? slot with
  | none => exact h
  | some x =>
    dsimp only
    cases branchObstacle s slot x with
    | some o => exact h
    | none =>
      have hd := h.withBranches (Table.sorted_erase h.branchesSorted slot)
        fun e he => h.branchesCanonical e (Table.mem_erase he).1
      refine hd.mapMeters (fun _ _ => rfl) (fun _ m => (m.uncounted_reissued slot).refill)
        (fun _ m => (m.uncounted_reissued slot).free) fun _ m hl => ?_
      obtain ⟨⟨hgk, hv⟩, hc⟩ := hl
      refine ⟨⟨fun g hg => ?_, hv⟩, fun hcl => by simp [Meter.uncounted, hc hcl]⟩
      obtain ⟨g', hg', rfl⟩ := Option.map_eq_some_iff.1 hg
      refine (hgk g' hg').trans ?_
      split <;> rfl

/-! ## The denominations' requests -/

theorem GrantsHeld.defineDenomination (h : GrantsHeld 0 s) (face : Nat) : GrantsHeld 0 (defineDenomination face s).1 := by
  unfold Machine.defineDenomination
  refine ite_state (fun _ => h) fun _ => ite_state (fun _ => h) fun _ => ite_state (fun _ => h) fun _ => ?_
  split
  · exact h
  · exact h.withDenominations (Table.sorted_put h.denominationsSorted _ _)

theorem GrantsHeld.withdrawDenomination (h : GrantsHeld 0 s) (slot : Nat) : GrantsHeld 0 (withdrawDenomination slot s).1 := by
  unfold Machine.withdrawDenomination
  refine ite_state (fun _ => h) fun _ => ite_state (fun _ => h) fun _ => ?_
  cases s.denomination? slot with
  | none => exact h
  | some x =>
    dsimp only
    split
    · exact h
    · exact h.withDenominations (Table.sorted_put h.denominationsSorted _ _)

theorem GrantsHeld.retireDenomination (h : GrantsHeld 0 s) (slot : Nat) : GrantsHeld 0 (retireDenomination slot s).1 := by
  unfold Machine.retireDenomination
  refine ite_state (fun _ => h) fun _ => ite_state (fun _ => h) fun _ => ?_
  split
  · exact h
  split
  · exact h
  split
  · exact h
  exact h.withDenominations (Table.sorted_erase h.denominationsSorted _)

/-! ## The movements of stock, DEPOSIT and REFUND -/

theorem GrantsHeld.stockMovement (h : GrantsHeld 0 s) {admits : DenominationState → Bool}
    {act : Branch → Nat → Nat → State → State × Reply} {branch d n : Nat}
    (ha : ∀ x held value, s.branch? branch = some x → GrantsHeld 0 (act x held value s).1) :
    GrantsHeld 0 (stockMovement admits act branch d n s).1 := by
  unfold Machine.stockMovement
  refine ite_state (fun _ => h) fun _ => ite_state (fun _ => h) fun _ => ?_
  split
  · exact h
  · exact h
  · rename_i x y hx hy
    exact ite_state (fun _ => h) fun _ => ite_state (fun _ => h) fun _ => ha x _ _ hx

theorem GrantsHeld.purchaseStock (h : GrantsHeld 0 s) (branch d n : Nat) : GrantsHeld 0 (purchaseStock branch d n s).1 := by
  refine h.stockMovement fun x held value hx => ?_
  unfold purchaseAct
  exact ite_state (fun _ => h) fun _ => ite_state (fun _ => h) fun _ => ite_state (fun _ => h) fun _ =>
    (h.debitPool value).addStamps hx d n

theorem GrantsHeld.issueStock (h : GrantsHeld 0 s) (branch d n : Nat) : GrantsHeld 0 (issueStock branch d n s).1 := by
  refine h.stockMovement fun x held value hx => ?_
  unfold issueAct
  exact ite_state (fun _ => h) fun _ => ite_state (fun _ => h) fun _ => (h.addIssued value).takeStamps hx d n

theorem GrantsHeld.writeOffStock (h : GrantsHeld 0 s) (branch d n : Nat) : GrantsHeld 0 (writeOffStock branch d n s).1 := by
  refine h.stockMovement fun x held value hx => ?_
  unfold writeOffAct
  exact ite_state (fun _ => h) fun _ => ite_state (fun _ => h) fun _ => (h.addWrittenOff value).takeStamps hx d n

theorem GrantsHeld.surrenderStock (h : GrantsHeld 0 s) (branch d n : Nat) : GrantsHeld 0 (surrenderStock branch d n s).1 := by
  refine h.stockMovement fun x held value hx => ?_
  unfold surrenderAct
  exact ite_state (fun _ => h) fun _ => ite_state (fun _ => h) fun _ => (h.takeStamps hx d n).creditAndServe _

theorem GrantsHeld.deposit (h : GrantsHeld 0 s) (n : Nat) : GrantsHeld 0 (deposit n s).1 := by
  have hd : GrantsHeld 0 (addDeposits n s) := h.movePool rfl
  unfold Machine.deposit
  exact ite_state (fun _ => h) fun _ => ite_state (fun _ => h) fun _ => ite_state (fun _ => h) fun _ =>
    ite_state (fun _ => h) fun _ => hd.creditAndServe n

theorem GrantsHeld.refund (h : GrantsHeld 0 s) (n : Nat) : GrantsHeld 0 (refund n s).1 := by
  unfold Machine.refund
  refine ite_state (fun _ => h) fun _ => ite_state (fun _ => h) fun _ => ite_state (fun _ => h) fun _ =>
    ite_state (fun _ => h) fun _ => ?_
  exact h.congr h.canonical rfl rfl rfl

/-! ## Transfers -/

theorem GrantsHeld.listTransfer (h : GrantsHeld owed s) (x : Transfer) : GrantsHeld owed (listTransfer x s) :=
  h.congr h.canonical rfl rfl rfl

theorem GrantsHeld.unlistTransfer (h : GrantsHeld owed s) (n : Nat) : GrantsHeld owed (unlistTransfer n s) :=
  h.congr h.canonical rfl rfl rfl

theorem GrantsHeld.dispatch (h : GrantsHeld 0 s) (origin destination d n : Nat) :
    GrantsHeld 0 (dispatch origin destination d n s).1 := by
  unfold Machine.dispatch
  refine ite_state (fun _ => h) fun _ => ite_state (fun _ => h) fun _ => ite_state (fun _ => h) fun _ => ?_
  split
  · exact h
  · exact h
  · exact h
  · rename_i x y z hx hy hz
    unfold dispatchFrom
    exact ite_state (fun _ => h) fun _ => ite_state (fun _ => h) fun _ => ite_state (fun _ => h) fun _ =>
      (h.takeStamps hx d n).listTransfer _

theorem GrantsHeld.receive (h : GrantsHeld 0 s) (number r : Nat) : GrantsHeld 0 (receive number r s).1 := by
  unfold Machine.receive
  refine ite_state (fun _ => h) fun _ => ite_state (fun _ => h) fun _ => ?_
  cases s.transfer? number with
  | none => exact h
  | some x =>
    dsimp only
    split
    · exact h
    · exact h
    · rename_i y z hy hz
      unfold receiveInto
      refine ite_state (fun _ => h) fun _ => ite_state (fun _ => h) fun _ => ite_state (fun _ => h) fun _ =>
        ite_state (fun _ => h) fun _ => ?_
      have hland : GrantsHeld 0 (s.putBranch x.destination (y.receiving x r)) := by
        unfold Branch.receiving
        dsimp only
        split
        · exact h.recount hy _ _ _
        · exact h.recount hy _ _ y.causes
      unfold receiveStamps
      dsimp only
      split
      · exact ((hland.addWrittenOff _).raiseAttention).unlistTransfer _
      · exact hland.unlistTransfer _

theorem GrantsHeld.cancelTransfer (h : GrantsHeld 0 s) (number : Nat) : GrantsHeld 0 (cancelTransfer number s).1 := by
  unfold Machine.cancelTransfer
  refine ite_state (fun _ => h) fun _ => ite_state (fun _ => h) fun _ => ?_
  cases s.transfer? number with
  | none => exact h
  | some x =>
    dsimp only
    split
    · exact h
    · exact h
    · rename_i y z hy hz
      unfold cancelInto
      exact ite_state (fun _ => h) fun _ => ite_state (fun _ => h) fun _ => (h.addStamps hy _ _).unlistTransfer _

/-! ## Stock counts -/

theorem GrantsHeld.beginCount (h : GrantsHeld 0 s) (slot : Nat) : GrantsHeld 0 (beginCount slot s).1 := by
  unfold Machine.beginCount
  refine ite_state (fun _ => h) fun _ => ite_state (fun _ => h) fun _ => ?_
  cases hx : s.branch? slot with
  | none => exact h
  | some x =>
    obtain ⟨c1, c2, -⟩ := h.branch hx
    refine ite_state (fun _ => h) fun _ => h.putBranch slot ⟨c1, c2, fun l hl => ?_⟩
    obtain rfl := Option.some.inj hl
    exact ⟨c1, List.Pairwise.nil⟩

theorem GrantsHeld.enterCount (h : GrantsHeld 0 s) (slot d n : Nat) : GrantsHeld 0 (enterCount slot d n s).1 := by
  unfold Machine.enterCount
  refine ite_state (fun _ => h) fun _ => ite_state (fun _ => h) fun _ => ?_
  cases hx : s.branch? slot with
  | none => exact h
  | some x =>
    dsimp only
    cases hlatch : x.latch with
    | none => exact h
    | some l =>
      dsimp only
      cases s.denomination? d with
      | none => exact h
      | some z =>
        obtain ⟨c1, c2, c3⟩ := h.branch hx
        refine h.putBranch slot ⟨c1, c2, fun l' hl' => ?_⟩
        obtain rfl := Option.some.inj hl'
        exact ⟨(c3 l hlatch).1, Table.sorted_put (c3 l hlatch).2 d n⟩

/-- A branch with its open count dropped. -/
theorem Branch.canonical_unlatched {x : Branch} (h : x.Canonical) : x.unlatched.Canonical :=
  ⟨h.1, h.2.1, by simp [Branch.unlatched]⟩

theorem GrantsHeld.abandonCount (h : GrantsHeld 0 s) (slot : Nat) : GrantsHeld 0 (abandonCount slot s).1 := by
  unfold Machine.abandonCount
  refine ite_state (fun _ => h) fun _ => ite_state (fun _ => h) fun _ => ?_
  cases hx : s.branch? slot with
  | none => exact h
  | some x =>
    dsimp only
    cases x.latch with
    | none => exact h
    | some l => exact h.putBranch slot (Branch.canonical_unlatched (h.branch hx))

theorem GrantsHeld.closeCount (h : GrantsHeld 0 s) (slot : Nat) : GrantsHeld 0 (closeCount slot s).1 := by
  unfold Machine.closeCount
  refine ite_state (fun _ => h) fun _ => ite_state (fun _ => h) fun _ => ?_
  cases hx : s.branch? slot with
  | none => exact h
  | some x =>
    dsimp only
    cases x.latch with
    | none => exact h
    | some l =>
      refine ite_state (fun _ => h) fun _ => ?_
      obtain ⟨c1, c2, -⟩ := h.branch hx
      obtain ⟨c, hc⟩ := applyFigures_eq x l.counted
      have hnew : (x.closed l (countNet s l)).Canonical := by
        unfold Branch.closed
        rw [hc]
        exact ⟨canonical_setLevels c1 _, c2, by simp⟩
      exact ((h.putBranch slot hnew).addWrittenOff _).raiseIf

end Sys2Proof.Machine
end

section
/-! SUPPORT. The laws of the grants (O56) under TAKE ATTENTION, the days, the settings, the timers and start-up. -/

namespace Sys2Proof.Machine

variable {s t : State} {owed : Int}

/-! ## TAKE ATTENTION (R172) -/

theorem GrantsHeld.takeAttention (h : GrantsHeld 0 s) (subject slot : Nat) (causes : Half) :
    GrantsHeld 0 (takeAttention subject slot causes s).1 := by
  unfold Machine.takeAttention
  refine ite_state (fun _ => h) fun _ => ?_
  split
  · unfold takeFromMeter
    refine ite_state (fun _ => h) fun _ => ?_
    cases hm : s.meter? slot with
    | none => exact h
    | some m =>
      have hl := h.lawful hm
      exact h.touchMeter (m' := { m with causes := meterCausesLess m.causes causes }) hm hl rfl rfl
  · unfold takeFromBranch
    refine ite_state (fun _ => h) fun _ => ?_
    cases hx : s.branch? slot with
    | none => exact h
    | some x =>
      have hc := h.branch hx
      exact h.putBranch slot (x := { x with causes := branchCausesLess x.causes causes }) hc
  · unfold takeFromDevice
    exact ite_state (fun _ => h) fun _ => h.withDeviceCauses _
  · exact h

/-! ## The day effects (R158) -/

theorem Meter.GrantsLawful.aged {m : Meter} (h : m.GrantsLawful) : m.aged.GrantsLawful := by
  refine ⟨h.1, fun hc => h.2 ?_⟩
  simp only [Meter.aged] at hc
  split at hc
  · cases hc
  · exact hc

/-- A daily limit goes to an active meter of its kind with no grant out (R49). -/
theorem Meter.GrantsLawful.limited {m : Meter} (h : m.GrantsLawful) (hd : limitDue s m = true) (cycle : Byte) (timeout : Nat)
    (d : Decision) : (m.limited cycle timeout d).GrantsLawful := by
  obtain ⟨hk, ha, -⟩ := limitDue_of hd
  cases d with
  | issue amount reason => exact h.withGrant (kind := .limit) hk (by simp [ha]) amount false cycle timeout
  | refused st f =>
    have hr := h.refusedWith st
    exact hr
  | join a => exact h

theorem Meter.GrantsLawful.dayEffect {m : Meter} (h : m.GrantsLawful) (s : State) (cycle : Byte) :
    (m.dayEffect s cycle).GrantsLawful := by
  unfold Meter.dayEffect
  split
  · exact h.aged.limited ‹_› ..
  · exact h.aged

/-- The day effects of a branch leave its figures; an open count may be dropped (R158). -/
theorem Branch.dayEffect_canonical {x : Branch} (h : x.Canonical) (s : State) (slot : Nat) : (x.dayEffect s slot).Canonical := by
  have hday : x.dayCounted.Canonical := by
    unfold Branch.dayCounted
    split
    · exact h
    · exact h
    · split <;> exact h
  have hdrop : x.dayCounted.countDropped.Canonical := by
    unfold Branch.countDropped
    split
    · exact Branch.canonical_unlatched (x := x.dayCounted) hday
    · exact hday
  unfold Branch.dayEffect Branch.transferLate
  split <;> exact hdrop

theorem GrantsHeld.mapBranches (h : GrantsHeld owed s) {f : Nat → Branch → Branch} (hf : ∀ i x, Branch.Canonical x → (f i x).Canonical) :
    GrantsHeld owed { s with record.branches := Table.mapRecords f s.record.branches } := by
  refine h.withBranches (Table.sorted_mapRecords f h.branchesSorted) fun e he => ?_
  obtain ⟨x, hx, hex⟩ := Table.mem_mapRecords he
  rw [hex]
  exact hf _ _ (h.branchesCanonical _ hx)

theorem GrantsHeld.dayAdvance (h : GrantsHeld owed s) : GrantsHeld owed (dayAdvance s) := by
  have hm := h.mapMeters (f := fun slot m => m.dayEffect s (limitCycle s slot m))
    (fun _ m => (m.dayEffect_reissued s _).kind) (fun _ m => (m.dayEffect_reissued s _).refill)
    (fun _ m => (m.dayEffect_reissued s _).free) fun _ _ hl => hl.dayEffect s _
  have hb := hm.mapBranches (f := fun slot x => x.dayEffect s slot) fun i x hc => Branch.dayEffect_canonical hc s i
  unfold Machine.dayAdvance
  exact GrantsHeld.raiseIf (c := dayRaises s = true) (hb.congr hb.canonical rfl rfl rfl)

theorem GrantsHeld.closeDay (h : GrantsHeld 0 s) : GrantsHeld 0 (closeDay s).1 := by
  unfold Machine.closeDay
  exact ite_state (fun _ => h) fun _ => h.dayAdvance

/-! ## The application of settings (R160) -/

theorem GrantsHeld.applyField (h : GrantsHeld owed s) (f : SettingField) : GrantsHeld owed (applyField f s) := by
  have hs : ∀ l, GrantsHeld owed { dropMarks s.inForce { s with inForce := settle s.stored s.inForce f } with fallenBack := l } :=
    fun l => h.congr h.canonical rfl rfl rfl
  unfold Machine.applyField
  dsimp only
  split
  · exact hs _
  · exact (hs _).setDeviceCause _

theorem GrantsHeld.applyFields (h : GrantsHeld owed s) (l : List SettingField) : GrantsHeld owed (applyFields l s) := by
  induction l generalizing s with
  | nil => exact h
  | cons f rest ih => exact ih (h.applyField f)

theorem GrantsHeld.writeStored (h : GrantsHeld owed s) (p : SettingsPatch) : GrantsHeld owed (writeStored p s) := by
  have hs : GrantsHeld owed { s with stored := storePatch p s.stored, choices := s.choices + 1 } :=
    h.congr h.canonical rfl rfl rfl
  exact hs.applyFields _

theorem GrantsHeld.writeSettings (h : GrantsHeld 0 s) (p : SettingsPatch) : GrantsHeld 0 (writeSettings p s).1 := by
  unfold Machine.writeSettings
  exact ite_state (fun _ => h) fun _ => h.writeStored p

/-! ## SET MODE and CLEAR TABLES -/

theorem GrantsHeld.setMode (h : GrantsHeld 0 s) (target : Coded Mode) : GrantsHeld 0 (setMode target s).1 := by
  unfold Machine.setMode
  refine ite_state (fun _ => h) fun _ => ?_
  split
  · exact h
  · exact h
  · refine ite_state (fun _ => h) fun _ => ite_state (fun _ => ?_) fun _ => h.withMode _
    dsimp only [enterService]
    exact ((h.withMode .service).applyFields serviceEntryClass).serveQueue

/-- The canonical form of both rings. -/
theorem GrantsHeld.rings (h : GrantsHeld owed s) : RingsCanonical s := by
  obtain ⟨-, -, -, h1, h2, h3, h4, -⟩ := h.canonical
  exact ⟨h1, h2, h3, h4⟩

/-- Record memory whose tables, pool and queue are empty. -/
theorem GrantsHeld.blank (h : RingsCanonical s) (marker : Bool) (mode : Mode) (causes : DeviceCauses) :
    GrantsHeld 0 { s with record := { retentionMarker := marker, mode := mode, deviceCauses := causes } } where
  canonical :=
    ⟨List.Pairwise.nil, List.Pairwise.nil, List.Pairwise.nil, h.requestsSorted, h.requests, h.resultsSorted, h.results, by simp⟩
  meters := by simp
  queue := ⟨Nat.zero_le _, List.nodup_nil, by simp⟩
  reserved := rfl

theorem GrantsHeld.clearTables (h : GrantsHeld 0 s) : GrantsHeld 0 (clearTables s).1 := by
  unfold Machine.clearTables
  exact ite_state (fun _ => h) fun _ => .blank h.rings ..

/-! ## Timers -/

/-- The load seconds that remain to every grant out changed. -/
theorem GrantsHeld.withRemaining (h : GrantsHeld owed s) (f : Nat → Nat) :
    GrantsHeld owed
      { s with
        record.meters := Table.mapRecords
          (fun _ m => { m with grantOut := m.grantOut.map (fun g => { g with remaining := f g.remaining }) }) s.record.meters } := by
  refine h.mapMeters (fun _ _ => rfl) (fun _ m => (m.withRemaining_reissued f).refill)
    (fun _ m => (m.withRemaining_reissued f).free) fun _ m hl => ?_
  obtain ⟨⟨hgk, hv⟩, hc⟩ := hl
  refine ⟨⟨fun g hg => ?_, hv⟩, fun hcl => by simp [hc hcl]⟩
  obtain ⟨g', hg', rfl⟩ := Option.mem_map.1 hg
  exact hgk g' hg'

theorem GrantsHeld.renewTimers (h : GrantsHeld owed s) : GrantsHeld owed (renewTimers s) :=
  h.withRemaining fun _ => s.inForce.loadTimeout

theorem GrantsHeld.secondLater (h : GrantsHeld owed s) (n : Nat) :
    GrantsHeld owed
      { s with seconds := n, record.meters := Table.mapRecords (fun _ m => m.secondLater) s.record.meters } := by
  have hm := h.withRemaining (· - 1)
  exact hm.congr hm.canonical rfl rfl rfl

/-! ## Start-up (R161, R162) -/

theorem GrantsHeld.checkRetention (h : GrantsHeld 0 s) (lost : Bool) : GrantsHeld 0 (checkRetention lost s) := by
  unfold Machine.checkRetention
  split
  · unfold lostRecord
    split
    · exact .blank h.rings ..
    · exact .blank h.rings ..
  · exact h.withMode _

theorem GrantsHeld.startSettings (h : GrantsHeld 0 (forgetRings s)) (lost : Bool) : GrantsHeld 0 (startSettings lost s) := by
  unfold Machine.startSettings
  exact (((h.applyFields _).checkRetention lost).applyFields _).raiseIf

/-- Empty rings are in canonical form. -/
theorem GrantsHeld.forgetRings (h : GrantsHeld owed s) : GrantsHeld owed (forgetRings s) := by
  obtain ⟨c1, c2, c3, -, -, -, -, c8⟩ := h.canonical
  exact h.congr ⟨c1, c2, c3, List.Pairwise.nil, by simp [Machine.forgetRings], List.Pairwise.nil, by simp [Machine.forgetRings], c8⟩
    rfl rfl rfl

/-- The record of the last start-up is in no law. -/
theorem GrantsHeld.withStart (h : GrantsHeld owed s) (kind : StartKind) (o : Option Retention) :
    GrantsHeld owed { s with lastStart := kind, retention := o } :=
  h.congr h.canonical rfl rfl rfl

theorem GrantsHeld.startUp (h : GrantsHeld 0 s) (kind : StartKind) : GrantsHeld 0 (startUp kind s) :=
  (h.forgetRings.startSettings (findsLost kind s)).renewTimers.serveQueue.withStart kind (retentionOutcome kind (findsLost kind s))

end Sys2Proof.Machine
end

section
/-! SUPPORT. The laws of the grants (O56) under every block, the rings, and every command. -/

namespace Sys2Proof.Machine

variable {s t : State} {owed : Int}

/-! ## The blocks -/

theorem GrantsHeld.readAttention (h : GrantsHeld 0 s) (start : Nat) : GrantsHeld 0 (readAttention start s).1 := by
  unfold Machine.readAttention
  exact ite_state (fun _ => h) fun _ => ite_state (fun _ => h) fun _ => h

theorem GrantsHeld.readPosition (h : GrantsHeld 0 s) : GrantsHeld 0 (readPosition s).1 := by
  unfold Machine.readPosition
  exact ite_state (fun _ => h) fun _ => h

theorem GrantsHeld.readDenominations (h : GrantsHeld 0 s) : GrantsHeld 0 (readDenominations s).1 := by
  unfold Machine.readDenominations
  exact ite_state (fun _ => h) fun _ => h

theorem GrantsHeld.readTransfers (h : GrantsHeld 0 s) (start : Nat) : GrantsHeld 0 (readTransfers start s).1 := by
  unfold Machine.readTransfers
  exact ite_state (fun _ => h) fun _ => ite_state (fun _ => h) fun _ => h

theorem GrantsHeld.readCount (h : GrantsHeld 0 s) (slot : Nat) : GrantsHeld 0 (readCount slot s).1 := by
  unfold Machine.readCount
  refine ite_state (fun _ => h) fun _ => ite_state (fun _ => h) fun _ => ?_
  cases s.branch? slot with
  | none => exact h
  | some x =>
    dsimp only
    cases x.latch with
    | none => exact h
    | some l => exact h

/-- The block that owns a request keeps the laws of the grants. -/
theorem GrantsHeld.block (h : GrantsHeld 0 s) : ∀ c, GrantsHeld 0 (blockOf c s).1
  | .readStatus _ => h
  | .readAttention _ start => h.readAttention start
  | .takeAttention _ subject slot causes => h.takeAttention subject slot causes
  | .setMode _ target => h.setMode target
  | .closeDay _ => h.closeDay
  | .writeSettings _ patch => h.writeSettings patch
  | .readSettings _ => h
  | .clearTables _ => h.clearTables
  | .enrolMeter _ fields => h.enrolMeter fields
  | .setMeter _ slot changes => h.setMeter slot changes
  | .reassignMeter _ slot branch => h.reassignMeter slot branch
  | .closeMeter _ slot => h.closeMeter slot
  | .retireMeter _ slot => h.retireMeter slot
  | .readMeter _ slot take => h.readMeter slot take
  | .meterReport _ slot sequence ascending descending => h.meterReport slot sequence ascending descending
  | .resolveMeter _ slot ascending descending => h.resolveMeter slot ascending descending
  | .refillRequest _ slot amount => h.grantRequest .refill slot amount
  | .limitRequest _ slot amount => h.grantRequest .limit slot amount
  | .loadConfirm _ slot number total => h.loadConfirm slot number total
  | .cancelGrant _ slot number => h.cancelGrant slot number
  | .cancelQueued _ slot => h.cancelQueued slot
  | .readQueue _ start => h.readQueue start
  | .deposit _ amount => h.deposit amount
  | .refund _ amount => h.refund amount
  | .readPosition _ => h.readPosition
  | .openBranch _ code => h.openBranch code
  | .setBranch _ slot changes => h.setBranch slot changes
  | .closeBranch _ slot => h.closeBranch slot
  | .cycleStart _ slot actionKnown => h.cycleControl startAction_cycle actionKnown slot
  | .cycleStop _ slot => h.cycleControl stopAction_cycle true slot
  | .cyclePause _ slot => h.cycleControl pauseAction_cycle true slot
  | .cycleResume _ slot => h.cycleControl resumeAction_cycle true slot
  | .readBranch _ slot take => h.readBranch slot take
  | .defineDenomination _ face => h.defineDenomination face
  | .withdrawDenomination _ slot => h.withdrawDenomination slot
  | .retireDenomination _ slot => h.retireDenomination slot
  | .readDenominations _ => h.readDenominations
  | .purchaseStock _ branch denomination count => h.purchaseStock branch denomination count
  | .issueStock _ branch denomination count => h.issueStock branch denomination count
  | .writeOffStock _ branch denomination count => h.writeOffStock branch denomination count
  | .surrenderStock _ branch denomination count => h.surrenderStock branch denomination count
  | .dispatch _ origin destination denomination count => h.dispatch origin destination denomination count
  | .receive _ number count => h.receive number count
  | .cancelTransfer _ number => h.cancelTransfer number
  | .readTransfers _ start => h.readTransfers start
  | .beginCount _ branch => h.beginCount branch
  | .enterCount _ branch denomination figure => h.enterCount branch denomination figure
  | .closeCount _ branch => h.closeCount branch
  | .abandonCount _ branch => h.abandonCount branch
  | .readCount _ branch => h.readCount branch
  | .restart _ | .requestProducerIndexWrite _ | .resultConsumerIndexWrite _ | .interruptEnableWordWrite _
  | .ignoredWindowWrite _ _ _ | .powerOn | .pcieReset | .loadSecondsTick | .loadTimerExpiry _ | .msiPermissionChange _
  | .msiWrite | .powerLoss | .backupCellFailure | .badRequest _ _ _ _ => h

theorem GrantsHeld.sentBlock (h : GrantsHeld 0 s) (c : Instr) : GrantsHeld 0 (sentBlock c s).1 := by
  unfold Machine.sentBlock
  split
  · exact h
  · exact h.block c

/-! ## The rings -/

/-- A change outside record memory that leaves the rings in canonical form. -/
theorem GrantsHeld.outside (h : GrantsHeld owed s) (hr : t.record = s.record) (hc : RingsCanonical t) : GrantsHeld owed t := by
  obtain ⟨c1, c2, c3, -, -, -, -, c8⟩ := h.canonical
  rw [← hr] at c1 c2 c3 c8
  exact h.congr ⟨c1, c2, c3, hc.requestsSorted, hc.requests, hc.resultsSorted, hc.results, c8⟩ (by rw [hr]) (by rw [hr]) (by rw [hr])

/-- A change outside record memory and the rings. -/
theorem GrantsHeld.outsideRings (h : GrantsHeld owed s) (hr : t.record = s.record) (hq : t.requestRing = s.requestRing)
    (hs : t.resultRing = s.resultRing) : GrantsHeld owed t := by
  obtain ⟨c1, c2, c3, c4⟩ := h.rings
  refine h.outside hr ⟨?_, ?_, ?_, ?_⟩ <;> simpa only [hq, hs]

theorem GrantsHeld.send (h : GrantsHeld owed s) (c : Instr) : GrantsHeld owed (send c s) :=
  h.outside rfl (h.rings.putRequest ..)

theorem GrantsHeld.postResult (h : GrantsHeld owed s) (kind tag : Half) (r : Reply) : GrantsHeld owed (postResult kind tag r s) := by
  obtain ⟨c1, c2, c3, c4⟩ := h.rings
  exact h.outside rfl ⟨c1, c2, sorted_writeParts _ _ _ c3, mem_writeParts c4⟩

theorem GrantsHeld.post (h : GrantsHeld owed s) (kind tag : Half) (r : Reply) : GrantsHeld owed (post kind tag r s) := by
  have hc : GrantsHeld owed { s with requestConsumer := s.requestConsumer + 1 } := h.outsideRings rfl rfl rfl
  exact hc.postResult kind tag r

theorem GrantsHeld.request (h : GrantsHeld 0 s) {c : Instr} {block : State → State × Reply} (hb : GrantsHeld 0 (block s).1) :
    GrantsHeld 0 (request c block s) :=
  request_keeps h (fun _ => hb) (fun kind tag r _ ht => ht.post kind tag r) fun _ ht => ht.send c

/-! ## RESTART and the board's own taking -/

theorem GrantsHeld.restarted (h : GrantsHeld 0 s) (tag : Half) : GrantsHeld 0 (restarted tag s) :=
  (h.startUp .restart).postResult 0x14 tag _

theorem GrantsHeld.sendRestart (h : GrantsHeld owed s) (tag : Half) : GrantsHeld owed (sendRestart tag s) := by
  unfold Machine.sendRestart
  split
  · exact h.outside rfl (h.rings.putRequest ..)
  · exact h.send _

theorem GrantsHeld.takeRestart (h : GrantsHeld 0 s) : GrantsHeld 0 (takeRestart s) := by
  rcases takeRestart_cases s with he | ⟨tag, -, -, he⟩
  · rw [he]; exact h
  · rw [he]; exact h.restarted tag

theorem GrantsHeld.takeFirst (h : GrantsHeld 0 s) : GrantsHeld 0 (takeFirst s) := by
  rcases takeFirst_cases s with he | ⟨-, -, ⟨tag, -, -, he⟩ | ⟨c, kind, tag, -, -, -, -, he⟩⟩
  · rw [he]; exact h
  · rw [he]; exact h.restarted tag
  · rw [he]; exact (h.block c).post kind tag _

/-! ## Every command -/

theorem GrantsHeld.ifPowered {c : Prop} [Decidable c] (h : GrantsHeld owed s) (ht : GrantsHeld owed t) :
    GrantsHeld owed (if c then t else s) := by
  split
  · exact ht
  · exact h

/-- A change of the power, the permission to send messages, or the model's own counts. -/
theorem GrantsHeld.withInputs (h : GrantsHeld owed s) (powered permitted : Bool) (sent : Nat) (queue : List Instr) :
    GrantsHeld owed { s with powered := powered, msiPermitted := permitted, msiSent := sent, pending := queue } :=
  h.outsideRings rfl rfl rfl

/-- A write of both indices, with the fault that it sets or leaves. -/
theorem GrantsHeld.writeIndex {c : Prop} [Decidable c] (h : GrantsHeld owed s) (producer consumer : Byte) :
    GrantsHeld owed
      (if c then { s with requestProducer := producer, resultConsumer := consumer, ringFault := true }
        else { s with requestProducer := producer, resultConsumer := consumer }) := by
  split <;> exact h.outsideRings rfl rfl rfl

/-- Every command keeps the laws of the grants. -/
theorem GrantsHeld.exec (h : GrantsHeld 0 s) {c : Instr} (hx : exec c s = .next t) : GrantsHeld 0 t := by
  by_cases hq : (header c).isSome ∧ isRestart c = false
  · rcases exec_request_or_same hq.1 hq.2 s with he | he <;> obtain rfl := Host.Outcome.next.inj (he.symm.trans hx)
    · exact h.request (h.sentBlock c)
    · exact h
  cases c
  case restart tag =>
    obtain rfl := Host.Outcome.next.inj hx
    refine h.ifPowered ?_
    dsimp only
    split
    · exact (h.sendRestart tag).takeRestart
    · exact h.sendRestart tag
  case requestProducerIndexWrite value =>
    obtain rfl := Host.Outcome.next.inj hx
    exact h.ifPowered (h.writeIndex _ s.resultConsumer)
  case resultConsumerIndexWrite value =>
    obtain rfl := Host.Outcome.next.inj hx
    exact h.ifPowered (h.writeIndex s.requestProducer _)
  case interruptEnableWordWrite value =>
    obtain rfl := Host.Outcome.next.inj hx
    exact h.ifPowered (h.writeStored _)
  case ignoredWindowWrite offset width value =>
    obtain rfl := Host.Outcome.next.inj hx
    have hr := canonical_storeBytes ⟨h.rings.requestsSorted, h.rings.requests⟩ offset (leBytes width value)
    exact h.ifPowered (h.outside rfl ⟨hr.1, hr.2, h.rings.resultsSorted, h.rings.results⟩)
  case powerOn =>
    obtain rfl := Host.Outcome.next.inj hx
    exact (h.withInputs true false s.msiSent s.pending).startUp .powerOn
  case pcieReset =>
    obtain rfl := Host.Outcome.next.inj hx
    exact h.ifPowered ((h.withInputs s.powered false s.msiSent s.pending).startUp .pcieReset)
  case loadSecondsTick =>
    obtain rfl := Host.Outcome.next.inj hx
    exact h.ifPowered (h.secondLater _)
  case loadTimerExpiry slot =>
    obtain rfl := Host.Outcome.next.inj hx
    exact h.ifPowered (h.expire slot)
  case msiPermissionChange allowed =>
    obtain rfl := Host.Outcome.next.inj hx
    exact h.ifPowered (h.withInputs s.powered allowed s.msiSent s.pending)
  case msiWrite =>
    obtain rfl := Host.Outcome.next.inj hx
    exact h.ifPowered (h.outsideRings rfl rfl rfl)
  case powerLoss =>
    obtain rfl := Host.Outcome.next.inj hx
    exact h.withInputs false s.msiPermitted s.msiSent s.pending
  case backupCellFailure =>
    obtain rfl := Host.Outcome.next.inj hx
    split
    · exact h
    · exact GrantsHeld.blank h.rings false .setup {}
  all_goals exact absurd ⟨rfl, rfl⟩ hq

/-- Settles O56: every block keeps the laws of the grants (`GrantsHeld.block`), and the commands around the blocks leave record memory. -/
theorem grantsKept : Obligations.GrantsKept := by
  intro s t h hx
  refine GrantsHeld.sound ?_
  cases hp : s.pending with
  | nil =>
    obtain rfl := Host.Outcome.next.inj ((step_nil hp).symm.trans hx)
    exact h.held.takeFirst
  | cons c rest => exact (h.held.withInputs s.powered s.msiPermitted s.msiSent rest).exec ((step_cons hp).symm.trans hx)

end Sys2Proof.Machine
end

section
/-! SUPPORT. The amount computation as the largest amount allowed (O29), and the seconds tick (O8). -/

namespace Sys2Proof.Machine

variable {s : State} {step r : Nat} {allowance : Option Nat} {m : Meter}

/-! ## The seconds -/

/-- Settles O8: the tick changes the seconds count and the grant out of each record, and `find` reads the changed records back. -/
theorem secondsCount : Obligations.SecondsCount := by
  intro s hp
  refine ⟨{ s with seconds := s.seconds + 1, record.meters := Table.mapRecords (fun _ m => m.secondLater) s.record.meters },
    congrArg _ (if_pos hp), rfl, fun slot => ?_⟩
  simp only [State.meter?, Table.find_mapRecords]
  rfl

/-! ## The largest amount allowed -/

theorem amountOk_iff {n : Nat} : amountOk n = true ↔ 1 ≤ n ∧ n ≤ 99999999 := within_iff

theorem roundDown_eq_zero_iff (hs : 0 < step) {n : Nat} : roundDown step n = 0 ↔ n < step := by
  simp only [roundDown, Nat.mul_eq_zero, Nat.div_eq_zero_iff]
  omega

/-- The multiples of the refill step at most an amount are those at most the amount rounded down. -/
theorem le_roundDown_iff {n x : Nat} (hn : step ∣ n) : n ≤ roundDown step x ↔ n ≤ x := by
  refine ⟨fun h => Nat.le_trans h (Nat.div_mul_le_self x step), fun h => ?_⟩
  obtain ⟨k, rfl⟩ := hn
  rcases Nat.eq_zero_or_pos step with rfl | hs
  · simp
  · rw [roundDown, Nat.mul_comm step k]
    exact Nat.mul_le_mul_right _ ((Nat.le_div_iff_mul_le hs).2 (by rwa [Nat.mul_comm]))

theorem le_afterAllowance_iff {n x : Nat} : n ≤ afterAllowance allowance x ↔ n ≤ x ∧ ∀ q ∈ allowance, n ≤ q := by
  cases allowance <;> simp [afterAllowance]

/-- The allowance reduces an amount where what remains of it is less. -/
theorem afterAllowance_lt_iff {x : Nat} : afterAllowance allowance x < x ↔ ∃ q ∈ allowance, q < x := by
  cases allowance <;> simp [afterAllowance]

/-- A refusal of the amount computation, with its reason (R55 to R58). -/
theorem computeGrant_refused {st : Status} {figures : Outcome} (hs : 0 < step)
    (h : computeGrant step allowance m r = .refused st figures) :
    (st = .badValue ∧ ¬(1 ≤ r ∧ r ≤ 99999999))
      ∨ (1 ≤ r ∧ r ≤ 99999999 ∧ st = .atCeiling ∧ figures = .headroom ((m.ceiling : Int) - m.credit) step
          ∧ ((m.ceiling : Int) - m.credit < step ∨ (r < step ∧ ∀ q ∈ allowance, min r (m.ceiling - m.credit) ≤ q)))
      ∨ (1 ≤ r ∧ r ≤ 99999999 ∧ st = .allowanceSpent ∧ (step : Int) ≤ (m.ceiling : Int) - m.credit
          ∧ ∃ q ∈ allowance, figures = .allowanceLeft q ∧ q < step ∧ q < min r (m.ceiling - m.credit)) := by
  have hhead : m.headroom = (m.ceiling : Int) - m.credit := rfl
  unfold computeGrant at h
  rw [headroom_toNat] at h
  split at h
  · rename_i hr
    obtain ⟨rfl, -⟩ := Computation.refused.inj h
    exact .inl ⟨rfl, fun hok => by simp [amountOk_iff.2 hok] at hr⟩
  rename_i hr
  obtain ⟨hr1, hr2⟩ : 1 ≤ r ∧ r ≤ 99999999 := amountOk_iff.1 (by simpa using hr)
  split at h
  · rename_i hlow
    obtain ⟨rfl, rfl⟩ := Computation.refused.inj h
    exact .inr (.inl ⟨hr1, hr2, rfl, rfl, .inl hlow⟩)
  rename_i hroom
  rw [hhead] at hroom
  dsimp only at h
  split at h
  · rename_i hzero
    rw [roundDown_eq_zero_iff hs] at hzero
    split at h
    · rename_i hless
      obtain ⟨q, hq, hlt⟩ := afterAllowance_lt_iff.1 hless
      obtain rfl := Option.mem_def.1 hq
      obtain ⟨rfl, rfl⟩ := Computation.refused.inj h
      have hqs : q < step := by simpa [afterAllowance, Nat.min_eq_right (Nat.le_of_lt hlt)] using hzero
      exact .inr (.inr ⟨hr1, hr2, rfl, by omega, q, rfl, rfl, hqs, hlt⟩)
    · rename_i hnot
      obtain ⟨rfl, rfl⟩ := Computation.refused.inj h
      obtain ⟨-, hall⟩ := le_afterAllowance_iff.1 (Nat.le_of_not_lt hnot)
      exact .inr (.inl ⟨hr1, hr2, rfl, rfl, .inr ⟨by omega, hall⟩⟩)
  · cases h

/-- The grant of the amount computation is the largest amount allowed, and its reason the last step that reduced it (R55 to R59). -/
theorem computeGrant_largest {g : Nat} {reason : Reason} (h : computeGrant step allowance m r = .grant g reason) :
    (∀ n, step ∣ n → n ≤ r → m.credit + n ≤ m.ceiling → (∀ q ∈ allowance, n ≤ q) → n ≤ g)
      ∧ (reason = .allowance ↔ ∃ q ∈ allowance, q < min r (m.ceiling - m.credit))
      ∧ (reason = .ceiling ↔ (∀ q ∈ allowance, min r (m.ceiling - m.credit) ≤ q) ∧ m.ceiling - m.credit < r)
      ∧ reason ≠ .pool := by
  unfold computeGrant at h
  rw [headroom_toNat] at h
  split at h
  · cases h
  split at h
  · cases h
  dsimp only at h
  split at h
  · split at h <;> cases h
  obtain ⟨rfl, rfl⟩ := Computation.grant.inj h
  refine ⟨fun n hn hr hc hq => ?_, ?_⟩
  · rw [le_roundDown_iff hn, le_afterAllowance_iff]
    exact ⟨by omega, hq⟩
  have hcap : m.ceiling - m.credit < r ↔ min r (m.ceiling - m.credit) < r := by omega
  have hall : (∀ q ∈ allowance, min r (m.ceiling - m.credit) ≤ q)
      ↔ ¬afterAllowance allowance (min r (m.ceiling - m.credit)) < min r (m.ceiling - m.credit) := by
    rw [Nat.not_lt, le_afterAllowance_iff, and_iff_right (Nat.le_refl _)]
  rw [hcap, hall, ← afterAllowance_lt_iff]
  split
  · rename_i hless
    simp [hless]
  · rename_i hnot
    split <;> simp_all

theorem allowanceOf_eq_some_iff {branch q : Nat} :
    allowanceOf s branch = some q ↔
      ∃ b, s.branch? branch = some b ∧ (b.run = .running ∨ b.run = .paused) ∧ 0 < b.allowance
        ∧ (q : Int) = max 0 ((b.allowance : Int) - (b.spent : Int)) := by
  unfold allowanceOf
  cases s.branch? branch with
  | none => simp
  | some b =>
    have hrun : b.run ≠ .stopped ↔ b.run = .running ∨ b.run = .paused := by cases b.run <;> simp
    have hleft : b.allowance - b.spent = q ↔ (q : Int) = max 0 ((b.allowance : Int) - (b.spent : Int)) := by omega
    simp only [Option.some.injEq, exists_eq_left', Branch.allowanceInForce, Branch.remaining, Bool.and_eq_true, decide_eq_true_eq,
      hrun, ← hleft]
    split <;> simp_all

/-- Settles O29: the refusals and the grant of `computeGrant`, then the allowance and the conditioning that it is given. -/
theorem grantAmountIsLargest : Obligations.GrantAmountIsLargest := by
  refine ⟨fun step allowance m r hs => ⟨fun st figures h => computeGrant_refused hs h, fun g reason h => ?_⟩,
    fun s m => ⟨fun branch q => allowanceOf_eq_some_iff, effective_eq s m⟩⟩
  obtain ⟨hpos, hstep, hle, hhead, hall, hok, -⟩ := computeGrant_grant h
  obtain ⟨h1, h2⟩ : 1 ≤ r ∧ r ≤ 99999999 := amountOk_iff.1 hok
  have hcap : m.credit + g ≤ m.ceiling := by
    unfold Meter.headroom at hhead
    omega
  exact ⟨h1, h2, hpos, hstep, hle, hcap, hall, computeGrant_largest h⟩

end Sys2Proof.Machine
end

section
/-!
SUPPORT. REFILL REQUEST and LIMIT REQUEST (O30 to O33): the checks of R52 as a chain, the decision of 3.2 and 3.3, and what carrying it out
leaves.
-/

namespace Sys2Proof.Machine

variable {s : State} {slot asked amount : Nat} {kind : GrantKind} {m : Meter}

/-! ## The request once its slot, its meter and the mode have passed -/

/-- The request of a kind of grant is answered by `grantRequest`. -/
theorem grantRequest_answers {tag code : Half} {c : Instr} {out : State × Reply}
    (hc : kind = .refill ∧ c = .refillRequest tag slot asked ∧ code = 0x40
      ∨ kind = .limit ∧ c = .limitRequest tag slot asked ∧ code = 0x41)
    (hb : grantRequest kind slot asked s = out) : Answers c code tag s out := by
  rcases hc with ⟨rfl, rfl, rfl⟩ | ⟨rfl, rfl, rfl⟩
  · exact answers_of_block rfl rfl hb
  · exact answers_of_block rfl rfl hb

theorem grantRequest_slot (hslot : 511 < slot) : grantRequest kind slot asked s = (s, refuse .badValue) := by
  unfold grantRequest
  rw [if_pos (not_meterSlotOk.2 hslot)]

theorem grantRequest_unknown (hslot : slot < 512) (hm : s.meter? slot = none) :
    grantRequest kind slot asked s = (s, refuse .unknownMeter) := by
  unfold grantRequest
  rw [if_neg (by rw [not_meterSlotOk]; omega), hm]

theorem grantRequest_mode (hslot : slot < 512) (hm : s.meter? slot = some m) (hmode : s.record.mode ≠ .service) :
    grantRequest kind slot asked s = (s, refuse .wrongMode) := by
  unfold grantRequest
  rw [if_neg (by rw [not_meterSlotOk]; omega), hm]
  exact if_pos (not_serves.2 hmode)

theorem grantRequest_checked (hslot : slot < 512) (hm : s.meter? slot = some m) (hmode : s.record.mode = .service) :
    grantRequest kind slot asked s = answerRequest slot m kind asked s := by
  unfold grantRequest
  rw [if_neg (by rw [not_meterSlotOk]; omega), hm]
  exact if_neg (mt not_serves.1 (not_not.2 hmode))

theorem answerRequest_trial (h : effective s m = .trial) :
    answerRequest slot m kind asked s =
      (s, { status := .trial, outcome := trialOutcome s m (hostDecision s slot m kind false asked asked) }) := by
  unfold answerRequest
  rw [h]

theorem answerRequest_acts (h : effective s m ≠ .trial) (hamount : amount = if effective s m = .fixed then m.standing else asked) :
    answerRequest slot m kind asked s =
      actOnRequest slot m kind (hostDecision s slot m kind (decide (effective s m = .hold)) asked amount) s := by
  rw [hamount, ← substituted_eq]
  unfold answerRequest
  cases hc : effective s m with
  | trial => exact absurd hc h
  | none => rfl
  | fixed => rfl
  | hold => rfl

/-! ## The checks 4 to 8 of R52 -/

/-- A request is refused by the first of R52's checks that fails, else it comes to the decision of 3.2 and 3.3. -/
theorem hostDecision_eq (held : Bool) (carried : Nat) :
    hostDecision s slot m kind held carried amount =
      (requestRefusal s slot m kind held).elim (decideHost s m kind carried amount) (fun st => .refused st .none) := by
  unfold hostDecision
  cases requestRefusal s slot m kind held <;> rfl

theorem requestRefusal_eq (held : Bool) :
    requestRefusal s slot m kind held =
      if m.state = .overdue then some .overdue
      else if m.state = .dispute then some .disputed
      else if m.state = .closing then some .wrongState
      else if held then some .held
      else if m.grantOut.isSome then some .grantOut
      else if s.queued slot then some .alreadyQueued
      else if m.kind ≠ kindFor kind then some .wrongState
      else none := by
  unfold requestRefusal
  cases m.state <;> rfl

theorem requestRefusal_eq_none (hstate : m.state = .active) (hg : m.grantOut = none) (hq : ∀ e ∈ s.record.queue, e.slot ≠ slot)
    (hk : m.kind = kindFor kind) : requestRefusal s slot m kind false = none := by
  rw [requestRefusal_eq, if_neg (by simp [hstate]), if_neg (by simp [hstate]), if_neg (by simp [hstate]), if_neg Bool.false_ne_true,
    if_neg (by simp [hg]), if_neg (by simp [not_queued_iff.2 hq]), if_neg (not_not.2 hk)]

/-- A request that passes every check of R52 is decided by 3.2 and 3.3. -/
theorem grantRequest_decided (hslot : slot < 512) (hm : s.meter? slot = some m) (hmode : s.record.mode = .service)
    (hstate : m.state = .active) (hcond : effective s m = .none ∧ amount = asked ∨ effective s m = .fixed ∧ amount = m.standing)
    (hg : m.grantOut = none) (hq : ∀ e ∈ s.record.queue, e.slot ≠ slot) (hk : m.kind = kindFor kind) :
    grantRequest kind slot asked s = actOnRequest slot m kind (decideHost s m kind asked amount) s := by
  have hfree : effective s m ≠ .trial ∧ decide (effective s m = .hold) = false
      ∧ amount = if effective s m = .fixed then m.standing else asked := by
    rcases hcond with ⟨he, rfl⟩ | ⟨he, rfl⟩ <;> simp [he]
  obtain ⟨htrial, hhold, hamount⟩ := hfree
  rw [grantRequest_checked hslot hm hmode, answerRequest_acts htrial hamount, hostDecision_eq, hhold,
    requestRefusal_eq_none hstate hg hq hk]
  rfl

/-! ## The decision on a refill and on a limit (R55 to R61) -/

/-- The placement of a host refill that reached an amount (R61, R82). -/
theorem decideRefill_host {g carried part held : Nat} {reason : Reason}
    (h : computeGrant s.inForce.refillStep (allowanceOf s m.branch) m amount = .grant g reason)
    (hpart : part = s.record.pool.balance / s.inForce.refillStep * s.inForce.refillStep)
    (hheld : held = if 1 ≤ carried ∧ carried ≤ 99999999 then carried else amount) :
    decideRefill s m .host carried amount =
      if s.record.queue = [] ∧ g ≤ s.record.pool.balance then .issue g reason
      else if s.record.queue = [] ∧ s.inForce.shortage = .partly ∧ s.inForce.refillStep ≤ part then .issue part .pool
      else if s.record.queue.length < 32 then .join held
      else .refused .queueFull .none := by
  have hamount : heldAmount carried amount = held := by
    rw [hheld, heldAmount]
    exact ite_congr (propext amountOk_iff) (fun _ => rfl) fun _ => rfl
  have hjoin : joinOrFull s .host held = if s.record.queue.length < 32 then .join held else .refused .queueFull .none :=
    ite_congr (propext decide_eq_true_iff) (fun _ => rfl) fun _ => rfl
  have hpartial : partialServes s = true ↔ s.inForce.shortage = .partly ∧ s.inForce.refillStep ≤ part := by
    rw [partialServes, Bool.and_eq_true, decide_eq_true_iff, decide_eq_true_iff, hpart]
    rfl
  rw [decideRefill, h]
  dsimp only
  rw [placeRefill, hamount, hjoin]
  by_cases hq : s.record.queue = []
  · simp only [hq, List.isEmpty_nil, if_true, true_and]
    refine ite_congr (propext decide_eq_true_iff) (fun _ => rfl) fun _ => ite_congr (propext hpartial) (fun _ => ?_) fun _ => rfl
    rw [hpart]
    rfl
  · simp only [List.isEmpty_iff, hq, false_and, if_false]

theorem decideLimit_refused {st : Status} {f : Outcome} (h : computeGrant s.inForce.refillStep none m amount = .refused st f) :
    decideLimit s m amount = .refused st f := by
  rw [decideLimit, h]

theorem decideLimit_grant {g : Nat} {reason : Reason} (h : computeGrant s.inForce.refillStep none m amount = .grant g reason) :
    decideLimit s m amount =
      if 0 < s.record.pool.arrears then .refused .poolShort (.arrears s.record.pool.arrears) else .issue g reason := by
  rw [decideLimit, h]

/-! ## Carrying the decision out (R22, R62) -/

theorem Meter.refusedWith_eq (m : Meter) (st : Status) :
    m.refusedWith st = { m with refused := if st = .badValue then m.refused else min (m.refused + 1) 65535 } := by
  unfold Meter.refusedWith
  split <;> rfl

theorem actOnRequest_refused {st : Status} {f : Outcome} :
    actOnRequest slot m kind (.refused st f) s =
      ({ s with
          record.meters := Table.put s.record.meters slot
            { m with refused := if st = .badValue then m.refused else min (m.refused + 1) 65535 } },
       refuseWith st f) := by
  rw [actOnRequest, Meter.refusedWith_eq]
  rfl

/-- A refill issued where no allowance is in force (R62). -/
theorem issueGrant_uncounted (slot amount : Nat) (ha : allowanceOf s m.branch = none) :
    issueGrant slot m .refill amount s =
      { s with
        record.meters := Table.put s.record.meters slot
          (m.withGrant .refill amount false (cycleOf s m.branch) s.inForce.loadTimeout)
        record.pool.balance := s.record.pool.balance - amount
        record.pool.reserved := s.record.pool.reserved + amount } := by
  have hspent : countSpent m.branch amount (reserveFunds amount s) = reserveFunds amount s := countSpent_none amount ha
  unfold issueGrant
  dsimp only
  rw [hspent, ha]
  rfl

/-- A refill issued where the allowance of the branch is in force, and counted (R62, R121, R122). -/
theorem issueGrant_counted (slot : Nat) {spent : Nat} {b : Branch} {used : Bool} (hb : s.branch? m.branch = some b)
    (hrun : b.run ≠ .stopped) (ha : 0 < b.allowance) (hspent : spent = min (b.spent + amount) (2 ^ 47 - 1))
    (hused : used = decide (b.allowance < spent + s.inForce.refillStep)) :
    issueGrant slot m .refill amount s =
      { s with
        record.meters := Table.put s.record.meters slot (m.withGrant .refill amount true b.cycle s.inForce.loadTimeout)
        record.branches := Table.put s.record.branches m.branch
          { b with spent := spent, causes := { b.causes with allowanceSpent := b.causes.allowanceSpent || used } }
        record.pool.balance := s.record.pool.balance - amount
        record.pool.reserved := s.record.pool.reserved + amount
        attentionMark := s.attentionMark || (used && s.inForce.attentionEnable) } := by
  have hcount := countSpent_eq (s := reserveFunds amount s) amount hb hrun ha hspent hused
  have hcycle : cycleOf s m.branch = b.cycle := by rw [cycleOf, hb]
  unfold issueGrant
  dsimp only
  rw [hcount, hcycle, allowanceOf_some hb hrun ha]
  rfl

/-! ## The answers -/

/-- Settles O30: the checks pass and the queue is empty, so the refill is issued, at the amount the pool covers or at what PARTIAL leaves. -/
theorem refillRequestIssued : Obligations.RefillRequestIssued := by
  intro tag slot asked amount g grant reason given m s hslot hm hmode hstate hcond hg hq hk hcompute hgrant m' hm'
  have hdecide : decideRefill s m .host asked amount = .issue grant given := by
    rw [decideRefill_host hcompute rfl rfl]
    rcases hgrant with ⟨hcov, rfl, rfl⟩ | ⟨hshort, hpart, hstep, rfl, rfl⟩
    · rw [if_pos ⟨hq, hcov⟩]
    · rw [if_neg (fun h => Nat.not_le.2 hshort h.2), if_pos ⟨hq, hpart, hstep⟩]
  have hanswer : grantRequest .refill slot asked s =
      (issueGrant slot m .refill grant s, grantReply s slot m .refill grant given) := by
    rw [grantRequest_decided (kind := .refill) hslot hm hmode hstate hcond hg (by simp [hq]) hk, decideHost, hdecide]
    rfl
  refine ⟨fun ha => ?_, fun b hb hrun ha spent used hspent hused => ?_⟩
  · refine answers_of_block rfl rfl (hanswer.trans ?_)
    rw [issueGrant_uncounted slot grant ha, hm']
    rfl
  · refine answers_of_block rfl rfl (hanswer.trans ?_)
    rw [issueGrant_counted slot hb hrun ha hspent hused, hm']
    rfl

/-- Settles O31: the checks pass and the refill is not issued, so it joins where the queue has room and is refused where it is full. -/
theorem refillRequestJoinsQueue : Obligations.RefillRequestJoinsQueue := by
  intro tag slot asked amount g reason m s hslot hm hmode hstate hcond hg hq hk hcompute hshort
  have hdecide : ∀ held, held = (if 1 ≤ asked ∧ asked ≤ 99999999 then asked else amount) →
      decideRefill s m .host asked amount = if s.record.queue.length < 32 then .join held else .refused .queueFull .none := by
    intro held hheld
    rw [decideRefill_host hcompute rfl hheld, if_neg, if_neg]
    · rintro ⟨hempty, hpart, hstep⟩
      rcases hshort with hne | ⟨-, hwait | hlow⟩
      · exact hne hempty
      · simp [hwait] at hpart
      · omega
    · rintro ⟨hempty, hcov⟩
      rcases hshort with hne | ⟨hlow, -⟩
      · exact hne hempty
      · omega
  have hanswer : grantRequest .refill slot asked s = actOnRequest slot m .refill (decideRefill s m .host asked amount) s :=
    grantRequest_decided hslot hm hmode hstate hcond hg hq hk
  refine ⟨fun hroom held hheld => ?_, fun hfull => ?_⟩
  · refine answers_of_block rfl rfl (hanswer.trans ?_)
    rw [hdecide held hheld, if_pos hroom, actOnRequest, joinQueue_eq]
  · refine answers_of_block rfl rfl (hanswer.trans ?_)
    rw [hdecide _ rfl, if_neg (Nat.not_lt.2 hfull), actOnRequest_refused, if_neg (by simp)]
    rfl

/-- Settles O32: the checks pass, and the arrears decide. -/
theorem limitRequestAnswered : Obligations.LimitRequestAnswered := by
  intro tag slot asked amount g reason m s hslot hm hmode hstate hcond hg hq hk hcompute
  have hanswer : grantRequest .limit slot asked s = actOnRequest slot m .limit (decideLimit s m amount) s :=
    grantRequest_decided hslot hm hmode hstate hcond hg hq hk
  rw [decideLimit_grant hcompute] at hanswer
  refine ⟨fun hnone => answers_of_block rfl rfl (hanswer.trans ?_), fun harrears => answers_of_block rfl rfl (hanswer.trans ?_)⟩
  · rw [if_neg (by omega)]
    rfl
  · rw [if_pos harrears, actOnRequest_refused, if_neg (by simp)]

/-! ## The refusals, and TRIAL -/

/-- One check of R52 that fails gives the refusal; else the rest decides. -/
theorem elim_refused_ite {c d : Prop} [Decidable c] [Decidable d] {x st : Status} {f : Outcome} {checks : Option Status}
    {rest : Option (Status × Outcome)} {decision : Decision} (hcd : c ↔ d)
    (hrest : rest = some (st, f) → checks.elim decision (fun st => .refused st .none) = .refused st f)
    (h : (if d then some (x, Outcome.none) else rest) = some (st, f)) :
    (if c then some x else checks).elim decision (fun st => .refused st .none) = .refused st f := by
  by_cases hd : d
  · rw [if_pos hd] at h
    cases h
    rw [if_pos (hcd.2 hd)]
    rfl
  · rw [if_neg hd] at h
    rw [if_neg (mt hcd.1 hd)]
    exact hrest h

/-- One check of R52 that fails would give the refusal; else the rest decides (R54). -/
theorem trialOutcome_ite {c d : Prop} [Decidable c] [Decidable d] {x : Status} {out : Outcome} {checks : Option Status}
    {decision : Decision} (hcd : c ↔ d) (hrest : trialOutcome s m (checks.elim decision (fun st => .refused st .none)) = out) :
    trialOutcome s m ((if c then some x else checks).elim decision (fun st => .refused st .none)) =
      if d then .wouldRefuse x .none else out := by
  by_cases hd : d
  · rw [if_pos hd, if_pos (hcd.2 hd)]
    rfl
  · rw [if_neg hd, if_neg (mt hcd.1 hd)]
    exact hrest

/-- What a refill that passes R52's checks and reaches an amount would come to (R54). -/
theorem trialOutcome_refill {part g : Nat} {reason : Reason}
    (h : computeGrant s.inForce.refillStep (allowanceOf s m.branch) m asked = .grant g reason)
    (hpart : part = s.record.pool.balance / s.inForce.refillStep * s.inForce.refillStep) :
    trialOutcome s m (decideRefill s m .host asked asked) =
      if s.record.queue = [] ∧ g ≤ s.record.pool.balance then .wouldIssue g reason m.nextGrant (m.loaded + g)
      else if s.record.queue = [] ∧ s.inForce.shortage = .partly ∧ s.inForce.refillStep ≤ part then
        .wouldIssue part .pool m.nextGrant (m.loaded + part)
      else if s.record.queue.length < 32 then .wouldQueue asked s.record.queue.length
      else .wouldRefuse .queueFull .none := by
  rw [decideRefill_host h hpart (ite_self _).symm]
  simp only [apply_ite (trialOutcome s m)]
  rfl

/-- What a limit that passes R52's checks and reaches an amount would come to (R54). -/
theorem trialOutcome_limit {g : Nat} {reason : Reason} (h : computeGrant s.inForce.refillStep none m asked = .grant g reason) :
    trialOutcome s m (decideLimit s m asked) =
      if 0 < s.record.pool.arrears then .wouldRefuse .poolShort (.arrears s.record.pool.arrears)
      else .wouldIssue g reason m.nextGrant (m.loaded + g) := by
  rw [decideLimit_grant h]
  simp only [apply_ite (trialOutcome s m)]
  rfl

/-- Settles O33: each check of the block is the check of the statement in the same place; a TRIAL answers what the decision would be. -/
theorem grantRequestRefusedOrTrial : Obligations.GrantRequestRefusedOrTrial := by
  intro tag kind slot asked s c code hc
  refine ⟨fun hslot => grantRequest_answers hc (grantRequest_slot hslot),
    fun hslot hm => grantRequest_answers hc (grantRequest_unknown hslot hm), fun m hslot hm =>
      ⟨fun hmode => grantRequest_answers hc (grantRequest_mode hslot hm hmode), fun hmode htrial part hpart => ?_,
        fun hmode htrial st figures amount hamount h => ?_⟩⟩
  · refine grantRequest_answers hc ?_
    rw [grantRequest_checked hslot hm hmode, answerRequest_trial htrial, hostDecision_eq, requestRefusal_eq]
    refine congrArg (fun out => (s, ({ status := .trial, outcome := out } : Reply))) ?_
    refine trialOutcome_ite Iff.rfl (trialOutcome_ite Iff.rfl (trialOutcome_ite Iff.rfl ?_))
    rw [if_neg Bool.false_ne_true]
    refine trialOutcome_ite Iff.rfl (trialOutcome_ite queued_iff (trialOutcome_ite Iff.rfl ?_))
    cases kind with
    | refill =>
      rw [if_pos rfl, decideHost]
      cases hcompute : computeGrant s.inForce.refillStep (allowanceOf s m.branch) m asked with
      | refused st f => rw [decideRefill_refused .host asked hcompute]; rfl
      | grant g reason => simpa using trialOutcome_refill hcompute hpart
    | limit =>
      rw [if_neg (by simp), decideHost]
      cases hcompute : computeGrant s.inForce.refillStep none m asked with
      | refused st f => rw [decideLimit_refused hcompute]; rfl
      | grant g reason => simpa using trialOutcome_limit hcompute
  · refine grantRequest_answers hc ?_
    have hdecision : hostDecision s slot m kind (decide (effective s m = .hold)) asked amount = .refused st figures := by
      rw [hostDecision_eq, requestRefusal_eq]
      refine elim_refused_ite Iff.rfl (elim_refused_ite Iff.rfl (elim_refused_ite Iff.rfl (elim_refused_ite decide_eq_true_iff
        (elim_refused_ite Iff.rfl (elim_refused_ite queued_iff (elim_refused_ite Iff.rfl fun h => ?_)))))) h
      cases kind with
      | refill =>
        rw [if_pos rfl] at h
        split at h
        · rename_i hcompute
          cases h
          exact decideRefill_refused .host asked hcompute
        · cases h
      | limit =>
        rw [if_neg (by simp)] at h
        split at h
        · rename_i hcompute
          cases h
          exact decideLimit_refused hcompute
        · cases h
    rw [grantRequest_checked hslot hm hmode, answerRequest_acts htrial hamount, hdecision, actOnRequest_refused]

end Sys2Proof.Machine
end

section
/-!
SUPPORT. LOAD CONFIRM (O34): its checks, the number it names, and the settlement, mismatch or DISPUTE that its total calls for.
-/

namespace Sys2Proof.Machine

variable {s : State} {slot number total : Nat} {m : Meter}

/-! ## The checks (R68) -/

theorem not_numberOk {n : Nat} : (!numberOk n) = true ↔ n < 1 ∨ 65535 < n := by
  rw [Bool.not_eq_true', ← Bool.not_eq_true, numberOk_iff]
  omega

theorem not_confirmOk :
    (!meterSlotOk slot || !numberOk number || !controlTotalOk total) = true
      ↔ 511 < slot ∨ number < 1 ∨ 65535 < number ∨ 1000099999998 < total := by
  have htotal : (!controlTotalOk total) = true ↔ 1000099999998 < total := by
    rw [controlTotalOk, Bool.not_eq_true', decide_eq_false_iff_not, Nat.not_le]
    rfl
  rw [Bool.or_eq_true, Bool.or_eq_true, not_meterSlotOk, not_numberOk, htotal, or_assoc, or_assoc]

/-- The first check that fails answers, and nothing changes (R68). -/
theorem loadConfirm_refused {st : Status}
    (h : (if s.record.mode = .locked then some Status.wrongMode
       else if 511 < slot ∨ number < 1 ∨ 65535 < number ∨ 1000099999998 < total then some .badValue
       else if s.meter? slot = none then some .unknownMeter
       else none) = some st) : loadConfirm slot number total s = (s, refuse st) := by
  refine refused_ite not_unlocked (fun _ => refused_ite not_confirmOk fun _ h => ?_) h
  cases hm : s.meter? slot with
  | none => rw [if_pos hm] at h; rw [Option.some.inj h]
  | some m => rw [if_neg (by simp [hm])] at h; cases h

/-- The checks of R68, passed. -/
theorem loadConfirm_checked (hmode : s.record.mode ≠ .locked) (hslot : slot < 512) (h1 : 1 ≤ number) (h2 : number ≤ 65535)
    (ht : total ≤ 1000099999998) (hm : s.meter? slot = some m) :
    loadConfirm slot number total s = confirm slot m number total s := by
  unfold loadConfirm
  rw [if_neg (mt not_unlocked.1 hmode), if_neg (by rw [not_confirmOk]; omega), hm]

/-! ## The number it names -/

theorem confirm_out {g : GrantOut} (hg : m.grantOut = some g) (hn : g.number = number) :
    confirm slot m number total s = confirmOut slot m g total s := by
  unfold confirm
  rw [hg]
  exact if_pos hn

theorem confirm_other {g : GrantOut} (hg : m.grantOut = some g) (hn : g.number ≠ number) :
    confirm slot m number total s = (s, refuseWith .noGrant (.numberHeld (some g.number))) := by
  unfold confirm numberHeld
  rw [hg]
  exact if_neg hn

/-- The late settlement of the last voided grant is tried where the total and the credit capacity allow it (R75). -/
theorem confirm_late {v : Voided} (hg : m.grantOut = none) (hv : m.lastVoided = some v) (hn : v.number = number)
    (ht : total = m.loaded + v.amount) (hc : m.credit + v.amount ≤ 99999999) {out : State × Reply}
    (hsome : ∀ t, lateSettle slot m v s = some t →
      (t, ({ status := .settledLate, outcome := .settled number v.amount (m.credit + v.amount) (m.loaded + v.amount) } : Reply)) = out)
    (hnone : lateSettle slot m v s = none →
      (enterDispute slot m s, refuseWith .poolShort (.lateShort v.amount s.record.pool.balance)) = out) :
    confirm slot m number total s = out := by
  unfold confirm
  rw [hg, hv]
  dsimp only
  rw [if_pos hn, confirmVoided, if_pos ⟨ht, holds_iff.2 hc⟩]
  cases hl : lateSettle slot m v s with
  | some t => rw [hn]; exact hsome t hl
  | none => exact hnone hl

/-- With no grant out, a number or total that is not the last voided grant's names none (R68, R75). -/
theorem confirm_none (hg : m.grantOut = none)
    (hv : ∀ v ∈ m.lastVoided, v.number ≠ number ∨ total ≠ m.loaded + v.amount ∨ 99999999 < m.credit + v.amount) :
    confirm slot m number total s = (s, refuseWith .noGrant (.numberHeld (m.lastVoided.map (·.number)))) := by
  have hheld : numberHeld m = m.lastVoided.map (·.number) := by rw [numberHeld, hg]
  unfold confirm
  rw [hg, hheld]
  cases hl : m.lastVoided with
  | none => rfl
  | some v =>
    dsimp only
    by_cases hn : v.number = number
    · rw [if_pos hn, confirmVoided, if_neg, hheld, hl]
      rw [holds_iff]
      have := hv v hl
      omega
    · rw [if_neg hn]

/-! ## The grant out (R69, R70) -/

theorem settleGrant_eq {below falls : Bool} (slot : Nat) (m : Meter) (s : State) (g : GrantOut)
    (hbelow : below = decide (0 < m.markCode ∧ 8 * (m.credit + g.amount) < m.markCode * m.ceiling))
    (hfalls : falls = (below && !m.belowMark)) :
    settleGrant slot m g s =
      { s with
        record.meters := Table.put s.record.meters slot
          { m with
            credit := m.credit + g.amount, loaded := m.loaded + g.amount, grantOut := none, belowMark := below
            causes := { m.causes with lowCredit := m.causes.lowCredit || falls } }
        record.pool.reserved := s.record.pool.reserved - (if g.kind = .refill then g.amount else 0)
        attentionMark := s.attentionMark || (falls && s.inForce.attentionEnable) } :=
  Option.some.inj (settleFor_grant slot m s g hbelow hfalls)

theorem confirmOut_settles {g : GrantOut} (ht : total = m.loaded + g.amount) (hc : m.credit + g.amount ≤ 99999999) :
    confirmOut slot m g total s =
      (settleGrant slot m g s, done (.settled g.number g.amount (m.credit + g.amount) (m.loaded + g.amount))) := by
  unfold confirmOut
  rw [if_pos ⟨ht, holds_iff.2 hc⟩]

theorem confirmOut_declines {g : GrantOut} (ht : total = m.loaded) (hg : 0 < g.amount) :
    confirmOut slot m g total s = (voidAndCredit slot m g s, done .declined) := by
  unfold confirmOut
  rw [if_neg (fun h => by omega), if_pos ht]

theorem confirmOut_mismatch {g : GrantOut} (ht : total ≠ m.loaded)
    (hbad : total ≠ m.loaded + g.amount ∨ 99999999 < m.credit + g.amount) :
    confirmOut slot m g total s =
      ({ s with record.meters := Table.put s.record.meters slot { m with mismatches := min (m.mismatches + 1) 65535 } },
       refuseWith .controlMismatch (.confirmMismatch m.loaded g.amount)) := by
  unfold confirmOut
  rw [if_neg (by rw [holds_iff]; omega), if_neg ht]
  rfl

/-! ## The answers -/

/-- Settles O34: the checks, then the grant that the number names, and for a late settlement what the pool and the allowance allow. -/
theorem loadConfirmSettles : Obligations.LoadConfirmSettles := by
  intro tag slot number total s
  refine ⟨fun st h => answers_of_block rfl rfl (loadConfirm_refused h), fun m hmode hslot h1 h2 ht hm => ?_⟩
  have hchecked : loadConfirm slot number total s = confirm slot m number total s :=
    loadConfirm_checked hmode hslot h1 h2 ht hm
  refine ⟨fun g hg hn below hbelow => ⟨fun htotal hc => ?_, fun hne hbad => ?_⟩, fun g hg hn => ?_, fun hg hv => ?_, ?_⟩
  · refine answers_of_block rfl rfl (hchecked.trans ((confirm_out hg hn).trans ?_))
    rw [confirmOut_settles htotal hc, settleGrant_eq slot m s g hbelow rfl, hn]
  · exact answers_of_block rfl rfl (hchecked.trans ((confirm_out hg hn).trans (confirmOut_mismatch hne hbad)))
  · exact answers_of_block rfl rfl (hchecked.trans (confirm_other hg hn))
  · exact answers_of_block rfl rfl (hchecked.trans (confirm_none hg hv))
  intro v hg hv hn htotal hc below m' late hbelow hm' hlate
  have hput : ∀ t, putEvaluated slot { m.loadedWith v.amount with lastVoided := none } t = { t with
      record.meters := Table.put t.record.meters slot m'
      attentionMark := t.attentionMark || ((below && !m.belowMark) && t.inForce.attentionEnable) } :=
    fun t => (putEvaluated_late slot m t v hbelow rfl).trans (by rw [hm'])
  have hsettled : ∀ {t}, lateSettle slot m v s = some t → Answers (.loadConfirm tag slot number total) 0x42 tag s (t, late) := by
    intro t hs
    refine answers_of_block rfl rfl (hchecked.trans (confirm_late hg hv hn htotal hc (fun t' hs' => ?_) fun hnone => ?_))
    · rw [Option.some.inj (hs'.symm.trans hs), hlate]
    · cases hnone.symm.trans hs
  refine ⟨fun hk => hsettled ?_, fun hk hp ha => hsettled ?_, fun b hk hp hb hrun ha spent used hspent hused => hsettled ?_,
    fun hk hp => ?_⟩
  · rw [← hput]
    exact settleFor_lateLimit slot m s hk
  · have hs : lateSettle slot m v s = some _ := settleFor_lateRefill slot m hk hp
    rw [hs, countSpent_none (s := debitPool v.amount s) v.amount ha, hput]
    rfl
  · have hs : lateSettle slot m v s = some _ := settleFor_lateRefill slot m hk hp
    rw [hs, countSpent_eq (s := debitPool v.amount s) v.amount hb hrun ha hspent hused, hput, Bool.and_or_distrib_right, ← Bool.or_assoc]
    rfl
  · have hs : lateSettle slot m v s = none := settleFor_lateShort slot m hk hp
    refine answers_of_block rfl rfl (hchecked.trans (confirm_late hg hv hn htotal hc (fun t hs' => ?_) fun _ => ?_))
    · cases hs'.symm.trans hs
    · rw [enterDispute_eq]

end Sys2Proof.Machine
end

section
/-! SUPPORT. The void of a grant out (O35), written out, and the four routes to it. -/

namespace Sys2Proof.Machine

variable {s : State} {slot number : Nat} {m : Meter} {g : GrantOut}

/-! ## The void with its pool credit (R71 to R74, R99) -/

/-- The void of a grant out with its pool credit: the state before the serving, and the serving where the grant was a refill. -/
theorem voidAndCredit_eq {back paid : Nat} {voided : State} (hback : back = if g.kind = .refill then g.amount else 0)
    (hpaid : paid = min s.record.pool.arrears back)
    (hvoided : voided =
      { s with
        record.meters := Table.put s.record.meters slot (m.voided g)
        record.branches := (reduceSpent g s).record.branches
        record.pool.reserved := s.record.pool.reserved - back
        record.pool.balance := s.record.pool.balance + (back - paid)
        record.pool.arrears := s.record.pool.arrears - paid
        record.deviceCauses.arrears := s.record.deviceCauses.arrears
          && !decide (0 < s.record.pool.arrears ∧ 0 < back ∧ s.record.pool.arrears ≤ back)
        attentionMark := s.attentionMark || s.inForce.attentionEnable }) :
    voidAndCredit slot m g s = if back = 0 then voided else (serveQueue voided).state := by
  subst hpaid hvoided
  unfold voidAndCredit creditAndServe
  rw [refillAmount_ite, ← hback, voidGrant_eq, ← hback, creditPool_eq]
  by_cases hz : back = 0
  · rw [if_pos hz, if_pos hz]
    simp [hz]
  · rw [if_neg hz, if_neg hz]
    simp [Nat.pos_of_ne_zero hz]

/-! ## CANCEL GRANT and the load timer (R66, R73) -/

/-- The first check that fails answers, and nothing changes (R73). -/
theorem cancelGrant_refused {st : Status}
    (h : (if s.record.mode = .locked then some Status.wrongMode
       else if 511 < slot ∨ number < 1 ∨ 65535 < number then some .badValue
       else
        match s.meter? slot with
        | none => some .unknownMeter
        | some m => if ∀ g ∈ m.grantOut, g.number ≠ number then some .noGrant else none) = some st) :
    cancelGrant slot number s = (s, refuse st) := by
  refine refused_ite not_unlocked (fun _ => refused_ite ?_ fun _ => ?_) h
  · rw [Bool.or_eq_true, not_meterSlotOk, not_numberOk]
  cases s.meter? slot with
  | none => exact fun h => by rw [Option.some.inj h]
  | some m =>
    intro h
    dsimp only at h ⊢
    cases hg : m.grantOut with
    | none =>
      rw [if_pos (by simp [hg])] at h
      rw [Option.some.inj h]
    | some g =>
      dsimp only
      by_cases hn : g.number = number
      · rw [if_neg (by simpa [hg] using hn)] at h
        cases h
      · rw [if_pos (by simpa [hg] using hn)] at h
        rw [if_neg hn, Option.some.inj h]

theorem cancelGrant_voids (hmode : s.record.mode ≠ .locked) (hslot : slot < 512) (h1 : 1 ≤ g.number) (h2 : g.number ≤ 65535)
    (hm : s.meter? slot = some m) (hg : m.grantOut = some g) :
    cancelGrant slot g.number s = (voidAndCredit slot m g s, done (.cancelled g.number g.amount)) := by
  unfold cancelGrant
  rw [if_neg (mt not_unlocked.1 hmode), if_neg (by rw [Bool.or_eq_true, not_meterSlotOk, not_numberOk]; omega), hm]
  dsimp only
  rw [hg]
  exact if_pos rfl

theorem expire_eq (hm : s.meter? slot = some m) (hg : m.grantOut = some g) (hr : g.remaining = 0) :
    expire slot s = voidAndCredit slot m g s := by
  unfold expire
  rw [hm]
  dsimp only
  rw [hg]
  exact if_pos hr

/-- A slot with no timer at 0 has nothing to expire (log 13). -/
theorem expire_same (h : ∀ m, s.meter? slot = some m → ∀ g ∈ m.grantOut, 0 < g.remaining) : expire slot s = s := by
  unfold expire
  cases hm : s.meter? slot with
  | none => rfl
  | some m =>
    dsimp only
    cases hg : m.grantOut with
    | none => rfl
    | some g => exact if_neg (Nat.ne_of_gt (h m hm g hg))

/-! ## RETIRE METER with a grant out (R15) -/

theorem removeEntry_same (hq : s.queued slot = false) : removeEntry slot s = s := by
  unfold removeEntry
  rw [hq]
  rfl

theorem headIs_of_not_queued (hq : s.queued slot = false) : headIs s slot = false := by
  rw [← Bool.not_eq_true, headIs_iff]
  intro hh
  obtain ⟨e, he, hslot⟩ := Option.map_eq_some_iff.1 hh
  exact not_queued_iff.1 hq e (List.mem_of_mem_head? he) hslot

/-- The retirement of a meter with a grant out and no queue entry: the void and its serving leave the slot without an entry, so nothing
more is served (R15, R85). -/
theorem retire_voids {off : Nat} (hg : m.grantOut = some g) (hq : s.queued slot = false)
    (hoff : off = if m.kind = .prepaid then m.credit else 0) :
    retire slot m s =
      { voidAndCredit slot m g s with
        record.meters := Table.erase (voidAndCredit slot m g s).record.meters slot
        record.pool.writtenOff := (voidAndCredit slot m g s).record.pool.writtenOff + off } := by
  obtain ⟨hfree, -, -⟩ := (unserved_voidGrant m g hq).creditAndServe (refillAmount g)
  replace hfree : (voidAndCredit slot m g s).queued slot = false := hfree
  have hshare : prepaidShare m = off := hoff.symm
  unfold retire retireVoid
  rw [hg, hshare]
  dsimp only
  generalize voidAndCredit slot m g s = t at *
  have hleft : (addWrittenOff off t).queued slot = false := hfree
  rw [headIs_of_not_queued hleft, Bool.false_and, if_neg Bool.false_ne_true, emptySlot_eq, removeEntry_same hleft]
  rfl

theorem retireMeter_retires (hmode : s.record.mode = .service) (hslot : slot < 512) (hm : s.meter? slot = some m)
    (hx : m.kind = .prepaid → s.record.pool.writtenOff + m.credit ≤ 2 ^ 47 - 1) :
    retireMeter slot s = (retire slot m s, done (.retired (m.grantOut.map grantFigures) (prepaidShare m))) := by
  have hfits : ¬(m.kind = .prepaid ∧ (Config.totalMax : Int) < s.record.pool.writtenOff + m.credit) := by
    rintro ⟨hp, hlt⟩
    exact absurd (hx hp) (Int.not_le.2 hlt)
  unfold retireMeter
  rw [if_neg (by simp [hmode, serves]), if_neg (by rw [not_meterSlotOk]; omega), hm]
  exact if_neg hfits

/-- Settles O35: the refusals, a timer that does not expire, and the four routes to one void. -/
theorem grantVoided : Obligations.GrantVoided := by
  intro tag slot s
  refine ⟨fun number st h => answers_of_block rfl rfl (cancelGrant_refused h), fun h => ?_, ?_⟩
  · show Host.Outcome.next (if s.powered then expire slot s else s) = .next s
    rw [expire_same h, ite_self]
  intro m g hslot hm hg hq back paid voided t hback hpaid hvoided ht
  have hvoid : voidAndCredit slot m g s = t := by
    rw [ht]
    refine voidAndCredit_eq hback hpaid (hvoided.trans ?_)
    rw [reduceSpent_eq]
    rfl
  refine ⟨fun hp hr => ?_, fun hmode h1 h2 => ⟨?_, fun hl ha => ?_⟩, fun off hoff hmode hx => ?_⟩
  · show Host.Outcome.next (if s.powered then expire slot s else s) = .next t
    rw [if_pos hp, expire_eq hm hg hr, hvoid]
  · refine answers_of_block rfl rfl ((cancelGrant_voids hmode hslot h1 h2 hm hg).trans ?_)
    rw [hvoid]
  · refine answers_of_block rfl rfl ((loadConfirm_checked hmode hslot h1 h2 hl hm).trans ((confirm_out hg rfl).trans ?_))
    rw [confirmOut_declines rfl ha, hvoid]
  · refine answers_of_block rfl rfl ((retireMeter_retires hmode hslot hm hx).trans ?_)
    rw [retire_voids hg (not_queued_iff.2 hq) hoff, hvoid, hg, show prepaidShare m = off from hoff.symm]
    rfl

end Sys2Proof.Machine
end

section
/-! SUPPORT. The table of the modes (O54): the modes in which the block of each request kind refuses it. -/

namespace Sys2Proof.Machine

theorem not_writesSettings {m : Mode} : (!writesSettings m) = true ↔ m = .frozen := by
  cases m <;> simp [writesSettings]

theorem not_clears {m : Mode} : (!clears m) = true ↔ m = .service ∨ m = .frozen := by
  cases m <;> simp [clears]

theorem not_builds_of {m : Mode} (h : m = .frozen ∨ m = .locked) : (!builds m) = true :=
  not_builds.2 (by rcases h with rfl | rfl <;> simp)

/-- Settles O54: the first check of each block is the mode check of its row, so a mode that the row does not mark refuses the request. -/
theorem modesCloseRequests : Obligations.ModesCloseRequests := by
  intro c kind tag s hc hbad h
  cases c
  case badRequest t k l r => exact absurd rfl (hbad t k l r)
  case readStatus | readSettings | restart | refillRequest | limitRequest =>
    cases hc
    simp at h
  case writeSettings =>
    cases hc
    exact answers_of_block rfl rfl (if_pos (not_writesSettings.2 (by simpa using h)))
  case clearTables =>
    cases hc
    exact answers_of_block rfl rfl (if_pos (not_clears.2 (by simpa using h)))
  case readAttention | takeAttention | setMode | readMeter | loadConfirm | cancelGrant | readQueue | readPosition | readBranch
      | readDenominations | readTransfers | readCount =>
    cases hc
    exact answers_of_block rfl rfl (if_pos (not_unlocked.2 (by simpa using h)))
  case enrolMeter | setMeter | reassignMeter | deposit | refund | openBranch | setBranch | closeBranch | defineDenomination =>
    cases hc
    exact answers_of_block rfl rfl (if_pos (not_builds_of (by simpa using h)))
  case closeDay | closeMeter | retireMeter | meterReport | resolveMeter | cancelQueued | cycleStart | cycleStop | cyclePause
      | cycleResume | withdrawDenomination | retireDenomination | purchaseStock | issueStock | writeOffStock | surrenderStock
      | dispatch | receive | cancelTransfer | beginCount | enterCount | closeCount | abandonCount =>
    cases hc
    exact answers_of_block rfl rfl (if_pos (not_serves.2 (by simpa using h)))
  all_goals cases hc

end Sys2Proof.Machine
end

section
/-!
SUPPORT. One round of serving written out (O37): the queue after its head entry, the conditions of R87 and R89, and what each outcome leaves.
-/

namespace Sys2Proof.Machine

variable {s : State} {e : QueueEntry} {rest : List QueueEntry} {m : Meter}

/-! ## The head entry leaves the queue (R84) -/

/-- The queue after an entry left it; POOL_WAIT goes with the last entry (R84). -/
theorem setQueueAfterRemoval_eq (rest : List QueueEntry) (s : State) :
    setQueueAfterRemoval rest s =
      { s with
        record.queue := rest
        record.deviceCauses.poolWait := s.record.deviceCauses.poolWait && !rest.isEmpty } := by
  unfold setQueueAfterRemoval
  cases rest with
  | nil => simp [clearDeviceCause, DeviceCauses.without]
  | cons e rest => simp

theorem setMeterCause_eq {slot : Nat} (hm : s.meter? slot = some m) (c : MeterCause) :
    setMeterCause slot c s =
      { s with
        record.meters := Table.put s.record.meters slot { m with causes := m.causes.with c }
        attentionMark := s.attentionMark || s.inForce.attentionEnable } := by
  rw [setMeterCause, hm]
  exact raiseAttention_eq _

/-! ## Its conditions (R87, R89) -/

theorem eligible_iff :
    eligible s m = true ↔ m.state = .active ∧ m.grantOut = none ∧ (effective s m = .none ∨ effective s m = .fixed) := by
  simp only [eligible, Bool.and_eq_true, decide_eq_true_eq, Option.isNone_iff_eq_none, mayOriginate_iff, and_assoc]

theorem partialServes_iff :
    partialServes s = true ↔ s.inForce.shortage = .partly
      ∧ s.inForce.refillStep ≤ s.record.pool.balance / s.inForce.refillStep * s.inForce.refillStep := by
  rw [partialServes, Bool.and_eq_true, decide_eq_true_iff, decide_eq_true_iff]
  rfl

theorem not_partialServes_iff :
    ¬partialServes s = true ↔ s.inForce.shortage = .wait
      ∨ s.record.pool.balance / s.inForce.refillStep * s.inForce.refillStep < s.inForce.refillStep := by
  rw [partialServes_iff, not_and_or, Nat.not_le]
  cases s.inForce.shortage <;> simp

theorem servedAmount_covered {g : Nat} (hg : g ≤ s.record.pool.balance) : servedAmount s g = some g :=
  if_pos (decide_eq_true hg)

theorem servedAmount_short {g : Nat} (hg : s.record.pool.balance < g) :
    servedAmount s g = if partialServes s then some (partialAmount s) else none :=
  if_neg (by simp [covers, hg])

/-- A head entry whose computation reached an amount stays where the pool does not cover it and PARTIAL grants nothing (R89). -/
theorem servedAmount_eq_none_iff {g : Nat} :
    servedAmount s g = none ↔ s.record.pool.balance < g
      ∧ (s.inForce.shortage = .wait
        ∨ s.record.pool.balance / s.inForce.refillStep * s.inForce.refillStep < s.inForce.refillStep) := by
  rw [← not_partialServes_iff]
  rcases Nat.lt_or_ge s.record.pool.balance g with hlt | hge
  · simp [servedAmount_short hlt, hlt]
  · simp [servedAmount_covered hge, hge]

/-! ## The round on the head entry (R86 to R89) -/

theorem serveRound_stops (h : s.record.queue = [] ∨ s.record.pool.balance = 0) : serveRound s = .stop := by
  unfold serveRound
  rcases h with hq | hp
  · rw [hq]
  · cases s.record.queue with
    | nil => rfl
    | cons e rest => exact if_pos hp

theorem serveRound_unknown (hq : s.record.queue = e :: rest) (hp : 0 < s.record.pool.balance) (hm : s.meter? e.slot = none) :
    serveRound s = .removed (setQueueAfterRemoval rest s) := by
  simp [serveRound, hq, hp.ne', hm]

theorem serveRound_dropped (hq : s.record.queue = e :: rest) (hp : 0 < s.record.pool.balance) (hm : s.meter? e.slot = some m)
    (he : eligible s m = false) :
    serveRound s = .removed (setMeterCause e.slot .queueDropped (setQueueAfterRemoval rest s)) := by
  simp [serveRound, hq, hp.ne', hm, he]

theorem serveRound_refused {st : Status} {figures : Outcome} (hq : s.record.queue = e :: rest) (hp : 0 < s.record.pool.balance)
    (hm : s.meter? e.slot = some m) (he : eligible s m = true)
    (hc : computeGrant s.inForce.refillStep (allowanceOf s m.branch) m (substituted (effective s m) m e.amount) = .refused st figures) :
    serveRound s = .removed (refuseHead e rest m st s) := by
  simp [serveRound, hq, hp.ne', hm, he, hc]

/-- A head entry whose computation reached an amount is issued, or stays and ends the serving (R89). -/
theorem serveRound_granted {g : Nat} {reason : Reason} (hq : s.record.queue = e :: rest) (hp : 0 < s.record.pool.balance)
    (hm : s.meter? e.slot = some m) (he : eligible s m = true)
    (hc : computeGrant s.inForce.refillStep (allowanceOf s m.branch) m (substituted (effective s m) m e.amount) = .grant g reason) :
    serveRound s = (servedAmount s g).elim .stop (fun a => .issued (issueHead e rest m a s)) := by
  cases ha : servedAmount s g <;> simp [serveRound, hq, hp.ne', hm, he, hc, ha]

/-- GRANT_READY set on the record that an issue has just written (R62, R89). -/
theorem setMeterCause_withGrant {u : State} {meters : Table Meter} {slot g timeout : Nat} {counted : Bool} {cycle : Byte}
    (hu : u.record.meters = Table.put meters slot (m.withGrant .refill g counted cycle timeout)) :
    setMeterCause slot .grantReady u =
      { u with
        record.meters := Table.put meters slot
          { m with
            grantOut := some
              { number := m.nextGrant, amount := g, kind := .refill, branch := m.branch, counted := counted, cycle := cycle
                remaining := timeout }
            nextGrant := if m.nextGrant = 65535 then 1 else m.nextGrant + 1
            causes := { m.causes with grantReady := true } }
        attentionMark := u.attentionMark || u.inForce.attentionEnable } := by
  have hm : u.meter? slot = some (m.withGrant .refill g counted cycle timeout) := by rw [State.meter?, hu, Table.find_put_self]
  rw [setMeterCause_eq hm, hu, Table.put_put]
  rfl

/-- Settles O37: the branches of a round on its head entry; then the issue written out, its cause set on the record just written. -/
theorem servingRoundOutcomes : Obligations.ServingRoundOutcomes := by
  refine ⟨fun s left e rest m able amount hq hp hm hleft hable hamount => ?_, fun slot g m s _ m' hm' => ⟨fun ha => ?_, ?_⟩⟩
  · have heligible : eligible s m = true ↔ able := eligible_iff.trans hable.symm
    have hqueue : setQueueAfterRemoval rest s = left := (setQueueAfterRemoval_eq rest s).trans hleft.symm
    have hmleft : left.meter? e.slot = some m := hleft ▸ hm
    obtain ⟨hattention, hforce, hmeters⟩ : left.attentionMark = s.attentionMark ∧ left.inForce = s.inForce
        ∧ left.record.meters = s.record.meters := by
      rw [hleft]
      exact ⟨rfl, rfl, rfl⟩
    rw [← substituted_eq] at hamount
    subst hamount
    refine ⟨fun hnot => ?_, fun h st figures hc => ?_, fun h g reason hc => ?_⟩
    · rw [serveRound_dropped hq hp hm (Bool.eq_false_iff.2 (mt heligible.1 hnot)), hqueue, setMeterCause_eq hmleft, hattention, hforce,
        hmeters]
      rfl
    · rw [serveRound_refused hq hp hm (heligible.2 h) hc, refuseHead, hqueue, setMeterCause_putMeter, Meter.refusedWith_eq, hattention,
        hforce, hmeters]
      rfl
    · rw [serveRound_granted hq hp hm (heligible.2 h) hc]
      have hissued : ∀ a, issueHead e rest m a s = setMeterCause e.slot .grantReady (issueGrant e.slot m .refill a left) :=
        fun a => by rw [issueHead, hqueue]
      refine ⟨fun hcov => ?_, fun hshort part hpart => ⟨fun hpartly hstep => ?_, fun hstays => ?_⟩⟩
      · rw [servedAmount_covered hcov, Option.elim_some, hissued]
      · rw [servedAmount_short hshort, if_pos (partialServes_iff.2 ⟨hpartly, hpart ▸ hstep⟩), Option.elim_some, hissued, hpart]
        rfl
      · rw [servedAmount_eq_none_iff.2 ⟨hshort, hpart ▸ hstays⟩, Option.elim_none]
  · rw [issueGrant_uncounted slot g ha, setMeterCause_withGrant rfl, hm']
    rfl
  · intro b hb hrun hallow spent hspent
    have hmark : ∀ mark used enable : Bool, (mark || (used && enable) || enable) = (mark || enable) := by decide
    rw [issueGrant_counted slot hb hrun hallow hspent rfl, setMeterCause_withGrant rfl, hm']
    dsimp only
    rw [hmark]

end Sys2Proof.Machine
end

section
/-!
SUPPORT. A whole serving (O36): what a round leaves alone, the serving as its first round before the serving of the rest, and what holds where it
ends.
-/

namespace Sys2Proof.Machine

variable {s t : State} {e : QueueEntry} {rest : List QueueEntry}

/-! ## What a round leaves alone (R86 to R89) -/

@[simp] theorem setMeterCause_inForce (slot : Nat) (c : MeterCause) (s : State) : (setMeterCause slot c s).inForce = s.inForce := by
  rcases setMeterCause_cases slot c s with ⟨-, he⟩ | ⟨m, -, he⟩ <;> rw [he]
  simp

@[simp] theorem setMeterCause_mode (slot : Nat) (c : MeterCause) (s : State) :
    (setMeterCause slot c s).record.mode = s.record.mode := by
  rcases setMeterCause_cases slot c s with ⟨-, he⟩ | ⟨m, -, he⟩ <;> rw [he]
  simp

@[simp] theorem issueGrant_inForce (slot : Nat) (m : Meter) (kind : GrantKind) (amount : Nat) (s : State) :
    (issueGrant slot m kind amount s).inForce = s.inForce := by
  cases kind <;> simp [issueGrant, reserveFunds]

/-- What a round from s to t that ends the entry e leaves: the entries behind it, the settings and the mode, the sum of P and the reserved
total, and the records of the other slots. -/
structure RoundLeaves (e : QueueEntry) (rest : List QueueEntry) (s t : State) : Prop where
  queue : t.record.queue = rest
  inForce : t.inForce = s.inForce
  mode : t.record.mode = s.record.mode
  funds : t.record.pool.balance + t.record.pool.reserved = s.record.pool.balance + s.record.pool.reserved
  meters : ∀ slot, e.slot ≠ slot → t.meter? slot = s.meter? slot

theorem roundLeaves_setQueueAfterRemoval (e : QueueEntry) (rest : List QueueEntry) (s : State) :
    RoundLeaves e rest s (setQueueAfterRemoval rest s) := by
  rw [setQueueAfterRemoval_eq]
  exact ⟨rfl, rfl, rfl, rfl, fun _ _ => rfl⟩

theorem RoundLeaves.setMeterCause (h : RoundLeaves e rest s t) (c : MeterCause) :
    RoundLeaves e rest s (setMeterCause e.slot c t) where
  queue := by rw [setMeterCause_queue, h.queue]
  inForce := by rw [setMeterCause_inForce, h.inForce]
  mode := by rw [setMeterCause_mode, h.mode]
  funds := by rw [setMeterCause_pool, h.funds]
  meters slot hne := by rw [setMeterCause_meter?_ne hne.symm, h.meters slot hne]

theorem RoundLeaves.putMeter (h : RoundLeaves e rest s t) (m : Meter) : RoundLeaves e rest s (t.putMeter e.slot m) :=
  { h with meters := fun slot hne => by rw [State.meter?_putMeter, if_neg hne.symm, h.meters slot hne] }

/-- An issue of an amount that the pool covers moves it from P to the reserved total (R62). -/
theorem RoundLeaves.issueGrant (h : RoundLeaves e rest s t) (m : Meter) {a : Nat} (ha : a ≤ t.record.pool.balance) :
    RoundLeaves e rest s (issueGrant e.slot m .refill a t) := by
  obtain ⟨counted, cycle, hmeters, hpool, hqueue, -, -, hmode, -⟩ := issueGrant_frame e.slot m .refill a t
  refine ⟨hqueue.trans h.queue, (issueGrant_inForce ..).trans h.inForce, hmode.trans h.mode, ?_, fun slot hne => ?_⟩
  · have hfunds := h.funds
    rw [hpool]
    dsimp only
    omega
  · rw [State.meter?, hmeters, Table.find_put_ne _ _ hne.symm]
    exact h.meters slot hne

theorem serveRound_issued_leaves (h : serveRound s = .issued t) : ∃ e rest, s.record.queue = e :: rest ∧ RoundLeaves e rest s t := by
  rcases serveRound_cases s with he | ⟨e, rest, m, g, reason, a, hq, -, -, -, ha, he⟩ |
      ⟨e, rest, m, st, f, -, -, -, -, he⟩ | ⟨e, rest, m, -, -, -, he⟩ | ⟨e, rest, -, -, he⟩ <;> cases he.symm.trans h
  refine ⟨e, rest, hq, ((roundLeaves_setQueueAfterRemoval e rest s).issueGrant m ?_).setMeterCause _⟩
  rw [setQueueAfterRemoval_pool]
  exact servedAmount_le ha

theorem serveRound_removed_leaves (h : serveRound s = .removed t) :
    ∃ e rest, s.record.queue = e :: rest ∧ RoundLeaves e rest s t ∧ t.record.pool = s.record.pool := by
  rcases serveRound_cases s with he | ⟨e, rest, m, g, reason, a, -, -, -, -, -, he⟩ |
      ⟨e, rest, m, st, f, hq, -, -, -, he⟩ | ⟨e, rest, m, hq, -, -, he⟩ | ⟨e, rest, hq, -, he⟩ <;> cases he.symm.trans h
  · exact ⟨e, rest, hq, ((roundLeaves_setQueueAfterRemoval e rest s).putMeter _).setMeterCause _, by simp [refuseHead]⟩
  · exact ⟨e, rest, hq, (roundLeaves_setQueueAfterRemoval e rest s).setMeterCause _, by simp⟩
  · exact ⟨e, rest, hq, roundLeaves_setQueueAfterRemoval e rest s, by simp⟩

/-- Where a round stops (R86, R89). -/
theorem serveRound_stop (h : serveRound s = .stop) :
    s.record.queue = [] ∨ s.record.pool.balance = 0
      ∨ ∃ e m g reason, s.record.queue.head? = some e ∧ s.meter? e.slot = some m ∧ eligible s m = true
        ∧ computeGrant s.inForce.refillStep (allowanceOf s m.branch) m (substituted (effective s m) m e.amount) = .grant g reason
        ∧ servedAmount s g = none := by
  cases hq : s.record.queue with
  | nil => exact .inl rfl
  | cons e rest =>
    refine .inr ((Nat.eq_zero_or_pos s.record.pool.balance).imp id fun hp => ?_)
    cases hm : s.meter? e.slot with
    | none => cases (serveRound_unknown hq hp hm).symm.trans h
    | some m =>
      cases he : eligible s m with
      | false => cases (serveRound_dropped hq hp hm he).symm.trans h
      | true =>
        cases hc : computeGrant s.inForce.refillStep (allowanceOf s m.branch) m (substituted (effective s m) m e.amount) with
        | refused st figures => cases (serveRound_refused hq hp hm he hc).symm.trans h
        | grant g reason =>
          cases ha : servedAmount s g with
          | none => exact ⟨e, m, g, reason, rfl, hm, he, hc, ha⟩
          | some a =>
            rw [serveRound_granted hq hp hm he hc, ha] at h
            cases h

/-! ## A serving is its first round before the serving of the rest (R86) -/

theorem serveQueue_idle (hmode : s.record.mode ≠ .service) : serveQueue s = { state := s, issued := 0, removed := 0 } :=
  if_neg (by rw [Bool.not_eq_true, ← Bool.not_eq_true', not_serves]; exact hmode)

theorem serveQueue_service (hmode : s.record.mode = .service) : serveQueue s = serveRounds s.record.queue.length s :=
  if_pos (by rw [hmode]; rfl)

theorem serveQueue_stop (hmode : s.record.mode = .service) (h : serveRound s = .stop) :
    serveQueue s = { state := s, issued := 0, removed := 0 } := by
  rw [serveQueue_service hmode]
  cases s.record.queue.length with
  | zero => rfl
  | succ n => rw [serveRounds, h]

theorem serveQueue_issued (hmode : s.record.mode = .service) (h : serveRound s = .issued t) :
    serveQueue s = { serveQueue t with issued := (serveQueue t).issued + 1 } := by
  obtain ⟨e, rest, hq, ht⟩ := serveRound_issued_leaves h
  rw [serveQueue_service hmode, serveQueue_service (ht.mode.trans hmode), ht.queue, hq, List.length_cons, serveRounds, h]

theorem serveQueue_removed (hmode : s.record.mode = .service) (h : serveRound s = .removed t) :
    serveQueue s = { serveQueue t with removed := (serveQueue t).removed + 1 } := by
  obtain ⟨e, rest, hq, ht, -⟩ := serveRound_removed_leaves h
  rw [serveQueue_service hmode, serveQueue_service (ht.mode.trans hmode), ht.queue, hq, List.length_cons, serveRounds, h]

/-! ## What a serving leaves, and where it ends (R85 to R90) -/

/-- What a serving r of the queue of s leaves: the entries behind those it ended, the settings, the sum of P and the reserved total, the pool
where it issued nothing, and the records of slots without an entry; and no further round is made on it. -/
structure ServingLeaves (s : State) (r : Served) : Prop where
  queue : r.state.record.queue = s.record.queue.drop (r.issued + r.removed)
  inForce : r.state.inForce = s.inForce
  funds : r.state.record.pool.balance + r.state.record.pool.reserved = s.record.pool.balance + s.record.pool.reserved
  pool : r.issued = 0 → r.state.record.pool = s.record.pool
  meters : ∀ slot, (∀ e ∈ s.record.queue, e.slot ≠ slot) → r.state.meter? slot = s.meter? slot
  stops : serveRound r.state = .stop

theorem servingLeaves_stop (h : serveRound s = .stop) : ServingLeaves s { state := s, issued := 0, removed := 0 } :=
  ⟨rfl, rfl, rfl, fun _ => rfl, fun _ _ => rfl, h⟩

/-- A serving after a round that ended the head entry, whatever that round counts as. -/
theorem ServingLeaves.after_round {r r' : Served} (h : ServingLeaves t r) (hq : s.record.queue = e :: rest)
    (ht : RoundLeaves e rest s t) (hstate : r'.state = r.state) (hcount : r'.issued + r'.removed = r.issued + r.removed + 1)
    (hpool : r'.issued = 0 → r.issued = 0 ∧ t.record.pool = s.record.pool) : ServingLeaves s r' where
  queue := by rw [hstate, h.queue, ht.queue, hq, hcount, List.drop_succ_cons]
  inForce := by rw [hstate, h.inForce, ht.inForce]
  funds := by rw [hstate, h.funds, ht.funds]
  pool h0 := by rw [hstate, h.pool (hpool h0).1, (hpool h0).2]
  meters slot hfree := by
    rw [hq, List.forall_mem_cons] at hfree
    rw [hstate, h.meters slot (ht.queue ▸ hfree.2), ht.meters slot hfree.1]
  stops := by rw [hstate, h.stops]

/-- By induction on the queue, of which every round but the last takes the head entry. -/
theorem serveQueue_leaves (hmode : s.record.mode = .service) : ServingLeaves s (serveQueue s) := by
  induction hl : s.record.queue generalizing s with
  | nil =>
    have hstop := serveRound_stops (.inl hl)
    rw [serveQueue_stop hmode hstop]
    exact servingLeaves_stop hstop
  | cons e rest ih =>
    cases hround : serveRound s with
    | stop =>
      rw [serveQueue_stop hmode hround]
      exact servingLeaves_stop hround
    | issued t =>
      obtain ⟨e', rest', hq, ht⟩ := serveRound_issued_leaves hround
      obtain ⟨rfl, rfl⟩ := List.cons.inj (hl.symm.trans hq)
      rw [serveQueue_issued hmode hround]
      exact (ih (ht.mode.trans hmode) ht.queue).after_round hq ht rfl (Nat.add_right_comm ..) fun h0 => absurd h0 (Nat.succ_ne_zero _)
    | removed t =>
      obtain ⟨e', rest', hq, ht, hpool⟩ := serveRound_removed_leaves hround
      obtain ⟨rfl, rfl⟩ := List.cons.inj (hl.symm.trans hq)
      rw [serveQueue_removed hmode hround]
      exact (ih (ht.mode.trans hmode) ht.queue).after_round hq ht rfl rfl fun h0 => ⟨h0, hpool⟩

/-- Settles O36: a serving is unrolled round by round, and it ends at a state on which a further round stops. -/
theorem servingStopsAtUncoveredHead : Obligations.ServingStopsAtUncoveredHead := by
  intro s
  refine ⟨serveQueue_idle, fun hmode => ⟨serveRound_stops, serveQueue_stop hmode, fun t => serveQueue_issued hmode,
    fun t => serveQueue_removed hmode⟩, fun hmode r hr => ?_⟩
  obtain ⟨hqueue, hforce, hfunds, hpool, hmeters, hstop⟩ : ServingLeaves s r := hr ▸ serveQueue_leaves hmode
  refine ⟨hqueue, (serveRound_stop hstop).imp id (Or.imp id ?_), hfunds, hpool, hmeters⟩
  rintro ⟨e, m, g, reason, hhead, hm, he, hc, ha⟩
  obtain ⟨hactive, hfree, hcond⟩ := eligible_iff.1 he
  rw [substituted_eq, hforce] at hc
  rw [servedAmount_eq_none_iff, hforce] at ha
  exact ⟨e, m, g, reason, hhead, hm, hactive, hfree, hcond, hc, ha⟩

end Sys2Proof.Machine
end

section
/-! SUPPORT. CANCEL QUEUED and READ QUEUE (O38): the entry that is found and removed, and the numbered entries of a page. -/

namespace Sys2Proof.Machine

variable {s : State} {slot start : Nat}

/-! ## CANCEL QUEUED (R90, R91) -/

theorem findEntry_eq_none {i : Nat} {l : List QueueEntry} (h : ∀ e ∈ l, e.slot ≠ slot) : findEntry slot i l = none := by
  induction l generalizing i with
  | nil => rfl
  | cons e l ih =>
    obtain ⟨he, hl⟩ := List.forall_mem_cons.1 h
    rw [findEntry, if_neg he, ih hl]

theorem findEntry_append {i : Nat} {front behind : List QueueEntry} {e : QueueEntry} (he : e.slot = slot)
    (hfront : ∀ x ∈ front, x.slot ≠ slot) : findEntry slot i (front ++ e :: behind) = some (i + front.length, e) := by
  induction front generalizing i with
  | nil => rw [List.nil_append, findEntry, if_pos he]; rfl
  | cons x front ih =>
    obtain ⟨hx, hl⟩ := List.forall_mem_cons.1 hfront
    rw [List.cons_append, findEntry, if_neg hx, ih hl, List.length_cons, Nat.add_right_comm, Nat.add_assoc]

/-- The removal of a slot's only entry. -/
theorem removeEntry_append {front behind : List QueueEntry} {e : QueueEntry} (hq : s.record.queue = front ++ e :: behind)
    (he : e.slot = slot) (hrest : ∀ x ∈ front ++ behind, x.slot ≠ slot) :
    removeEntry slot s = setQueueAfterRemoval (front ++ behind) s := by
  have hqueued : s.queued slot = true := queued_iff.2 ⟨e, by simp [hq], he⟩
  have hfilter : s.record.queue.filter (fun x => x.slot != slot) = front ++ behind := by
    rw [hq, List.filter_append, List.filter_cons_of_neg (by simp [he]), ← List.filter_append, List.filter_eq_self]
    exact fun x hx => bne_iff_ne.2 (hrest x hx)
  rw [removeEntry, if_pos hqueued, hfilter]

/-- The first check that fails answers, and nothing changes (R91). -/
theorem cancelQueued_refused {st : Status}
    (h : (if s.record.mode ≠ .service then some Status.wrongMode
       else if 511 < slot then some .badValue
       else if s.meter? slot = none then some .unknownMeter
       else if ∀ e ∈ s.record.queue, e.slot ≠ slot then some .notQueued
       else none) = some st) : cancelQueued slot s = (s, refuse st) := by
  refine refused_ite not_serves (fun _ => refused_ite not_meterSlotOk fun _ => refused_ite Option.isNone_iff_eq_none fun _ h => ?_) h
  by_cases hnone : ∀ e ∈ s.record.queue, e.slot ≠ slot
  · rw [if_pos hnone] at h
    rw [findEntry_eq_none hnone, Option.some.inj h]
  · rw [if_neg hnone] at h
    cases h

/-- The checks of R91, passed: the entry leaves, and the queue is served where it stood at the head. -/
theorem cancelQueued_removes {front behind : List QueueEntry} {e : QueueEntry} (hmode : s.record.mode = .service) (hslot : slot < 512)
    (hm : (s.meter? slot).isSome) (hq : s.record.queue = front ++ e :: behind) (he : e.slot = slot)
    (hrest : ∀ x ∈ front ++ behind, x.slot ≠ slot) :
    cancelQueued slot s =
      (if front = [] then (serveQueue (setQueueAfterRemoval (front ++ behind) s)).state else setQueueAfterRemoval (front ++ behind) s,
       done (.entryRemoved front.length e)) := by
  have hfind : findEntry slot 0 s.record.queue = some (front.length, e) := by
    rw [hq, findEntry_append he fun x hx => hrest x (List.mem_append_left _ hx), Nat.zero_add]
  unfold cancelQueued
  rw [if_neg (mt not_serves.1 (not_not.2 hmode)), if_neg (by rw [not_meterSlotOk]; omega), if_neg (by simp [Option.isSome_iff_ne_none.1 hm]),
    hfind]
  dsimp only
  rw [removeEntry_append hq he hrest]
  simp only [List.length_eq_zero_iff]

/-! ## READ QUEUE (R92, R93) -/

theorem numbered_eq_zipIdx {α : Type} (i : Nat) (l : List α) : numbered i l = (l.zipIdx i).map Prod.swap := by
  induction l generalizing i with
  | nil => rfl
  | cons a l ih => rw [numbered, ih, List.zipIdx_cons, List.map_cons]; rfl

theorem page_eq {α : Type} (start : Nat) (l : List α) : page start l = ((l.zipIdx.drop start).take 8).map Prod.swap := by
  rw [page, numbered_eq_zipIdx, ← List.map_drop, ← List.map_take]
  rfl

theorem depthOf_eq (s : State) : depthOf s = if s.inForce.depth = .peak then s.record.queuePeak else s.record.queue.length := by
  unfold depthOf
  cases s.inForce.depth <;> rfl

theorem not_queuePlace : (!decide (start < Config.queuePlaces)) = true ↔ 31 < start := by
  rw [Bool.not_eq_true', decide_eq_false_iff_not, Nat.not_lt]
  rfl

/-- Settles O38: each check of the two blocks is the check of the statement in the same place, and the entry found is the one removed. -/
theorem queueCancelledAndRead : Obligations.QueueCancelledAndRead := by
  intro tag s
  refine ⟨fun slot => ⟨fun st h => answers_of_block rfl rfl (cancelQueued_refused h), ?_⟩, fun start => answers_of_block rfl rfl ?_⟩
  · intro front behind e hmode hslot hm hq he hrest left hleft
    refine answers_of_block rfl rfl ((cancelQueued_removes hmode hslot hm hq he hrest).trans ?_)
    rw [setQueueAfterRemoval_eq, hleft]
  · refine ite_congr (propext not_unlocked) (fun _ => rfl) fun _ => ite_congr (propext not_queuePlace) (fun _ => rfl) fun _ => ?_
    rw [depthOf_eq, page_eq, List.map_map]
    rfl

end Sys2Proof.Machine
end

section
/-!
SUPPORT. The canonical form, the laws of the pool and of the loaded totals, and the ranges (O55), each apart from the others.
`LawsKept b s` says that a block which has reached s from b has kept each of these laws: one lemma per update of the state.
-/

namespace Sys2Proof.Machine

variable {b s t : State}

/-- The canonical form of the tables of record memory; the rings are in `RingsCanonical`. -/
abbrev RecordCanonical (s : State) : Prop :=
  Table.Sorted s.record.meters ∧ Table.Sorted s.record.branches ∧ Table.Sorted s.record.denominations
    ∧ ∀ e ∈ s.record.branches, e.2.Canonical

/-- Each law of O55 on its own, kept from b to s. -/
structure LawsKept (b s : State) : Prop where
  outside : OutsideKept b s
  canonical : RecordCanonical b → RecordCanonical s
  pool : PoolLaw b → PoolLaw s
  loaded : LoadedLaw b → LoadedLaw s
  ranges : RecordsInRange b ∧ SettingsInRange b → RecordsInRange s

theorem LawsKept.refl (s : State) : LawsKept s s :=
  ⟨.refl s, id, id, id, fun h => h.1⟩

theorem LawsKept.trans (h : LawsKept b s) (k : LawsKept s t) : LawsKept b t where
  outside := h.outside.trans k.outside
  canonical := k.canonical ∘ h.canonical
  pool := k.pool ∘ h.pool
  loaded := k.loaded ∘ h.loaded
  ranges hb := k.ranges ⟨h.ranges hb, h.outside.settings hb.2⟩

/-! ## What the laws read -/

/-- The laws depend on what a block leaves outside record memory and on the tables, the queue, the pool and the transfers; the device
causes, the mode, the day and the transfer numbers are in none of them. -/
theorem LawsKept.congr (h : LawsKept b s) (ho : OutsideKept s t) (hm : t.record.meters = s.record.meters)
    (hb : t.record.branches = s.record.branches) (hd : t.record.denominations = s.record.denominations)
    (hp : t.record.pool = s.record.pool) (hq : t.record.queue = s.record.queue) (hk : t.record.queuePeak = s.record.queuePeak)
    (ht : t.record.transfers = s.record.transfers) : LawsKept b t := by
  refine h.trans ⟨ho, fun hl => ?_, fun hl => ?_, fun hl => ?_, fun hl => ?_⟩
  · simpa only [RecordCanonical, hm, hb, hd] using hl
  · simpa only [PoolLaw, hp] using hl
  · simpa only [LoadedLaw, hm] using hl
  · simpa only [RecordsInRange, hm, hb, hd, hq, hk, ht] using hl.1

theorem LawsKept.raiseAttention (h : LawsKept b s) : LawsKept b (raiseAttention s) :=
  h.congr (OutsideKept.refl s).raiseAttention (by simp) (by simp) (by simp) (by simp) (by simp) (by simp) (by simp)

theorem LawsKept.raiseIf {c : Prop} [Decidable c] (h : LawsKept b s) :
    LawsKept b (if c then Machine.raiseAttention s else s) := by
  split
  · exact h.raiseAttention
  · exact h

theorem LawsKept.withDeviceCauses (h : LawsKept b s) (c : DeviceCauses) : LawsKept b { s with record.deviceCauses := c } :=
  h.congr ((OutsideKept.refl s).withRecord _) rfl rfl rfl rfl rfl rfl rfl

theorem LawsKept.setDeviceCause (h : LawsKept b s) (c : DeviceCause) : LawsKept b (setDeviceCause c s) :=
  (h.withDeviceCauses _).raiseAttention

theorem LawsKept.withMode (h : LawsKept b s) (m : Mode) : LawsKept b (s.withMode m) :=
  h.congr ((OutsideKept.refl s).withRecord _) rfl rfl rfl rfl rfl rfl rfl

/-! ## The pool (R102) -/

theorem LawsKept.withPool (h : LawsKept b s) {p : Pool} (hp : PoolLaw s → p.balance = 0 ∨ p.arrears = 0) :
    LawsKept b (s.withPool p) :=
  h.trans ⟨(OutsideKept.refl s).withRecord _, id, hp, id, fun hr => hr.1⟩

/-- A change of the pool that raises neither P nor V. -/
theorem LawsKept.lowerPool (h : LawsKept b s) {p : Pool} (hb : p.balance ≤ s.record.pool.balance)
    (ha : p.arrears ≤ s.record.pool.arrears) : LawsKept b (s.withPool p) :=
  h.withPool fun hp => by simp only [PoolLaw] at hp; omega

theorem LawsKept.debitPool (h : LawsKept b s) (n : Nat) : LawsKept b (debitPool n s) :=
  h.lowerPool (Nat.sub_le _ _) (Nat.le_refl _)

theorem LawsKept.reserveFunds (h : LawsKept b s) (n : Nat) : LawsKept b (reserveFunds n s) :=
  h.lowerPool (Nat.sub_le _ _) (Nat.le_refl _)

theorem LawsKept.addFranked (h : LawsKept b s) (n : Nat) : LawsKept b (addFranked n s) :=
  h.lowerPool (Nat.le_refl _) (Nat.le_refl _)

theorem LawsKept.addWrittenOff (h : LawsKept b s) (n : Int) : LawsKept b (addWrittenOff n s) :=
  h.lowerPool (Nat.le_refl _) (Nat.le_refl _)

theorem LawsKept.addIssued (h : LawsKept b s) (n : Nat) : LawsKept b (addIssued n s) :=
  h.lowerPool (Nat.le_refl _) (Nat.le_refl _)

theorem LawsKept.addDeposits (h : LawsKept b s) (n : Nat) : LawsKept b (addDeposits n s) :=
  h.lowerPool (Nat.le_refl _) (Nat.le_refl _)

theorem LawsKept.refundPool (h : LawsKept b s) (n : Nat) : LawsKept b (refundPool n s) :=
  h.lowerPool (Nat.sub_le _ _) (Nat.le_refl _)

theorem LawsKept.unreserve (h : LawsKept b s) (g : GrantOut) : LawsKept b (unreserve g s) := by
  unfold Machine.unreserve
  cases g.kind with
  | limit => exact h
  | refill => exact h.lowerPool (Nat.le_refl _) (Nat.le_refl _)

/-- A credit pays the arrears before it raises P (R99). -/
theorem LawsKept.creditPool (h : LawsKept b s) (n : Nat) : LawsKept b (creditPool n s) := by
  have hp : LawsKept b (s.withPool
      { s.record.pool with
        balance := s.record.pool.balance + (n - min s.record.pool.arrears n)
        arrears := s.record.pool.arrears - min s.record.pool.arrears n }) :=
    h.withPool fun hp => by simp only [PoolLaw] at hp ⊢; omega
  unfold Machine.creditPool
  dsimp only
  split
  · exact hp.withDeviceCauses _
  · exact hp

/-- A charge takes what P holds before it raises the arrears (R98). -/
theorem LawsKept.chargeUsage (h : LawsKept b s) (n : Nat) : LawsKept b (chargeUsage n s) := by
  have hp : LawsKept b (s.withPool
      { s.record.pool with
        balance := s.record.pool.balance - chargePaid n s
        arrears := s.record.pool.arrears + (n - chargePaid n s) }) :=
    h.withPool fun hp => by simp only [PoolLaw, chargePaid] at hp ⊢; omega
  unfold Machine.chargeUsage
  dsimp only
  split
  · exact hp.setDeviceCause _
  · exact hp

/-! ## The branches -/

theorem LawsKept.withBranches (h : LawsKept b s) {bs : Table Branch}
    (hs : Table.Sorted s.record.branches → Table.Sorted bs)
    (hc : (∀ e ∈ s.record.branches, e.2.Canonical) → ∀ e ∈ bs, e.2.Canonical)
    (hr : RecordsInRange s → ∀ e ∈ bs, branchSlotOk e.1 ∧ e.2.InRange) : LawsKept b { s with record.branches := bs } := by
  refine h.trans ⟨(OutsideKept.refl s).withRecord _, fun hl => ?_, id, id, fun hl => ?_⟩
  · obtain ⟨hms, hbs, hds, hbc⟩ := hl
    exact ⟨hms, hs hbs, hds, hc hbc⟩
  · obtain ⟨hm, -, hrest⟩ := hl.1
    exact ⟨hm, hr hl.1, hrest⟩

/-- A slot filled with a branch record. -/
theorem LawsKept.fillBranch (h : LawsKept b s) {slot : Nat} {x : Branch} (hs : RecordsInRange s → branchSlotOk slot = true)
    (hc : (∀ e ∈ s.record.branches, e.2.Canonical) → x.Canonical) (hr : RecordsInRange s → x.InRange) :
    LawsKept b (s.putBranch slot x) := by
  refine h.withBranches (fun hs => Table.sorted_put hs _ _) (fun hb e he => ?_) fun hl e he => ?_
  · rcases Table.mem_put he with rfl | he
    · exact hc hb
    · exact hb e he
  · rcases Table.mem_put he with rfl | he
    · exact ⟨hs hl, hr hl⟩
    · obtain ⟨-, hb, -⟩ := hl
      exact hb e he

/-- The record of a branch changed. -/
theorem LawsKept.putBranch (h : LawsKept b s) {slot : Nat} {x x' : Branch} (hx : s.branch? slot = some x)
    (hc : x.Canonical → x'.Canonical) (hr : RecordsInRange s → x.InRange → x'.InRange) : LawsKept b (s.putBranch slot x') := by
  have hmem := Table.mem_of_find hx
  refine h.fillBranch (fun hl => ?_) (fun hb => hc (hb _ hmem)) fun hl => ?_
  · obtain ⟨-, hb, -⟩ := hl
    exact (hb _ hmem).1
  · have ⟨_, hb, _⟩ := hl
    exact hr hl (hb _ hmem).2

theorem LawsKept.mapBranches (h : LawsKept b s) {f : Nat → Branch → Branch} (hc : ∀ i x, Branch.Canonical x → (f i x).Canonical)
    (hr : ∀ i x, Branch.InRange x → (f i x).InRange) :
    LawsKept b { s with record.branches := Table.mapRecords f s.record.branches } := by
  refine h.withBranches (fun hs => Table.sorted_mapRecords f hs) (fun hb e he => ?_) fun hl e he => ?_
  · obtain ⟨x, hx, hex⟩ := Table.mem_mapRecords he
    rw [hex]
    exact hc _ _ (hb _ hx)
  · obtain ⟨x, hx, hex⟩ := Table.mem_mapRecords he
    obtain ⟨-, hb, -⟩ := hl
    rw [hex]
    exact ⟨(hb _ hx).1, hr _ _ (hb _ hx).2⟩

theorem LawsKept.setBranchCause (h : LawsKept b s) (slot : Nat) (c : BranchCause) : LawsKept b (setBranchCause slot c s) := by
  rcases setBranchCause_cases slot c s with ⟨-, he⟩ | ⟨x, hx, he⟩
  · rw [he]; exact h
  · rw [he]
    exact (h.putBranch (x' := { x with causes := x.causes.with c }) hx id fun _ => id).raiseAttention

/-- The spent total of a branch changed within its range. -/
theorem LawsKept.withSpent (h : LawsKept b s) {slot : Nat} {x : Branch} (hx : s.branch? slot = some x) {w : Nat}
    (hw : x.spent ≤ Config.totalMax → w ≤ Config.totalMax) : LawsKept b (s.putBranch slot { x with spent := w }) :=
  h.putBranch (x' := { x with spent := w }) hx id fun _ ⟨r1, r2, r3, r4, r5, r6⟩ => ⟨r1, r2, r3, r4, hw r5, r6⟩

theorem LawsKept.countSpent (h : LawsKept b s) (branch amount : Nat) : LawsKept b (countSpent branch amount s) := by
  unfold Machine.countSpent addSpent
  split
  · split
    · exact h
    · rename_i x hx
      have hw := h.withSpent hx fun _ => Nat.min_le_right (x.spent + amount) Config.totalMax
      dsimp only
      split
      · exact hw.setBranchCause _ _
      · exact hw
  · exact h

theorem LawsKept.reduceSpent (h : LawsKept b s) (g : GrantOut) : LawsKept b (reduceSpent g s) := by
  unfold Machine.reduceSpent
  split
  · exact h
  · rename_i x hx
    split
    · exact h.withSpent hx fun hw => Nat.le_trans (Nat.sub_le _ _) hw
    · exact h

/-! ## The meters -/

/-- A change of a meter record that keeps its loaded total (R3) and its ranges (R1). -/
structure Meter.Keeps (m m' : Meter) : Prop where
  loaded : m.loaded = m.ascending + m.credit → m'.loaded = m'.ascending + m'.credit
  range : m.InRange → m'.InRange

theorem Meter.Keeps.refl (m : Meter) : m.Keeps m :=
  ⟨id, id⟩

theorem Meter.Keeps.trans {m m' m'' : Meter} (h : m.Keeps m') (k : m'.Keeps m'') : m.Keeps m'' :=
  ⟨k.loaded ∘ h.loaded, k.range ∘ h.range⟩

/-- An evaluation changes the flag and the causes, which are in no law (R21). -/
theorem Meter.Keeps.evaluated {m m' : Meter} (h : m.Keeps m') : m.Keeps m'.evaluated :=
  ⟨h.loaded, h.range⟩

theorem LawsKept.withMeters (h : LawsKept b s) {ms : Table Meter} (hs : Table.Sorted s.record.meters → Table.Sorted ms)
    (hl : LoadedLaw s → ∀ e ∈ ms, e.2.loaded = e.2.ascending + e.2.credit)
    (hr : RecordsInRange s ∧ SettingsInRange s → ∀ e ∈ ms, meterSlotOk e.1 ∧ e.2.InRange) :
    LawsKept b { s with record.meters := ms } := by
  refine h.trans ⟨(OutsideKept.refl s).withRecord _, fun hc => ?_, id, hl, fun hb => ?_⟩
  · obtain ⟨hms, hrest⟩ := hc
    exact ⟨hs hms, hrest⟩
  · obtain ⟨-, hrest⟩ := hb.1
    exact ⟨hr hb, hrest⟩

/-- A slot filled with a meter record. -/
theorem LawsKept.fillMeter (h : LawsKept b s) {slot : Nat} {m : Meter} (hl : LoadedLaw s → m.loaded = m.ascending + m.credit)
    (hr : RecordsInRange s ∧ SettingsInRange s → meterSlotOk slot = true ∧ m.InRange) : LawsKept b (s.putMeter slot m) := by
  refine h.withMeters (fun hs => Table.sorted_put hs _ _) (fun hb e he => ?_) fun hb e he => ?_
  · rcases Table.mem_put he with rfl | he
    · exact hl hb
    · exact hb e he
  · rcases Table.mem_put he with rfl | he
    · exact hr hb
    · obtain ⟨hm, -⟩ := hb.1
      exact hm e he

/-- The record of a meter changed. -/
theorem LawsKept.putMeter (h : LawsKept b s) {slot : Nat} {m m' : Meter} (hm : s.meter? slot = some m) (hk : m.Keeps m') :
    LawsKept b (s.putMeter slot m') := by
  have hmem := Table.mem_of_find hm
  refine h.fillMeter (fun hl => hk.loaded (hl _ hmem)) fun hr => ?_
  obtain ⟨hms, -⟩ := hr.1
  exact ⟨(hms _ hmem).1, hk.range (hms _ hmem).2⟩

theorem LawsKept.dropMeter (h : LawsKept b s) (slot : Nat) : LawsKept b (s.dropMeter slot) := by
  refine h.withMeters (fun hs => Table.sorted_erase hs _) (fun hl e he => hl e (Table.mem_erase he).1) fun hr e he => ?_
  obtain ⟨hm, -⟩ := hr.1
  exact hm e (Table.mem_erase he).1

theorem LawsKept.mapMeters (h : LawsKept b s) {f : Nat → Meter → Meter} (hf : ∀ i (m : Meter), m.Keeps (f i m)) :
    LawsKept b { s with record.meters := Table.mapRecords f s.record.meters } := by
  refine h.withMeters (fun hs => Table.sorted_mapRecords f hs) (fun hl e he => ?_) fun hr e he => ?_
  · obtain ⟨m, hm, hem⟩ := Table.mem_mapRecords he
    rw [hem]
    exact (hf _ m).loaded (hl _ hm)
  · obtain ⟨m, hm, hem⟩ := Table.mem_mapRecords he
    obtain ⟨hms, -⟩ := hr.1
    rw [hem]
    exact ⟨(hms _ hm).1, (hf _ m).range (hms _ hm).2⟩

theorem LawsKept.setMeterCause (h : LawsKept b s) (slot : Nat) (c : MeterCause) : LawsKept b (setMeterCause slot c s) := by
  rcases setMeterCause_cases slot c s with ⟨-, he⟩ | ⟨m, hm, he⟩
  · rw [he]; exact h
  · rw [he]
    exact (h.putMeter (m' := { m with causes := m.causes.with c }) hm ⟨id, id⟩).raiseAttention

theorem LawsKept.putEvaluated (h : LawsKept b s) {slot : Nat} {m m' : Meter} (hm : s.meter? slot = some m) (hk : m.Keeps m') :
    LawsKept b (putEvaluated slot m' s) :=
  (h.putMeter hm hk.evaluated).raiseIf

/-! ## The queue (R80, R93) -/

/-- Another list of entries, with another peak figure. -/
theorem LawsKept.withQueue (h : LawsKept b s) {q : List QueueEntry} {peak : Nat}
    (hr : RecordsInRange s → (∀ e ∈ q, meterSlotOk e.slot ∧ amountOk e.amount) ∧ q.length ≤ peak ∧ peak ≤ Config.queuePlaces) :
    LawsKept b { s with record.queue := q, record.queuePeak := peak } := by
  refine h.trans ⟨(OutsideKept.refl s).withRecord _, id, id, id, fun hl => ?_⟩
  obtain ⟨hq, hlen, hpeak⟩ := hr hl.1
  obtain ⟨hm, hb, hd, -, -, -, ht⟩ := hl.1
  exact ⟨hm, hb, hd, hq, hlen, hpeak, ht⟩

/-- The queue with some of its entries gone. -/
theorem LawsKept.setQueueAfterRemoval (h : LawsKept b s) {rest : List QueueEntry} (hr : rest.Sublist s.record.queue) :
    LawsKept b (setQueueAfterRemoval rest s) := by
  have hq : LawsKept b { s with record.queue := rest } := by
    refine h.withQueue (q := rest) (peak := s.record.queuePeak) fun hl => ?_
    obtain ⟨-, -, -, hq, hlen, hpeak, -⟩ := hl
    exact ⟨fun e he => hq e (hr.subset he), Nat.le_trans hr.length_le hlen, hpeak⟩
  unfold Machine.setQueueAfterRemoval
  dsimp only
  split
  · exact hq.withDeviceCauses _
  · exact hq

/-- An entry of a meter joins a queue that has room (R82, R93). -/
theorem LawsKept.enqueue (h : LawsKept b s) (e : QueueEntry) {m : Meter} (hm : s.meter? e.slot = some m)
    (ha : amountOk e.amount = true) (hr : s.record.queue.length < Config.queuePlaces) :
    LawsKept b
      { s with
        record.queue := s.record.queue ++ [e]
        record.queuePeak := max s.record.queuePeak (s.record.queue ++ [e]).length } := by
  refine h.withQueue fun hl => ?_
  obtain ⟨hms, -, -, hq, hlen, hpeak, -⟩ := hl
  refine ⟨fun d hd => ?_, Nat.le_max_right _ _, Nat.max_le.2 ⟨hpeak, by simpa using hr⟩⟩
  rcases List.mem_append.1 hd with hd | hd
  · exact hq d hd
  · rw [List.mem_singleton.1 hd]
    exact ⟨(hms _ (Table.mem_of_find hm)).1, ha⟩

theorem LawsKept.joinQueue (h : LawsKept b s) {slot amount : Nat} {m : Meter} (origin : Origin) (hm : s.meter? slot = some m)
    (ha : amountOk amount = true) (hr : s.record.queue.length < Config.queuePlaces) :
    LawsKept b (joinQueue slot amount origin s) := by
  have hj := h.enqueue { slot := slot, amount := amount, origin := origin, day := s.record.day } hm ha hr
  unfold Machine.joinQueue
  dsimp only
  split
  · exact hj.setDeviceCause _
  · exact hj

theorem LawsKept.removeEntry (h : LawsKept b s) (slot : Nat) : LawsKept b (removeEntry slot s) := by
  unfold Machine.removeEntry
  split
  · exact h.setQueueAfterRemoval List.filter_sublist
  · exact h

theorem LawsKept.emptySlot (h : LawsKept b s) (slot : Nat) : LawsKept b (emptySlot slot s) :=
  (h.dropMeter slot).removeEntry slot

/-! ## Denominations and transfers -/

theorem LawsKept.withDenominations (h : LawsKept b s) {ds : Table Denomination}
    (hs : Table.Sorted s.record.denominations → Table.Sorted ds)
    (hr : RecordsInRange s → ∀ e ∈ ds, denominationSlotOk e.1 ∧ within 1 Config.faceMax e.2.face) :
    LawsKept b { s with record.denominations := ds } := by
  refine h.trans ⟨(OutsideKept.refl s).withRecord _, fun hc => ?_, id, id, fun hl => ?_⟩
  · obtain ⟨hms, hbs, hds, hbc⟩ := hc
    exact ⟨hms, hbs, hs hds, hbc⟩
  · obtain ⟨hm, hb, -, hrest⟩ := hl.1
    exact ⟨hm, hb, hr hl.1, hrest⟩

/-- Another list of transfers, the next number with it. -/
theorem LawsKept.withTransfers (h : LawsKept b s) {l : List Transfer} {next : Nat}
    (hr : RecordsInRange s → ∀ x ∈ l, denominationSlotOk x.denomination ∧ stampsOk x.count ∧ x.age ≤ Config.ageMax) :
    LawsKept b { s with record.transfers := l, record.nextTransfer := next } := by
  refine h.trans ⟨(OutsideKept.refl s).withRecord _, id, id, id, fun hl => ?_⟩
  obtain ⟨hm, hb, hd, hq, hlen, hpeak, -⟩ := hl.1
  exact ⟨hm, hb, hd, hq, hlen, hpeak, hr hl.1⟩

/-! ## Empty tables -/

/-- Record memory whose tables, pool, queue and transfers are empty. -/
theorem LawsKept.blank (h : LawsKept b s) (marker : Bool) (mode : Mode) (causes : DeviceCauses) :
    LawsKept b { s with record := { retentionMarker := marker, mode := mode, deviceCauses := causes } } :=
  h.trans ⟨(OutsideKept.refl s).withRecord _, fun _ => ⟨.nil, .nil, .nil, by simp⟩, fun _ => .inl rfl,
    fun _ => by simp [LoadedLaw], fun _ => by simp [RecordsInRange]⟩

end Sys2Proof.Machine
end

section
/-! SUPPORT. The laws of O55 under the Grant Unit's operations (issue, settlement, void, late settlement) and under serving. -/

namespace Sys2Proof.Machine

variable {b s t : State}

/-! ## Issue, settlement, void, late settlement -/

theorem Meter.withGrant_keeps (m : Meter) (kind : GrantKind) (amount : Nat) (counted : Bool) (cycle : Byte) (timeout : Nat) :
    m.Keeps (m.withGrant kind amount counted cycle timeout) :=
  ⟨id, fun ⟨r1, r2, r3, r4, r5, r6, r7, r8, r9, r10, r11⟩ => ⟨r1, r2, r3, r4, r5, r6, r7, r8, r9, numberOk_nextNumber r10, r11⟩⟩

/-- A load that the meter holds raises its credit and its loaded total by the same amount (R69, R75). -/
theorem Meter.loadedWith_keeps {m : Meter} {n : Nat} (hn : m.holds n = true) (g : Option GrantOut) (v : Option Voided) :
    m.Keeps { m.loadedWith n with grantOut := g, lastVoided := v } where
  loaded h := by simp only [Meter.loadedWith]; omega
  range h := by
    obtain ⟨r1, r2, r3, r4, r5, r6, r7, -, r9⟩ := h
    exact ⟨r1, r2, r3, r4, r5, r6, r7, show registerOk (m.credit + n) = true by simpa [registerOk, Meter.holds] using hn, r9⟩

theorem Meter.voided_keeps (m : Meter) (g : GrantOut) : m.Keeps (m.voided g) :=
  ⟨id, fun ⟨r1, r2, r3, r4, r5, r6, r7, r8, r9, r10, r11, r12, r13, r14, _⟩ =>
    ⟨r1, r2, r3, r4, r5, r6, r7, r8, r9, r10, r11, r12, r13, r14, countUp_le _ _⟩⟩

theorem Meter.mismatched_keeps (m : Meter) : m.Keeps { m with mismatches := countUp m.mismatches 1 } :=
  ⟨id, fun ⟨r1, r2, r3, r4, r5, r6, r7, r8, r9, r10, r11, r12, _, r14⟩ =>
    ⟨r1, r2, r3, r4, r5, r6, r7, r8, r9, r10, r11, r12, countUp_le _ _, r14⟩⟩

theorem Meter.refusedWith_keeps (m : Meter) (st : Status) : m.Keeps (m.refusedWith st) := by
  unfold Meter.refusedWith
  split
  · exact .refl m
  · exact ⟨id, fun ⟨r1, r2, r3, r4, r5, r6, r7, r8, r9, r10, _, r12⟩ =>
      ⟨r1, r2, r3, r4, r5, r6, r7, r8, r9, r10, countUp_le _ _, r12⟩⟩

theorem LawsKept.issueGrant (h : LawsKept b s) {slot : Nat} {m : Meter} (hm : s.meter? slot = some m) (kind : GrantKind)
    (amount : Nat) : LawsKept b (issueGrant slot m kind amount s) := by
  cases kind with
  | limit => exact h.putMeter hm (m.withGrant_keeps ..)
  | refill =>
    refine ((h.reserveFunds amount).countSpent m.branch amount).putMeter (m := m) ?_ (m.withGrant_keeps ..)
    rw [meter?_congr (countSpent_meters ..)]; exact hm

theorem LawsKept.settleGrant (h : LawsKept b s) {slot : Nat} {m : Meter} (hm : s.meter? slot = some m) {g : GrantOut}
    (hn : m.holds g.amount = true) : LawsKept b (settleGrant slot m g s) := by
  refine (h.unreserve g).putEvaluated (m := m) ?_ (Meter.loadedWith_keeps hn none m.lastVoided)
  rw [meter?_congr (unreserve_meters ..)]; exact hm

theorem LawsKept.voidGrant (h : LawsKept b s) {slot : Nat} {m : Meter} (hm : s.meter? slot = some m) (g : GrantOut) :
    LawsKept b (voidGrant slot m g s) := by
  refine (((h.unreserve g).reduceSpent g).putMeter (m := m) ?_ (m.voided_keeps g)).raiseAttention
  rw [meter?_congr ((reduceSpent_meters ..).trans (unreserve_meters ..))]; exact hm

/-- A late settlement that is made (R75, R76). -/
theorem LawsKept.lateSettle (h : LawsKept b s) {slot : Nat} {m : Meter} (hm : s.meter? slot = some m) {v : Voided}
    (hn : m.holds v.amount = true) (ht : lateSettle slot m v s = some t) : LawsKept b t := by
  have hk := Meter.loadedWith_keeps hn m.grantOut none
  rcases lateSettle_some ht with ⟨-, rfl⟩ | ⟨-, -, rfl⟩
  · exact h.putEvaluated hm hk
  · refine ((h.debitPool v.amount).countSpent m.branch v.amount).putEvaluated (m := m) ?_ hk
    rw [meter?_congr (countSpent_meters ..)]; exact hm

/-- A meter enters DISPUTE (R41, R77). -/
theorem LawsKept.enterDispute (h : LawsKept b s) {slot : Nat} {m m' : Meter} (hm : s.meter? slot = some m) (hk : m.Keeps m') :
    LawsKept b (enterDispute slot m' s) :=
  (h.putMeter (m' := { m' with state := .dispute, causes := m'.causes.with .dispute }) hm ⟨hk.loaded, hk.range⟩).raiseAttention

/-- A refusal counted on a meter (R22, R52). -/
theorem LawsKept.refuseMeter (h : LawsKept b s) {slot : Nat} {m : Meter} (hm : s.meter? slot = some m) (st : Status) :
    LawsKept b (s.putMeter slot (m.refusedWith st)) :=
  h.putMeter hm (m.refusedWith_keeps st)

/-! ## Serving -/

/-- A round of serving (R86 to R89). -/
theorem LawsKept.serveRound (h : LawsKept b s) (hr : serveRound s = .issued t ∨ serveRound s = .removed t) : LawsKept b t := by
  have hdrop : ∀ {e : QueueEntry} {rest}, s.record.queue = e :: rest → LawsKept b (Machine.setQueueAfterRemoval rest s) :=
    fun hq => h.setQueueAfterRemoval (hq ▸ List.sublist_cons_self _ _)
  have hstay : ∀ {slot : Nat} {m : Meter} (rest : List QueueEntry), s.meter? slot = some m →
      (Machine.setQueueAfterRemoval rest s).meter? slot = some m :=
    fun rest hm => (meter?_congr (setQueueAfterRemoval_meters rest s) _).trans hm
  rcases serveRound_cases s with he | ⟨e, rest, m, g, reason, a, hq, hm, -, -, -, he⟩ |
      ⟨e, rest, m, st, f, hq, hm, -, -, he⟩ | ⟨e, rest, m, hq, hm, -, he⟩ | ⟨e, rest, hq, -, he⟩
  · simp [he] at hr
  · simp only [he, Round.issued.injEq, reduceCtorEq, or_false] at hr
    subst hr
    exact ((hdrop hq).issueGrant (hstay rest hm) .refill a).setMeterCause _ _
  · simp only [he, Round.removed.injEq, reduceCtorEq, false_or] at hr
    subst hr
    exact ((hdrop hq).refuseMeter (hstay rest hm) st).setMeterCause _ _
  · simp only [he, Round.removed.injEq, reduceCtorEq, false_or] at hr
    subst hr
    exact (hdrop hq).setMeterCause _ _
  · simp only [he, Round.removed.injEq, reduceCtorEq, false_or] at hr
    subst hr
    exact hdrop hq

theorem LawsKept.serveQueue (h : LawsKept b s) : LawsKept b (serveQueue s).state :=
  serveQueue_keeps (P := LawsKept b) (fun _ _ hs hr => hs.serveRound hr) s h

theorem LawsKept.creditAndServe (h : LawsKept b s) (n : Nat) : LawsKept b (creditAndServe n s).state := by
  unfold Machine.creditAndServe
  split
  · exact h
  · exact (h.creditPool n).serveQueue

/-- A void with its pool credit (R71). -/
theorem LawsKept.voidAndCredit (h : LawsKept b s) {slot : Nat} {m : Meter} (hm : s.meter? slot = some m) (g : GrantOut) :
    LawsKept b (voidAndCredit slot m g s) :=
  (h.voidGrant hm g).creditAndServe _

end Sys2Proof.Machine
end

section
/-! SUPPORT. The laws of O55 under the requests of the Account Table. -/

namespace Sys2Proof.Machine

variable {b s t : State}

/-! ## RETIRE METER -/

theorem LawsKept.retireVoid (h : LawsKept b s) {slot : Nat} {m : Meter} (hm : s.meter? slot = some m) :
    LawsKept b (retireVoid slot m s) := by
  unfold Machine.retireVoid
  cases m.grantOut with
  | none => exact h
  | some g => exact h.voidAndCredit hm g

theorem LawsKept.retire (h : LawsKept b s) {slot : Nat} {m : Meter} (hm : s.meter? slot = some m) :
    LawsKept b (retire slot m s) := by
  have he := ((h.retireVoid hm).addWrittenOff (prepaidShare m)).emptySlot slot
  unfold Machine.retire
  dsimp only
  split
  · exact he.serveQueue
  · exact he

theorem LawsKept.retireMeter (h : LawsKept b s) (slot : Nat) : LawsKept b (retireMeter slot s).1 := by
  unfold Machine.retireMeter
  refine ite_state (fun _ => h) fun _ => ite_state (fun _ => h) fun _ => ?_
  cases hm : s.meter? slot with
  | none => exact h
  | some m => exact ite_state (fun _ => h) fun _ => h.retire hm

/-! ## ENROL METER -/

theorem LawsKept.enrolMeter (h : LawsKept b s) (e : Enrolment) : LawsKept b (enrolMeter e s).1 := by
  unfold Machine.enrolMeter
  refine ite_state (fun _ => h) fun _ => ite_state (fun _ => h) fun hok => ite_state (fun _ => h) fun _ =>
    ite_state (fun _ => h) fun _ => ite_state (fun _ => h) fun _ => ?_
  split
  · exact h
  · rename_i slot kind sub cond hslot _ _ _
    refine ite_state (fun _ => h) fun _ => LawsKept.raiseIf ((h.debitPool _).fillMeter (fun _ => rfl) fun hr => ?_)
    obtain ⟨-, -, -, hrange⟩ := enrolled_lawful (by simpa using hok) hr.2 kind sub cond
    exact ⟨(lowestEmpty_meter hslot).1, hrange⟩
  · exact h

/-! ## SET METER -/

/-- The record of a SET METER whose changes are in range (R9). -/
theorem Meter.changed_keeps {c : MeterChanges} (hc : meterChangesOk c = true) (m : Meter) : m.Keeps (m.changed c) := by
  refine ⟨id, fun hr => ?_⟩
  obtain ⟨r1, r2, r3, r4, r5, r6, r7⟩ := hr
  simp only [meterChangesOk, Bool.and_eq_true] at hc
  obtain ⟨⟨⟨⟨⟨⟨⟨c1, -⟩, -⟩, -⟩, c2⟩, c3⟩, c4⟩, c5⟩ := hc
  exact ⟨getD_ifPresent c1 r1, r2, getD_ifPresent c2 r3, getD_ifPresent c3 r4, getD_ifPresent c4 r5, getD_ifPresent c5 r6, r7⟩

theorem LawsKept.putChanged (h : LawsKept b s) {slot : Nat} {m : Meter} (hm : s.meter? slot = some m) {c : MeterChanges}
    (hc : meterChangesOk c = true) : LawsKept b (putChanged slot m c s) := by
  unfold Machine.putChanged
  split
  · exact h.putEvaluated hm (m.changed_keeps hc)
  · exact h.putMeter hm (m.changed_keeps hc)

theorem LawsKept.applyChanges (h : LawsKept b s) {slot : Nat} {m : Meter} (hm : s.meter? slot = some m) {c : MeterChanges}
    (hc : meterChangesOk c = true) : LawsKept b (applyChanges slot m c s).1 := by
  unfold Machine.applyChanges
  refine ite_state (fun _ => h.putChanged hm hc) fun _ => ?_
  split
  · exact h
  · split
    · exact (h.putChanged hm hc).creditAndServe _
    · exact ite_state (fun _ => h) fun _ => (h.debitPool m.credit).putChanged hm hc

theorem LawsKept.setMeter (h : LawsKept b s) (slot : Nat) (c : MeterChanges) : LawsKept b (setMeter slot c s).1 := by
  unfold Machine.setMeter
  refine ite_state (fun _ => h) fun _ => ite_state (fun _ => h) fun _ => ?_
  cases hm : s.meter? slot with
  | none => exact h
  | some m =>
    exact ite_state (fun _ => h) fun hc => ite_state (fun _ => h) fun _ => ite_state (fun _ => h) fun _ =>
      h.applyChanges hm (by simpa using hc)

/-! ## REASSIGN METER, CLOSE METER, READ METER -/

theorem LawsKept.reassignMeter (h : LawsKept b s) (slot branch : Nat) : LawsKept b (reassignMeter slot branch s).1 := by
  unfold Machine.reassignMeter
  refine ite_state (fun _ => h) fun _ => ite_state (fun _ => h) fun _ => ?_
  cases hm : s.meter? slot with
  | none => exact h
  | some m =>
    refine ite_state (fun _ => h) fun hb => ite_state (fun _ => h) fun _ => ite_state (fun _ => h) fun _ => ?_
    exact h.putMeter (m' := { m with branch := branch }) hm ⟨id, fun ⟨r1, _, r3⟩ => ⟨r1, by simpa using hb, r3⟩⟩

theorem LawsKept.closeMeter (h : LawsKept b s) (slot : Nat) : LawsKept b (closeMeter slot s).1 := by
  unfold Machine.closeMeter
  refine ite_state (fun _ => h) fun _ => ite_state (fun _ => h) fun _ => ?_
  cases hm : s.meter? slot with
  | none => exact h
  | some m =>
    have hclose : LawsKept b
        (if m.grantOut.isSome = true then (s, refuse .grantOut)
          else (s.putMeter slot { m with state := .closing }, done .none)).1 :=
      ite_state (fun _ => h) fun _ => h.putMeter (m' := { m with state := .closing }) hm ⟨id, id⟩
    dsimp only
    split
    · exact h
    · exact h
    · exact hclose
    · exact hclose

/-- Taken counters start from 0 again (R24). -/
theorem Meter.countersTaken_keeps (m : Meter) : m.Keeps m.countersTaken :=
  ⟨id, fun ⟨r1, r2, r3, r4, r5, r6, r7, r8, r9, r10, _⟩ => ⟨r1, r2, r3, r4, r5, r6, r7, r8, r9, r10, Nat.zero_le _, Nat.zero_le _,
    Nat.zero_le _, Nat.zero_le _, Nat.zero_le _⟩⟩

theorem LawsKept.readMeter (h : LawsKept b s) (slot : Nat) (take : Coded Bool) : LawsKept b (readMeter slot take s).1 := by
  unfold Machine.readMeter
  refine ite_state (fun _ => h) fun _ => ite_state (fun _ => h) fun _ => ?_
  cases take with
  | unknown => exact h
  | value takes =>
    cases hm : s.meter? slot with
    | none => exact h
    | some m =>
      dsimp only
      split
      · exact h.putMeter hm m.countersTaken_keeps
      · exact h

end Sys2Proof.Machine
end

section
/-! SUPPORT. The laws of O55 under the requests of refills and limits, of the queue, and under METER REPORT and RESOLVE METER. -/

namespace Sys2Proof.Machine

variable {b s t : State}

/-! ## REFILL REQUEST and LIMIT REQUEST -/

theorem LawsKept.actOnRequest (h : LawsKept b s) {slot : Nat} {m : Meter} (hm : s.meter? slot = some m) (kind : GrantKind)
    (held : Bool) (carried amount : Nat) :
    LawsKept b (actOnRequest slot m kind (hostDecision s slot m kind held carried amount) s).1 := by
  unfold hostDecision
  cases requestRefusal s slot m kind held with
  | some st => exact h.refuseMeter hm st
  | none =>
    cases kind with
    | refill =>
      rcases decideRefill_cases s m .host carried amount with ⟨st, f, he⟩ | ⟨n, he, ha, hroom⟩ | ⟨a, r, he, -⟩ <;>
        simp only [decideHost, he]
      · exact h.refuseMeter hm st
      · exact h.joinQueue .host hm ha hroom
      · exact h.issueGrant hm .refill a
    | limit =>
      rcases decideLimit_cases s m amount with ⟨st, f, he⟩ | ⟨a, r, he⟩ <;> simp only [decideHost, he]
      · exact h.refuseMeter hm st
      · exact h.issueGrant hm .limit a

theorem LawsKept.grantRequest (h : LawsKept b s) (kind : GrantKind) (slot amount : Nat) :
    LawsKept b (grantRequest kind slot amount s).1 := by
  unfold Machine.grantRequest
  refine ite_state (fun _ => h) fun _ => ?_
  cases hm : s.meter? slot with
  | none => exact h
  | some m =>
    refine ite_state (fun _ => h) fun _ => ?_
    unfold answerRequest
    split
    · exact h
    · exact h.actOnRequest hm kind _ _ _

/-! ## LOAD CONFIRM, CANCEL GRANT and the load timer -/

theorem LawsKept.confirmOut (h : LawsKept b s) {slot : Nat} {m : Meter} (hm : s.meter? slot = some m) (g : GrantOut) (total : Nat) :
    LawsKept b (confirmOut slot m g total s).1 := by
  unfold Machine.confirmOut
  exact ite_state (fun hn => h.settleGrant hm hn.2) fun _ => ite_state (fun _ => h.voidAndCredit hm g) fun _ =>
    h.putMeter hm m.mismatched_keeps

theorem LawsKept.confirmVoided (h : LawsKept b s) {slot : Nat} {m : Meter} (hm : s.meter? slot = some m) (v : Voided)
    (total : Nat) : LawsKept b (confirmVoided slot m v total s).1 := by
  unfold Machine.confirmVoided
  refine ite_state (fun hn => ?_) fun _ => h
  cases hs : Machine.lateSettle slot m v s with
  | some s' => exact h.lateSettle hm hn.2 hs
  | none => exact h.enterDispute hm (.refl m)

theorem LawsKept.loadConfirm (h : LawsKept b s) (slot number total : Nat) : LawsKept b (loadConfirm slot number total s).1 := by
  unfold Machine.loadConfirm
  refine ite_state (fun _ => h) fun _ => ite_state (fun _ => h) fun _ => ?_
  cases hm : s.meter? slot with
  | none => exact h
  | some m =>
    dsimp only
    unfold confirm
    split
    · exact ite_state (fun _ => h.confirmOut hm _ total) fun _ => h
    · exact ite_state (fun _ => h.confirmVoided hm _ total) fun _ => h
    · exact h

theorem LawsKept.cancelGrant (h : LawsKept b s) (slot number : Nat) : LawsKept b (cancelGrant slot number s).1 := by
  unfold Machine.cancelGrant
  refine ite_state (fun _ => h) fun _ => ite_state (fun _ => h) fun _ => ?_
  cases hm : s.meter? slot with
  | none => exact h
  | some m =>
    dsimp only
    cases m.grantOut with
    | none => exact h
    | some g => exact ite_state (fun _ => h.voidAndCredit hm g) fun _ => h

theorem LawsKept.expire (h : LawsKept b s) (slot : Nat) : LawsKept b (expire slot s) := by
  unfold Machine.expire
  cases hm : s.meter? slot with
  | none => exact h
  | some m =>
    dsimp only
    cases m.grantOut with
    | none => exact h
    | some g =>
      dsimp only
      split
      · exact h.voidAndCredit hm g
      · exact h

/-! ## CANCEL QUEUED and READ QUEUE -/

theorem LawsKept.cancelQueued (h : LawsKept b s) (slot : Nat) : LawsKept b (cancelQueued slot s).1 := by
  unfold Machine.cancelQueued
  refine ite_state (fun _ => h) fun _ => ite_state (fun _ => h) fun _ => ite_state (fun _ => h) fun _ => ?_
  split
  · exact h
  · dsimp only
    split
    · exact (h.removeEntry slot).serveQueue
    · exact h.removeEntry slot

/-- A read starts the peak figure again at the entries that stand (R93). -/
theorem LawsKept.readQueue (h : LawsKept b s) (start : Nat) : LawsKept b (readQueue start s).1 := by
  unfold Machine.readQueue
  refine ite_state (fun _ => h) fun _ => ite_state (fun _ => h) fun _ =>
    h.withQueue (q := s.record.queue) (peak := s.record.queue.length) fun hl => ?_
  obtain ⟨-, -, -, hq, hlen, hpeak, -⟩ := hl
  exact ⟨hq, Nat.le_refl _, Nat.le_trans hlen hpeak⟩

/-! ## METER REPORT -/

theorem LawsKept.settleFor (h : LawsKept b s) {slot : Nat} {m : Meter} (hm : s.meter? slot = some m) {total : Nat}
    (ht : settleFor slot m s (settlementFor m total) = some t) : LawsKept b t := by
  rcases settlementFor_cases m total with he | ⟨g, he, -, hn⟩ | ⟨v, he, -, hn⟩ <;> rw [he] at ht <;>
    simp only [Machine.settleFor] at ht
  · cases ht; exact h
  · cases ht; exact h.settleGrant hm hn
  · exact h.lateSettle hm hn ht

/-- The record after an accepted report: the reported registers make up the loaded total (R36, R37). -/
theorem Meter.reported_keeps {m : Meter} (q : Half) {a d : Nat} (ha : ascendingOk a = true) (hd : registerOk d = true)
    (hp : stepThreePasses m a d = true) : m.Keeps (m.reported q a d) where
  loaded _ := (stepThreePasses_iff.1 hp).1.1.symm
  range := fun ⟨r1, r2, r3, r4, r5, r6, _, _, _, r10, r11, r12, r13, _, r15⟩ =>
    ⟨r1, r2, r3, r4, r5, r6, Nat.zero_le _, hd, ha, r10, r11, r12, r13, countUp_le _ _, r15⟩

theorem LawsKept.settleReport (h : LawsKept b s) {slot : Nat} {m : Meter} (hm : s.meter? slot = some m) (q : Half) {a d : Nat}
    (hk : m.Keeps (m.reported q a d)) : LawsKept b (settleReport slot m q a d s) := by
  have hf := (h.putEvaluated hm hk).addFranked (a - m.ascending)
  unfold Machine.settleReport chargeFor
  cases m.kind with
  | prepaid => exact hf
  | postpaid => exact hf.chargeUsage _

/-- The retirement of a closing meter, whose credit goes to the pool (R40). -/
theorem LawsKept.retireClosing (h : LawsKept b s) (slot credit : Nat) (kind : MeterKind) :
    LawsKept b (retireClosing slot credit kind s) := by
  have he := h.emptySlot slot
  have hserve : LawsKept b (if headIs s slot then (Machine.serveQueue (Machine.emptySlot slot s)).state
      else Machine.emptySlot slot s) := by
    split
    · exact he.serveQueue
    · exact he
  unfold Machine.retireClosing
  cases kind with
  | postpaid => exact hserve
  | prepaid =>
    dsimp only
    split
    · exact hserve
    · exact he.creditAndServe _

theorem LawsKept.topUp (h : LawsKept b s) (slot : Nat) : LawsKept b (topUp slot s).1 := by
  unfold Machine.topUp
  cases hm : s.meter? slot with
  | none => exact h
  | some m =>
    dsimp only
    split
    · unfold topUpDecision
      rcases decideRefill_cases s m .auto m.headroom.toNat (substituted (effective s m) m m.headroom.toNat) with
        ⟨st, f, he⟩ | ⟨n, he, ha, hroom⟩ | ⟨a, r, he, -⟩ <;> simp only [he, actOnTopUp]
      · unfold refusedTopUp
        dsimp only
        split
        · exact (h.refuseMeter hm st).setMeterCause _ _
        · exact (h.refuseMeter hm st).setMeterCause _ _
      · exact h.joinQueue .auto hm ha hroom
      · exact (h.issueGrant hm .refill a).setMeterCause _ _
    · exact h

theorem LawsKept.acceptReport (h : LawsKept b s) {slot : Nat} {m : Meter} (hm : s.meter? slot = some m) (first : SettledFirst)
    (q : Half) {a d : Nat} (hk : m.Keeps (m.reported q a d)) : LawsKept b (acceptReport slot m first q a d s).1 := by
  have hr := h.settleReport hm q hk
  unfold Machine.acceptReport
  dsimp only
  split
  · exact hr.retireClosing _ _ _
  · exact hr.topUp slot

theorem Meter.staled_keeps (m : Meter) : m.Keeps { m with stale := countUp m.stale 1 } :=
  ⟨id, fun ⟨r1, r2, r3, r4, r5, r6, r7, r8, r9, r10, r11, _, r13⟩ =>
    ⟨r1, r2, r3, r4, r5, r6, r7, r8, r9, r10, r11, countUp_le _ _, r13⟩⟩

theorem LawsKept.reportOn (h : LawsKept b s) {slot : Nat} {m : Meter} (hm : s.meter? slot = some m) (q : Half) {a d : Nat}
    (ha : ascendingOk a = true) (hd : registerOk d = true) : LawsKept b (reportOn slot m q a d s).1 := by
  unfold Machine.reportOn
  split
  · exact h.putMeter hm m.staled_keeps
  · refine ite_state (fun _ => h) fun _ => ?_
    dsimp only
    split
    · rename_i t ht
      have h' := h.settleFor hm ht
      unfold judgeReport
      cases hm' : t.meter? slot with
      | none => exact h'
      | some m' =>
        exact ite_state (fun hp => h'.acceptReport hm' _ q (Meter.reported_keeps q ha hd hp)) fun _ =>
          h'.enterDispute hm' m'.mismatched_keeps
    · exact h.enterDispute hm (.refl m)

theorem LawsKept.meterReport (h : LawsKept b s) (slot : Nat) (q : Half) (a d : Nat) :
    LawsKept b (meterReport slot q a d s).1 := by
  unfold Machine.meterReport
  refine ite_state (fun _ => h) fun _ => ite_state (fun _ => h) fun hok => ?_
  cases hm : s.meter? slot with
  | none => exact h
  | some m =>
    simp only [Bool.or_eq_true, Bool.not_eq_true', not_or, Bool.not_eq_false] at hok
    obtain ⟨⟨-, ha⟩, hd⟩ := hok
    exact ite_state (fun _ => h) fun _ => h.reportOn hm q ha hd

/-! ## RESOLVE METER -/

/-- The void of a resolution leaves a record in the slot (R44). -/
theorem LawsKept.resolveVoid (h : LawsKept b s) {slot : Nat} {m : Meter} (hm : s.meter? slot = some m) :
    LawsKept b (resolveVoid slot m s) ∧ ∃ m', (resolveVoid slot m s).meter? slot = some m' := by
  unfold Machine.resolveVoid
  cases m.grantOut with
  | none => exact ⟨h, m, hm⟩
  | some g => exact ⟨h.voidGrant hm g, m.voided g, by simp [State.meter?, voidGrant_meters]⟩

theorem Meter.resolved_keeps {a d : Nat} (ha : ascendingOk a = true) (hd : registerOk d = true) (m : Meter) :
    m.Keeps (m.resolved a d) :=
  ⟨fun _ => rfl, fun ⟨r1, r2, r3, r4, r5, r6, _, _, _, r10⟩ => ⟨r1, r2, r3, r4, r5, r6, Nat.zero_le _, hd, ha, r10⟩⟩

theorem LawsKept.resolveRecord (h : LawsKept b s) {slot : Nat} {m : Meter} (hm : s.meter? slot = some m) {a d : Nat}
    (ha : ascendingOk a = true) (hd : registerOk d = true) : LawsKept b (resolveRecord slot m a d s) := by
  obtain ⟨hv, m', hm'⟩ := h.resolveVoid hm
  unfold Machine.resolveRecord
  rw [show afterVoid slot m s = m' by simp [afterVoid, hm']]
  exact (hv.addFranked _).putEvaluated hm' (m'.resolved_keeps ha hd)

theorem LawsKept.resolve (h : LawsKept b s) {slot : Nat} {m : Meter} (hm : s.meter? slot = some m) {a d : Nat}
    (ha : ascendingOk a = true) (hd : registerOk d = true) : LawsKept b (resolve slot m a d s).1 := by
  have hr := h.resolveRecord hm ha hd
  show LawsKept b (resolveFunds m a d (Machine.resolveRecord slot m a d s))
  unfold resolveFunds
  split
  · exact hr.chargeUsage _
  · dsimp only
    split
    · exact hr.creditAndServe _
    · exact hr.debitPool _

theorem LawsKept.resolveMeter (h : LawsKept b s) (slot a d : Nat) : LawsKept b (resolveMeter slot a d s).1 := by
  unfold Machine.resolveMeter
  refine ite_state (fun _ => h) fun _ => ite_state (fun _ => h) fun hok => ?_
  cases hm : s.meter? slot with
  | none => exact h
  | some m =>
    simp only [Bool.or_eq_true, Bool.not_eq_true', not_or, Bool.not_eq_false] at hok
    obtain ⟨⟨-, ha⟩, hd⟩ := hok
    exact ite_state (fun _ => h) fun _ => ite_state (fun _ => h) fun _ => ite_state (fun _ => h) fun _ =>
      ite_state (fun _ => h) fun _ => h.resolve hm ha hd

end Sys2Proof.Machine
end

section
/-! SUPPORT. The laws of O55 under the requests of branches, denominations, stock, transfers and counts, DEPOSIT and REFUND. -/

namespace Sys2Proof.Machine

variable {b s t : State}

/-! ## Stamps on hand (R131) -/

theorem Branch.InRange.count_le {x : Branch} (h : x.InRange) (d : Nat) : x.count d ≤ Config.stampMax := by
  obtain ⟨-, -, -, -, -, -, hon, -, -⟩ := h
  unfold Branch.count Figures.at'
  cases hf : Table.find x.onHand d with
  | none => exact Nat.zero_le _
  | some n => exact figureOk_iff.1 (hon _ (Table.mem_of_find hf)).2

/-- A branch with another on-hand count of one denomination. -/
theorem LawsKept.recount (h : LawsKept b s) {slot : Nat} {x : Branch} (hx : s.branch? slot = some x) {d n : Nat}
    (hd : RecordsInRange s → denominationSlotOk d = true) (hn : x.InRange → n ≤ Config.stampMax) (c : BranchCauses) :
    LawsKept b (s.putBranch slot { x.withCount d n with causes := c }) := by
  refine h.putBranch hx (fun hc => ?_) fun hl hr => ?_
  · obtain ⟨c1, c2, c3⟩ := hc
    exact ⟨Figures.canonical_set c1 d n, c2, c3⟩
  · have hfig := figureOk_iff.2 (hn hr)
    obtain ⟨r1, r2, r3, r4, r5, r6, r7, r8, r9⟩ := hr
    exact ⟨r1, r2, r3, r4, r5, r6, StampsInRange.set r7 (hd hl) hfig, r8, r9⟩

theorem LawsKept.addStamps (h : LawsKept b s) {slot : Nat} {x : Branch} (hx : s.branch? slot = some x) {d n : Nat}
    (hd : RecordsInRange s → denominationSlotOk d = true) (hn : x.count d + n ≤ Config.stampMax) :
    LawsKept b (addStamps slot x d n s) :=
  h.recount hx hd (fun _ => hn) x.causes

theorem LawsKept.takeStamps (h : LawsKept b s) {slot : Nat} {x : Branch} (hx : s.branch? slot = some x) {d : Nat}
    (hd : denominationSlotOk d = true) (n : Nat) : LawsKept b (takeStamps slot x d n s) := by
  have hp := fun c => h.recount hx (n := x.count d - n) (fun _ => hd) (fun hr => Nat.le_trans (Nat.sub_le _ _) (hr.count_le d)) c
  unfold Machine.takeStamps
  dsimp only
  split
  · exact (hp _).raiseAttention
  · exact hp _

/-! ## The branches' requests -/

theorem LawsKept.openBranch (h : LawsKept b s) (code : Nat) : LawsKept b (openBranch code s).1 := by
  unfold Machine.openBranch
  refine ite_state (fun _ => h) fun _ => ite_state (fun _ => h) fun hc => ite_state (fun _ => h) fun _ => ?_
  split
  · exact h
  · rename_i slot hslot
    obtain ⟨-, hs, -⟩ := Table.lowestEmpty_spec hslot
    obtain ⟨hcan, hrange, -⟩ := openedBranch_lawful (code := code) (by simpa using hc)
    exact h.fillBranch (fun _ => by simpa [branchSlotOk] using hs) (fun _ => hcan) fun _ => hrange

/-- The record of a SET BRANCH whose changes are in range (R114). -/
theorem Branch.InRange.changed {x : Branch} (h : x.InRange) {c : BranchChanges} (hc : branchChangesOk c = true) :
    (x.changed c).InRange := by
  obtain ⟨r1, r2, r3, r4, r5, r6, r7, r8, r9⟩ := h
  simp only [branchChangesOk, Bool.and_eq_true] at hc
  obtain ⟨⟨hlen, hall⟩, hlevels⟩ := hc
  have hlev : ∀ e ∈ c.levels.getD [], denominationSlotOk e.1 ∧ figureOk e.2 := by
    cases hcl : c.levels with
    | none => simp
    | some l =>
      simp only [ifPresent, hcl, levelsOk, Bool.and_eq_true, List.all_eq_true] at hlevels
      exact hlevels.1.2
  exact ⟨r1, of_decide_eq_true (getD_ifPresent hlen (decide_eq_true r2)),
    of_decide_eq_true (getD_ifPresent hall (decide_eq_true r3)), r4, r5, r6, r7, StampsInRange.setLevels r8 hlev, r9⟩

theorem LawsKept.setBranch (h : LawsKept b s) (slot : Nat) (c : BranchChanges) : LawsKept b (setBranch slot c s).1 := by
  unfold Machine.setBranch
  refine ite_state (fun _ => h) fun _ => ite_state (fun _ => h) fun _ => ?_
  cases hx : s.branch? slot with
  | none => exact h
  | some x =>
    exact ite_state (fun _ => h) fun hok => h.putBranch hx (fun ⟨c1, c2, c3⟩ => ⟨c1, canonical_setLevels c2 _, c3⟩)
      fun _ hr => hr.changed (by simpa using hok)

theorem LawsKept.readBranch (h : LawsKept b s) (slot : Nat) (take : Coded Bool) : LawsKept b (readBranch slot take s).1 := by
  unfold Machine.readBranch
  refine ite_state (fun _ => h) fun _ => ite_state (fun _ => h) fun _ => ?_
  cases take with
  | unknown => exact h
  | value takes =>
    cases hx : s.branch? slot with
    | none => exact h
    | some x =>
      dsimp only
      split
      · exact h.putBranch (x' := { x with variance := 0 }) hx id fun _ ⟨r1, r2, r3, r4, r5, _, r7⟩ => ⟨r1, r2, r3, r4, r5, rfl, r7⟩
      · exact h

theorem LawsKept.cycleControl (h : LawsKept b s) {action : Branch → Option Branch} (ha : CycleAction action) (known : Bool)
    (slot : Nat) : LawsKept b (cycleControl action known slot s).1 := by
  unfold Machine.cycleControl
  refine ite_state (fun _ => h) fun _ => ite_state (fun _ => h) fun _ => ?_
  cases hx : s.branch? slot with
  | none => exact h
  | some x =>
    dsimp only
    cases hact : action x with
    | none => exact h
    | some x' =>
      obtain ⟨run, cycle, rfl | rfl⟩ := ha x x' hact
      · exact h.putBranch (x' := { x with run := run }) hx id fun _ => id
      · exact h.putBranch (x' := { x with run := run, dayCount := 0, spent := 0, cycle := cycle }) hx id
          fun _ ⟨r1, r2, r3, _, _, r6⟩ => ⟨r1, r2, r3, Nat.zero_le _, Nat.zero_le _, r6⟩

theorem LawsKept.dropBranch (h : LawsKept b s) (slot : Nat) :
    LawsKept b { s with record.branches := Table.erase s.record.branches slot } := by
  refine h.withBranches (fun hs => Table.sorted_erase hs _) (fun hc e he => hc e (Table.mem_erase he).1) fun hl e he => ?_
  obtain ⟨-, hb, -⟩ := hl
  exact hb e (Table.mem_erase he).1

theorem LawsKept.closeBranch (h : LawsKept b s) (slot : Nat) : LawsKept b (closeBranch slot s).1 := by
  unfold Machine.closeBranch
  refine ite_state (fun _ => h) fun _ => ite_state (fun _ => h) fun _ => ?_
  cases s.branch? slot with
  | none => exact h
  | some x =>
    dsimp only
    cases branchObstacle s slot x with
    | some o => exact h
    | none => exact (h.dropBranch slot).mapMeters (f := fun _ m => m.uncounted slot) fun _ _ => ⟨id, id⟩

/-! ## The denominations' requests -/

/-- A slot filled with a denomination of a face value in range. -/
theorem LawsKept.putDenomination (h : LawsKept b s) {slot : Nat} {x : Denomination}
    (hr : RecordsInRange s → denominationSlotOk slot ∧ within 1 Config.faceMax x.face) :
    LawsKept b { s with record.denominations := Table.put s.record.denominations slot x } := by
  refine h.withDenominations (fun hs => Table.sorted_put hs _ _) fun hl e he => ?_
  rcases Table.mem_put he with rfl | he
  · exact hr hl
  · obtain ⟨-, -, hd, -⟩ := hl
    exact hd e he

theorem LawsKept.defineDenomination (h : LawsKept b s) (face : Nat) : LawsKept b (defineDenomination face s).1 := by
  unfold Machine.defineDenomination
  refine ite_state (fun _ => h) fun _ => ite_state (fun _ => h) fun hf => ite_state (fun _ => h) fun _ => ?_
  split
  · exact h
  · rename_i slot hslot
    obtain ⟨-, hs, -⟩ := Table.lowestEmpty_spec hslot
    exact h.putDenomination fun _ => ⟨by simpa [denominationSlotOk] using hs, by simpa using hf⟩

theorem LawsKept.withdrawDenomination (h : LawsKept b s) (slot : Nat) : LawsKept b (withdrawDenomination slot s).1 := by
  unfold Machine.withdrawDenomination
  refine ite_state (fun _ => h) fun _ => ite_state (fun _ => h) fun _ => ?_
  cases hx : s.denomination? slot with
  | none => exact h
  | some x =>
    dsimp only
    split
    · exact h
    · refine h.putDenomination fun hl => ?_
      obtain ⟨-, -, hd, -⟩ := hl
      exact hd _ (Table.mem_of_find hx)

theorem LawsKept.retireDenomination (h : LawsKept b s) (slot : Nat) : LawsKept b (retireDenomination slot s).1 := by
  unfold Machine.retireDenomination
  refine ite_state (fun _ => h) fun _ => ite_state (fun _ => h) fun _ => ?_
  split
  · exact h
  split
  · exact h
  split
  · exact h
  refine h.withDenominations (fun hs => Table.sorted_erase hs _) fun hl e he => ?_
  obtain ⟨-, -, hd, -⟩ := hl
  exact hd e (Table.mem_erase he).1

/-! ## The movements of stock, DEPOSIT and REFUND -/

/-- What the checks 1 to 6 of R133 leave to a movement: a branch record, and a denomination slot in range. -/
theorem LawsKept.stockMovement (h : LawsKept b s) {admits : DenominationState → Bool}
    {act : Branch → Nat → Nat → State → State × Reply} {branch d n : Nat}
    (ha : ∀ x value, s.branch? branch = some x → denominationSlotOk d = true → LawsKept b (act x (x.count d) value s).1) :
    LawsKept b (stockMovement admits act branch d n s).1 := by
  unfold Machine.stockMovement
  refine ite_state (fun _ => h) fun _ => ite_state (fun _ => h) fun hok => ?_
  split
  · exact h
  · exact h
  · rename_i x y hx hy
    simp only [Bool.or_eq_true, Bool.not_eq_true', not_or, Bool.not_eq_false] at hok
    exact ite_state (fun _ => h) fun _ => ite_state (fun _ => h) fun _ => ha x _ hx hok.1.2

theorem LawsKept.purchaseStock (h : LawsKept b s) (branch d n : Nat) : LawsKept b (purchaseStock branch d n s).1 := by
  refine h.stockMovement fun x value hx hd => ?_
  unfold purchaseAct
  exact ite_state (fun _ => h) fun hn => ite_state (fun _ => h) fun _ => ite_state (fun _ => h) fun _ =>
    (h.debitPool value).addStamps hx (fun _ => hd) (Nat.le_of_not_lt hn)

theorem LawsKept.issueStock (h : LawsKept b s) (branch d n : Nat) : LawsKept b (issueStock branch d n s).1 := by
  refine h.stockMovement fun x value hx hd => ?_
  unfold issueAct
  exact ite_state (fun _ => h) fun _ => ite_state (fun _ => h) fun _ => (h.addIssued value).takeStamps hx hd n

theorem LawsKept.writeOffStock (h : LawsKept b s) (branch d n : Nat) : LawsKept b (writeOffStock branch d n s).1 := by
  refine h.stockMovement fun x value hx hd => ?_
  unfold writeOffAct
  exact ite_state (fun _ => h) fun _ => ite_state (fun _ => h) fun _ => (h.addWrittenOff value).takeStamps hx hd n

theorem LawsKept.surrenderStock (h : LawsKept b s) (branch d n : Nat) : LawsKept b (surrenderStock branch d n s).1 := by
  refine h.stockMovement fun x value hx hd => ?_
  unfold surrenderAct
  exact ite_state (fun _ => h) fun _ => ite_state (fun _ => h) fun _ => (h.takeStamps hx hd n).creditAndServe _

theorem LawsKept.deposit (h : LawsKept b s) (n : Nat) : LawsKept b (deposit n s).1 := by
  unfold Machine.deposit
  exact ite_state (fun _ => h) fun _ => ite_state (fun _ => h) fun _ => ite_state (fun _ => h) fun _ =>
    ite_state (fun _ => h) fun _ => (h.addDeposits n).creditAndServe n

theorem LawsKept.refund (h : LawsKept b s) (n : Nat) : LawsKept b (refund n s).1 := by
  unfold Machine.refund
  exact ite_state (fun _ => h) fun _ => ite_state (fun _ => h) fun _ => ite_state (fun _ => h) fun _ =>
    ite_state (fun _ => h) fun _ => h.refundPool n

/-! ## Transfers -/

/-- An entry in range at the tail of the list (R143). -/
theorem LawsKept.listTransfer (h : LawsKept b s) {x : Transfer}
    (hx : denominationSlotOk x.denomination ∧ stampsOk x.count ∧ x.age ≤ Config.ageMax) : LawsKept b (listTransfer x s) := by
  refine h.withTransfers fun hl y hy => ?_
  obtain ⟨-, -, -, -, -, -, ht⟩ := hl
  rcases List.mem_append.1 hy with hy | hy
  · exact ht y hy
  · rw [List.mem_singleton.1 hy]; exact hx

theorem LawsKept.unlistTransfer (h : LawsKept b s) (n : Nat) : LawsKept b (unlistTransfer n s) := by
  refine h.withTransfers (next := s.record.nextTransfer) fun hl y hy => ?_
  obtain ⟨-, -, -, -, -, -, ht⟩ := hl
  exact ht y (List.mem_of_mem_filter hy)

theorem LawsKept.dispatch (h : LawsKept b s) (origin destination d n : Nat) :
    LawsKept b (dispatch origin destination d n s).1 := by
  unfold Machine.dispatch
  refine ite_state (fun _ => h) fun _ => ite_state (fun _ => h) fun hok => ite_state (fun _ => h) fun _ => ?_
  simp only [Bool.or_eq_true, Bool.not_eq_true', not_or, Bool.not_eq_false] at hok
  obtain ⟨⟨-, hd⟩, hn⟩ := hok
  split
  · exact h
  · exact h
  · exact h
  · rename_i x y z hx hy hz
    unfold dispatchFrom
    exact ite_state (fun _ => h) fun _ => ite_state (fun _ => h) fun _ => ite_state (fun _ => h) fun _ =>
      (h.takeStamps hx hd n).listTransfer ⟨hd, hn, Nat.zero_le _⟩

/-- A listed entry is of a denomination slot in range (R142). -/
theorem RecordsInRange.transferSlot (h : RecordsInRange s) {number : Nat} {x : Transfer} (hx : s.transfer? number = some x) :
    denominationSlotOk x.denomination = true := by
  obtain ⟨-, -, -, -, -, -, ht⟩ := h
  exact (ht x (transfer?_some hx)).1

theorem LawsKept.receive (h : LawsKept b s) (number r : Nat) : LawsKept b (receive number r s).1 := by
  unfold Machine.receive
  refine ite_state (fun _ => h) fun _ => ite_state (fun _ => h) fun _ => ?_
  cases hx : s.transfer? number with
  | none => exact h
  | some x =>
    dsimp only
    split
    · exact h
    · exact h
    · rename_i y z hy hz
      unfold receiveInto
      refine ite_state (fun _ => h) fun _ => ite_state (fun _ => h) fun _ => ite_state (fun _ => h) fun hn =>
        ite_state (fun _ => h) fun _ => ?_
      have hland : LawsKept b (s.putBranch x.destination (y.receiving x r)) :=
        h.recount hy (fun hl => RecordsInRange.transferSlot hl hx) (fun _ => Nat.le_of_not_lt hn) _
      unfold receiveStamps
      dsimp only
      split
      · exact ((hland.addWrittenOff _).raiseAttention).unlistTransfer _
      · exact hland.unlistTransfer _

theorem LawsKept.cancelTransfer (h : LawsKept b s) (number : Nat) : LawsKept b (cancelTransfer number s).1 := by
  unfold Machine.cancelTransfer
  refine ite_state (fun _ => h) fun _ => ite_state (fun _ => h) fun _ => ?_
  cases hx : s.transfer? number with
  | none => exact h
  | some x =>
    dsimp only
    split
    · exact h
    · exact h
    · rename_i y z hy hz
      unfold cancelInto
      exact ite_state (fun _ => h) fun _ => ite_state (fun _ => h) fun hn =>
        (h.addStamps hy (fun hl => RecordsInRange.transferSlot hl hx) (Nat.le_of_not_lt hn)).unlistTransfer _

/-! ## Stock counts -/

theorem LawsKept.beginCount (h : LawsKept b s) (slot : Nat) : LawsKept b (beginCount slot s).1 := by
  unfold Machine.beginCount
  refine ite_state (fun _ => h) fun _ => ite_state (fun _ => h) fun _ => ?_
  cases hx : s.branch? slot with
  | none => exact h
  | some x =>
    refine ite_state (fun _ => h) fun _ => h.putBranch hx (fun ⟨c1, c2, _⟩ => ⟨c1, c2, fun l hl => ?_⟩)
      fun _ ⟨r1, r2, r3, r4, r5, r6, r7, r8, _⟩ => ⟨r1, r2, r3, r4, r5, r6, r7, r8, fun l hl => ?_⟩
    all_goals obtain rfl := Option.some.inj hl
    · exact ⟨c1, .nil⟩
    · exact ⟨r7, by simp [Branch.latchOn]⟩

theorem LawsKept.enterCount (h : LawsKept b s) (slot d n : Nat) : LawsKept b (enterCount slot d n s).1 := by
  unfold Machine.enterCount
  refine ite_state (fun _ => h) fun _ => ite_state (fun _ => h) fun hok => ?_
  simp only [Bool.or_eq_true, Bool.not_eq_true', not_or, Bool.not_eq_false] at hok
  obtain ⟨⟨-, hd⟩, hn⟩ := hok
  cases hx : s.branch? slot with
  | none => exact h
  | some x =>
    dsimp only
    cases hlatch : x.latch with
    | none => exact h
    | some l =>
      dsimp only
      cases s.denomination? d with
      | none => exact h
      | some z =>
        refine h.putBranch hx (fun ⟨c1, c2, c3⟩ => ⟨c1, c2, fun l' hl' => ?_⟩)
          fun _ ⟨r1, r2, r3, r4, r5, r6, r7, r8, r9⟩ => ⟨r1, r2, r3, r4, r5, r6, r7, r8, fun l' hl' => ?_⟩
        all_goals obtain rfl := Option.some.inj hl'
        · exact ⟨(c3 l hlatch).1, Table.sorted_put (c3 l hlatch).2 d n⟩
        · refine ⟨(r9 l hlatch).1, fun e he => ?_⟩
          rcases Table.mem_put he with rfl | he
          · exact ⟨hd, hn⟩
          · exact (r9 l hlatch).2 e he

theorem Branch.InRange.unlatched {x : Branch} (h : x.InRange) : x.unlatched.InRange := by
  obtain ⟨r1, r2, r3, r4, r5, r6, r7, r8, -⟩ := h
  exact ⟨r1, r2, r3, r4, r5, r6, r7, r8, by simp [Branch.unlatched]⟩

theorem LawsKept.abandonCount (h : LawsKept b s) (slot : Nat) : LawsKept b (abandonCount slot s).1 := by
  unfold Machine.abandonCount
  refine ite_state (fun _ => h) fun _ => ite_state (fun _ => h) fun _ => ?_
  cases hx : s.branch? slot with
  | none => exact h
  | some x =>
    dsimp only
    cases x.latch with
    | none => exact h
    | some l => exact h.putBranch hx Branch.canonical_unlatched fun _ hr => hr.unlatched

/-- The record of a branch whose count is closed with a variance in range (R153). -/
theorem Branch.closed_kept {x : Branch} {l : CountLatch} (hlatch : x.latch = some l) {net : Int}
    (hv : signedTotalOk (x.variance + net) = true) :
    (x.Canonical → (x.closed l net).Canonical) ∧ (x.InRange → (x.closed l net).InRange) := by
  obtain ⟨c, hc⟩ := applyFigures_eq x l.counted
  unfold Branch.closed
  rw [hc]
  refine ⟨fun ⟨c1, c2, _⟩ => ⟨canonical_setLevels c1 _, c2, by simp⟩, fun hr => ?_⟩
  obtain ⟨r1, r2, r3, r4, r5, -, r7, r8, r9⟩ := hr
  exact ⟨r1, r2, r3, r4, r5, hv, StampsInRange.setLevels r7 (r9 l hlatch).2, r8, by simp⟩

theorem LawsKept.closeCount (h : LawsKept b s) (slot : Nat) : LawsKept b (closeCount slot s).1 := by
  unfold Machine.closeCount
  refine ite_state (fun _ => h) fun _ => ite_state (fun _ => h) fun _ => ?_
  cases hx : s.branch? slot with
  | none => exact h
  | some x =>
    dsimp only
    cases hlatch : x.latch with
    | none => exact h
    | some l =>
      refine ite_state (fun _ => h) fun hfit => ?_
      simp only [closeFits, Bool.not_eq_true', Bool.not_eq_false, Bool.and_eq_true] at hfit
      obtain ⟨hcan, hrange⟩ := Branch.closed_kept hlatch hfit.2
      exact ((h.putBranch hx hcan fun _ => hrange).addWrittenOff _).raiseIf

end Sys2Proof.Machine
end

section
/-! SUPPORT. The laws of O55 under TAKE ATTENTION, the days, the settings, the timers and start-up, and under every block. -/

namespace Sys2Proof.Machine

variable {b s t : State}

/-! ## TAKE ATTENTION (R172) -/

theorem LawsKept.takeAttention (h : LawsKept b s) (subject slot : Nat) (causes : Half) :
    LawsKept b (takeAttention subject slot causes s).1 := by
  unfold Machine.takeAttention
  refine ite_state (fun _ => h) fun _ => ?_
  split
  · unfold takeFromMeter
    refine ite_state (fun _ => h) fun _ => ?_
    cases hm : s.meter? slot with
    | none => exact h
    | some m => exact h.putMeter (m' := { m with causes := meterCausesLess m.causes causes }) hm ⟨id, id⟩
  · unfold takeFromBranch
    refine ite_state (fun _ => h) fun _ => ?_
    cases hx : s.branch? slot with
    | none => exact h
    | some x => exact h.putBranch (x' := { x with causes := branchCausesLess x.causes causes }) hx id fun _ => id
  · unfold takeFromDevice
    exact ite_state (fun _ => h) fun _ => h.withDeviceCauses _
  · exact h

/-! ## The day effects (R158) -/

theorem Meter.aged_keeps (m : Meter) : m.Keeps m.aged :=
  ⟨id, fun ⟨r1, r2, r3, r4, r5, r6, _, r8⟩ => ⟨r1, r2, r3, r4, r5, r6, ageUp_le _, r8⟩⟩

/-- A daily limit is issued, or its refusal counted (R49). -/
theorem Meter.limited_keeps (m : Meter) (cycle : Byte) (timeout : Nat) (d : Decision) : m.Keeps (m.limited cycle timeout d) := by
  cases d with
  | issue amount reason =>
    have hg := m.withGrant_keeps .limit amount false cycle timeout
    exact ⟨hg.loaded, hg.range⟩
  | refused st f =>
    have hr := m.refusedWith_keeps st
    exact ⟨hr.loaded, hr.range⟩
  | join a => exact .refl m

theorem Meter.dayEffect_keeps (s : State) (cycle : Byte) (m : Meter) : m.Keeps (m.dayEffect s cycle) := by
  unfold Meter.dayEffect
  split
  · exact m.aged_keeps.trans (m.aged.limited_keeps ..)
  · exact m.aged_keeps

theorem Branch.InRange.dayCounted {x : Branch} (h : x.InRange) : x.dayCounted.InRange := by
  obtain ⟨r1, r2, r3, r4, r5, r6⟩ := h
  unfold Branch.dayCounted
  split
  · exact ⟨r1, r2, r3, r4, r5, r6⟩
  · exact ⟨r1, r2, r3, r4, r5, r6⟩
  · split
    · exact ⟨r1, r2, r3, Nat.zero_le _, Nat.zero_le _, r6⟩
    · exact ⟨r1, r2, r3, ageUp_le _, r5, r6⟩

theorem Branch.InRange.countDropped {x : Branch} (h : x.InRange) : x.countDropped.InRange := by
  unfold Branch.countDropped
  split
  · exact h.unlatched
  · exact h

theorem Branch.InRange.transferLate {x : Branch} (h : x.InRange) (late : Bool) : (x.transferLate late).InRange := by
  unfold Branch.transferLate
  split <;> exact h

theorem Branch.InRange.dayEffect {x : Branch} (h : x.InRange) (s : State) (slot : Nat) : (x.dayEffect s slot).InRange :=
  h.dayCounted.countDropped.transferLate _

/-- Every transfer a day older (R147). -/
theorem LawsKept.ageTransfers (h : LawsKept b s) (limit : Nat) :
    LawsKept b { s with record.transfers := s.record.transfers.map (Transfer.aged limit) } := by
  refine h.withTransfers (next := s.record.nextTransfer) fun hl y hy => ?_
  obtain ⟨-, -, -, -, -, -, ht⟩ := hl
  obtain ⟨x, hx, rfl⟩ := List.mem_map.1 hy
  obtain ⟨hd, hn, -⟩ := ht x hx
  exact ⟨hd, hn, ageUp_le _⟩

/-- A change outside record memory, the rings, the indices, the settings in force and the marks. -/
theorem LawsKept.withElsewhere (h : LawsKept b s) (stored : StoredSettings) (kind : StartKind) (o : Option Retention)
    (seconds choices : Nat) :
    LawsKept b { s with stored := stored, lastStart := kind, retention := o, seconds := seconds, choices := choices } :=
  h.congr ⟨rfl, rfl, rfl, rfl, rfl, rfl, rfl, id, id⟩ rfl rfl rfl rfl rfl rfl rfl

theorem LawsKept.withDay (h : LawsKept b s) (day : Half) : LawsKept b { s with record.day := day } :=
  h.congr ((OutsideKept.refl s).withRecord _) rfl rfl rfl rfl rfl rfl rfl

theorem LawsKept.dayAdvance (h : LawsKept b s) : LawsKept b (dayAdvance s) := by
  have hm := h.mapMeters (f := fun slot m => m.dayEffect s (limitCycle s slot m)) fun _ m => m.dayEffect_keeps s _
  have hb := hm.mapBranches (f := fun slot x => x.dayEffect s slot) (fun i _ hc => Branch.dayEffect_canonical hc s i)
    fun i _ hr => hr.dayEffect s i
  have ht := (hb.ageTransfers s.inForce.overdueDays).withDay (s.record.day + 1)
  unfold Machine.dayAdvance
  exact LawsKept.raiseIf (c := dayRaises s = true) (ht.withElsewhere s.stored s.lastStart s.retention s.seconds (s.choices + 1))

theorem LawsKept.closeDay (h : LawsKept b s) : LawsKept b (closeDay s).1 := by
  unfold Machine.closeDay
  exact ite_state (fun _ => h) fun _ => h.dayAdvance

/-! ## The application of settings (R160) -/

theorem LawsKept.applyField (h : LawsKept b s) (f : SettingField) : LawsKept b (applyField f s) := by
  have hs : ∀ l, LawsKept b { dropMarks s.inForce { s with inForce := settle s.stored s.inForce f } with fallenBack := l } :=
    fun l => h.congr ⟨rfl, rfl, rfl, rfl, rfl, rfl, rfl, fun hr => settingsInRange_settle hr s.stored f,
      fun hm => marksLaw_dropMarks hm _⟩ rfl rfl rfl rfl rfl rfl rfl
  unfold Machine.applyField
  dsimp only
  split
  · exact hs _
  · exact (hs _).setDeviceCause _

theorem LawsKept.applyFields (h : LawsKept b s) (l : List SettingField) : LawsKept b (applyFields l s) := by
  induction l generalizing s with
  | nil => exact h
  | cons f rest ih => exact ih (h.applyField f)

theorem LawsKept.writeStored (h : LawsKept b s) (p : SettingsPatch) : LawsKept b (writeStored p s) :=
  (h.withElsewhere (storePatch p s.stored) s.lastStart s.retention s.seconds (s.choices + 1)).applyFields _

theorem LawsKept.writeSettings (h : LawsKept b s) (p : SettingsPatch) : LawsKept b (writeSettings p s).1 := by
  unfold Machine.writeSettings
  exact ite_state (fun _ => h) fun _ => h.writeStored p

/-! ## SET MODE and CLEAR TABLES -/

theorem LawsKept.setMode (h : LawsKept b s) (target : Coded Mode) : LawsKept b (setMode target s).1 := by
  unfold Machine.setMode
  refine ite_state (fun _ => h) fun _ => ?_
  split
  · exact h
  · exact h
  · refine ite_state (fun _ => h) fun _ => ite_state (fun _ => ?_) fun _ => h.withMode _
    dsimp only [enterService]
    exact ((h.withMode .service).applyFields serviceEntryClass).serveQueue

theorem LawsKept.clearTables (h : LawsKept b s) : LawsKept b (clearTables s).1 := by
  unfold Machine.clearTables
  exact ite_state (fun _ => h) fun _ => h.blank ..

/-! ## Timers -/

/-- The load seconds that remain to a grant out are in no law. -/
theorem LawsKept.renewTimers (h : LawsKept b s) : LawsKept b (renewTimers s) :=
  h.mapMeters fun _ _ => ⟨id, id⟩

theorem LawsKept.secondLater (h : LawsKept b s) (n : Nat) :
    LawsKept b { s with seconds := n, record.meters := Table.mapRecords (fun _ m => m.secondLater) s.record.meters } :=
  (h.mapMeters (f := fun _ m => m.secondLater) fun _ _ => ⟨id, id⟩).withElsewhere s.stored s.lastStart s.retention n s.choices

/-! ## Start-up (R161, R162) -/

theorem LawsKept.checkRetention (h : LawsKept b s) (lost : Bool) : LawsKept b (checkRetention lost s) := by
  unfold Machine.checkRetention
  split
  · unfold lostRecord
    split
    · exact h.blank ..
    · exact h.blank ..
  · exact h.withMode _

theorem LawsKept.startSettings (h : LawsKept b (forgetRings s)) (lost : Bool) : LawsKept b (startSettings lost s) := by
  unfold Machine.startSettings
  exact (((h.applyFields _).checkRetention lost).applyFields _).raiseIf

/-- A start-up is the work of a block on the state whose rings are forgotten. -/
theorem LawsKept.startUp (s : State) (kind : StartKind) : LawsKept (forgetRings s) (startUp kind s) :=
  have hs := ((LawsKept.refl (forgetRings s)).startSettings (findsLost kind s)).renewTimers.serveQueue
  hs.withElsewhere _ kind (retentionOutcome kind (findsLost kind s)) _ _

/-! ## The blocks -/

theorem LawsKept.readAttention (h : LawsKept b s) (start : Nat) : LawsKept b (readAttention start s).1 := by
  unfold Machine.readAttention
  exact ite_state (fun _ => h) fun _ => ite_state (fun _ => h) fun _ => h

theorem LawsKept.readPosition (h : LawsKept b s) : LawsKept b (readPosition s).1 := by
  unfold Machine.readPosition
  exact ite_state (fun _ => h) fun _ => h

theorem LawsKept.readDenominations (h : LawsKept b s) : LawsKept b (readDenominations s).1 := by
  unfold Machine.readDenominations
  exact ite_state (fun _ => h) fun _ => h

theorem LawsKept.readTransfers (h : LawsKept b s) (start : Nat) : LawsKept b (readTransfers start s).1 := by
  unfold Machine.readTransfers
  exact ite_state (fun _ => h) fun _ => ite_state (fun _ => h) fun _ => h

theorem LawsKept.readCount (h : LawsKept b s) (slot : Nat) : LawsKept b (readCount slot s).1 := by
  unfold Machine.readCount
  refine ite_state (fun _ => h) fun _ => ite_state (fun _ => h) fun _ => ?_
  cases s.branch? slot with
  | none => exact h
  | some x =>
    dsimp only
    cases x.latch with
    | none => exact h
    | some l => exact h

/-- The block that owns a request keeps each law. -/
theorem LawsKept.block (h : LawsKept b s) : ∀ c, LawsKept b (blockOf c s).1
  | .readStatus _ => h
  | .readAttention _ start => h.readAttention start
  | .takeAttention _ subject slot causes => h.takeAttention subject slot causes
  | .setMode _ target => h.setMode target
  | .closeDay _ => h.closeDay
  | .writeSettings _ patch => h.writeSettings patch
  | .readSettings _ => h
  | .clearTables _ => h.clearTables
  | .enrolMeter _ fields => h.enrolMeter fields
  | .setMeter _ slot changes => h.setMeter slot changes
  | .reassignMeter _ slot branch => h.reassignMeter slot branch
  | .closeMeter _ slot => h.closeMeter slot
  | .retireMeter _ slot => h.retireMeter slot
  | .readMeter _ slot take => h.readMeter slot take
  | .meterReport _ slot sequence ascending descending => h.meterReport slot sequence ascending descending
  | .resolveMeter _ slot ascending descending => h.resolveMeter slot ascending descending
  | .refillRequest _ slot amount => h.grantRequest .refill slot amount
  | .limitRequest _ slot amount => h.grantRequest .limit slot amount
  | .loadConfirm _ slot number total => h.loadConfirm slot number total
  | .cancelGrant _ slot number => h.cancelGrant slot number
  | .cancelQueued _ slot => h.cancelQueued slot
  | .readQueue _ start => h.readQueue start
  | .deposit _ amount => h.deposit amount
  | .refund _ amount => h.refund amount
  | .readPosition _ => h.readPosition
  | .openBranch _ code => h.openBranch code
  | .setBranch _ slot changes => h.setBranch slot changes
  | .closeBranch _ slot => h.closeBranch slot
  | .cycleStart _ slot actionKnown => h.cycleControl startAction_cycle actionKnown slot
  | .cycleStop _ slot => h.cycleControl stopAction_cycle true slot
  | .cyclePause _ slot => h.cycleControl pauseAction_cycle true slot
  | .cycleResume _ slot => h.cycleControl resumeAction_cycle true slot
  | .readBranch _ slot take => h.readBranch slot take
  | .defineDenomination _ face => h.defineDenomination face
  | .withdrawDenomination _ slot => h.withdrawDenomination slot
  | .retireDenomination _ slot => h.retireDenomination slot
  | .readDenominations _ => h.readDenominations
  | .purchaseStock _ branch denomination count => h.purchaseStock branch denomination count
  | .issueStock _ branch denomination count => h.issueStock branch denomination count
  | .writeOffStock _ branch denomination count => h.writeOffStock branch denomination count
  | .surrenderStock _ branch denomination count => h.surrenderStock branch denomination count
  | .dispatch _ origin destination denomination count => h.dispatch origin destination denomination count
  | .receive _ number count => h.receive number count
  | .cancelTransfer _ number => h.cancelTransfer number
  | .readTransfers _ start => h.readTransfers start
  | .beginCount _ branch => h.beginCount branch
  | .enterCount _ branch denomination figure => h.enterCount branch denomination figure
  | .closeCount _ branch => h.closeCount branch
  | .abandonCount _ branch => h.abandonCount branch
  | .readCount _ branch => h.readCount branch
  | .restart _ | .requestProducerIndexWrite _ | .resultConsumerIndexWrite _ | .interruptEnableWordWrite _
  | .ignoredWindowWrite _ _ _ | .powerOn | .pcieReset | .loadSecondsTick | .loadTimerExpiry _ | .msiPermissionChange _
  | .msiWrite | .powerLoss | .backupCellFailure | .badRequest _ _ _ _ => h

theorem LawsKept.sentBlock (h : LawsKept b s) (c : Instr) : LawsKept b (sentBlock c s).1 := by
  unfold Machine.sentBlock
  split
  · exact h
  · exact h.block c

end Sys2Proof.Machine
end

section
/-! SUPPORT. Each law of O55 across the rings, every command and every step. -/

namespace Sys2Proof.Machine

variable {b s t : State}

theorem tablesCanonical_iff : TablesCanonical s ↔ RecordCanonical s ∧ RingsCanonical s :=
  ⟨fun ⟨hm, hb, hd, h1, h2, h3, h4, hc⟩ => ⟨⟨hm, hb, hd, hc⟩, h1, h2, h3, h4⟩,
    fun ⟨⟨hm, hb, hd, hc⟩, h1, h2, h3, h4⟩ => ⟨hm, hb, hd, h1, h2, h3, h4, hc⟩⟩

/-- Each law of O55 on its own, kept over the steps from b to s: those of record memory, of the rings, of the settings and marks, and of the
indices. -/
structure StepKept (b s : State) : Prop where
  canonical : RecordCanonical b → RecordCanonical s
  rings : RingsCanonical b → RingsCanonical s
  pool : PoolLaw b → PoolLaw s
  loaded : LoadedLaw b → LoadedLaw s
  settings : SettingsInRange b → SettingsInRange s
  ranges : RecordsInRange b ∧ SettingsInRange b → RecordsInRange s
  marks : MarksLaw b → MarksLaw s
  indices : IndexLaw b → IndexLaw s

theorem StepKept.refl (s : State) : StepKept s s :=
  ⟨id, id, id, id, id, fun h => h.1, id, id⟩

theorem StepKept.trans (h : StepKept b s) (k : StepKept s t) : StepKept b t where
  canonical := k.canonical ∘ h.canonical
  rings := k.rings ∘ h.rings
  pool := k.pool ∘ h.pool
  loaded := k.loaded ∘ h.loaded
  settings := k.settings ∘ h.settings
  ranges hb := k.ranges ⟨h.ranges hb, h.settings hb.2⟩
  marks := k.marks ∘ h.marks
  indices := k.indices ∘ h.indices

/-- A block keeps each law. -/
theorem StepKept.block (h : StepKept b s) (k : LawsKept s t) : StepKept b t := by
  have ho := k.outside
  refine h.trans ⟨k.canonical, fun hc => ?_, k.pool, k.loaded, ho.settings, k.ranges, ho.marks, fun hi hf => ?_⟩
  · obtain ⟨h1, h2, h3, h4⟩ := hc
    constructor <;> simpa only [ho.requestRing, ho.resultRing]
  · obtain ⟨hq, hp⟩ := hi (ho.ringFault ▸ hf)
    refine ⟨ho.requestsInUse ▸ hq, ?_⟩
    simpa only [resultsInUse, ho.resultProducer, ho.resultConsumer] using hp

/-- A change outside record memory that keeps the laws of the rings, the settings, the marks and the indices. -/
theorem StepKept.outside (h : StepKept b s) (hr : t.record = s.record) (hs : SettingsInRange s → SettingsInRange t)
    (hc : RingsCanonical s → RingsCanonical t) (hm : MarksLaw s → MarksLaw t) (hi : IndexLaw s → IndexLaw t) : StepKept b t := by
  refine h.trans ⟨fun hl => ?_, hc, fun hl => ?_, fun hl => ?_, hs, fun hl => ?_, hm, hi⟩
  · simpa only [RecordCanonical, hr] using hl
  · simpa only [PoolLaw, hr] using hl
  · simpa only [LoadedLaw, hr] using hl
  · simpa only [RecordsInRange, hr] using hl.1

/-! ## The rings -/

/-- The fault is set where a record written leaves more than 32 slots in use (R169). -/
theorem StepKept.send (h : StepKept b s) (c : Instr) : StepKept b (send c s) := by
  refine h.outside rfl id (fun hc => hc.putRequest ..) id fun hi hf => ?_
  simp only [Machine.send, Bool.or_eq_false_iff, decide_eq_false_iff_not, Nat.not_lt] at hf
  obtain ⟨hfault, hroom⟩ := hf
  exact ⟨hroom, (hi hfault).2⟩

/-- A result posted where it fits (R168 steps 3 to 5). -/
theorem StepKept.postResult (h : StepKept b s) (kind tag : Half) {r : Reply} (hr : slotsTaken kind r ≤ resultsFree s) :
    StepKept b (postResult kind tag r s) := by
  refine h.outside rfl id (fun ⟨h1, h2, h3, h4⟩ => ⟨h1, h2, sorted_writeParts _ _ _ h3, mem_writeParts h4⟩)
    (fun hm => ⟨fun hs => ?_, hm.2⟩) fun hi hf => ?_
  · exact (Bool.or_eq_true _ _ ▸ hs : s.resultMark = true ∨ s.inForce.resultEnable = true).elim hm.1 id
  · obtain ⟨hq, hp⟩ := hi hf
    exact ⟨hq, inUse_advance hp hr⟩

/-- The advance of the request consumer past a record. -/
theorem StepKept.consume (h : StepKept b s) (hu : 0 < requestsInUse s) :
    StepKept b { s with requestConsumer := s.requestConsumer + 1 } := by
  refine h.outside rfl id (fun ⟨h1, h2, h3, h4⟩ => ⟨h1, h2, h3, h4⟩) id fun hi hf => ?_
  obtain ⟨hq, hp⟩ := hi hf
  exact ⟨Nat.le_trans (inUse_consume hu) hq, hp⟩

theorem StepKept.post (h : StepKept b s) (hu : 0 < requestsInUse s) (kind tag : Half) {r : Reply}
    (hr : slotsTaken kind r ≤ resultsFree s) : StepKept b (post kind tag r s) :=
  (h.consume hu).postResult kind tag hr

/-- A request over a block that keeps each law. -/
theorem StepKept.request (h : StepKept b s) {c : Instr} {block : State → State × Reply} (hb : LawsKept s (block s).1) :
    StepKept b (request c block s) := by
  unfold Machine.request
  split
  · exact h
  · rename_i kind tag _
    split
    · split
      · rename_i htaken
        obtain ⟨hu, hk⟩ := htaken
        have hfit := ((takes_iff _ _ _).1 hk).2
        refine ((h.block hb).send c).post (inUse_produce (hb.outside.requestsInUse.trans hu)) kind tag ?_
        rw [← hb.outside.resultsFree] at hfit
        exact hfit
      · exact h.send c
    · exact h

/-! ## RESTART and the board's own taking -/

/-- Forgotten rings are empty, with equal indices and cleared marks. -/
theorem StepKept.forgetRings (h : StepKept b s) : StepKept b (forgetRings s) :=
  h.outside rfl id (fun _ => ⟨.nil, by simp [Machine.forgetRings], .nil, by simp [Machine.forgetRings]⟩)
    (fun _ => ⟨by simp [Machine.forgetRings], by simp [Machine.forgetRings]⟩)
    fun _ _ => ⟨show (0 - 0 : Byte).toNat ≤ 32 by decide, show (0 - 0 : Byte).toNat ≤ 32 by decide⟩

theorem StepKept.startUp (h : StepKept b s) (kind : StartKind) : StepKept b (startUp kind s) :=
  h.forgetRings.block (.startUp s kind)

/-- A RESTART's result finds the emptied Result Ring (R161, R168). -/
theorem StepKept.restarted (h : StepKept b s) (tag : Half) : StepKept b (restarted tag s) := by
  refine (h.startUp .restart).postResult 0x14 tag ?_
  have hfree : resultsFree (Machine.startUp .restart s) = 32 := by
    rw [(LawsKept.startUp s .restart).outside.resultsFree]
    show 32 - (0 - 0 : Byte).toNat = 32
    decide
  have hone : slotsTaken 0x14 (restartReply (Machine.startUp .restart s)) = 1 := if_pos (show slotsFor (8 * 13) ≤ 1 by decide)
  omega

theorem StepKept.sendRestart (h : StepKept b s) (tag : Half) : StepKept b (sendRestart tag s) := by
  unfold Machine.sendRestart
  split
  · exact h.outside rfl id (fun hc => hc.putRequest ..) id id
  · exact h.send _

theorem StepKept.takeRestart (h : StepKept b s) : StepKept b (takeRestart s) := by
  rcases takeRestart_cases s with he | ⟨tag, -, -, he⟩
  · rw [he]; exact h
  · rw [he]; exact h.restarted tag

theorem StepKept.takeFirst (h : StepKept b s) : StepKept b (takeFirst s) := by
  rcases takeFirst_cases s with he | ⟨-, hu, ⟨tag, -, -, he⟩ | ⟨c, kind, tag, -, -, -, ht, he⟩⟩
  · rw [he]; exact h
  · rw [he]; exact h.restarted tag
  · rw [he]
    have hb := (LawsKept.refl s).block c
    refine (h.block hb).post (by rw [hb.outside.requestsInUse]; exact hu) kind tag ?_
    rw [hb.outside.resultsFree]
    exact ((takes_iff _ _ _).1 ht).2

/-! ## Every command -/

/-- A change of the power, the permission to send messages, or the model's own counts. -/
theorem StepKept.withInputs (h : StepKept b s) (powered permitted : Bool) (sent : Nat) (queue : List Instr) :
    StepKept b { s with powered := powered, msiPermitted := permitted, msiSent := sent, pending := queue } :=
  h.outside rfl id (fun ⟨h1, h2, h3, h4⟩ => ⟨h1, h2, h3, h4⟩) id id

/-- A write of both indices, with the fault that it sets where more than 32 slots would be in use (R169). -/
theorem StepKept.writeIndex (h : StepKept b s) {p c : Byte} {inUse : Nat}
    (hi : IndexLaw s → inUse ≤ 32 → s.ringFault = false →
      (p - s.requestConsumer).toNat ≤ 32 ∧ (s.resultProducer - c).toNat ≤ 32) :
    StepKept b (if Config.ringSlots < inUse then { s with requestProducer := p, resultConsumer := c, ringFault := true }
      else { s with requestProducer := p, resultConsumer := c }) := by
  have hrings : ∀ fault, RingsCanonical s →
      RingsCanonical { s with requestProducer := p, resultConsumer := c, ringFault := fault } :=
    fun _ ⟨h1, h2, h3, h4⟩ => ⟨h1, h2, h3, h4⟩
  split
  · exact h.outside rfl id (hrings true) id fun _ => nofun
  · rename_i hn
    exact h.outside rfl id (hrings s.ringFault) id fun hl hf => hi hl (Nat.le_of_not_lt hn) hf

/-- A command that acts on a powered board alone. -/
theorem StepKept.ifPowered {c : Prop} [Decidable c] (h : StepKept b s) (ht : StepKept b t) : StepKept b (if c then t else s) := by
  split
  · exact ht
  · exact h

/-- Every command keeps each law. -/
theorem StepKept.exec (h : StepKept b s) {c : Instr} (hx : exec c s = .next t) : StepKept b t := by
  have hs := LawsKept.refl s
  by_cases hq : (header c).isSome ∧ isRestart c = false
  · rcases exec_request_or_same hq.1 hq.2 s with he | he <;> obtain rfl := Host.Outcome.next.inj (he.symm.trans hx)
    · exact h.request (hs.sentBlock c)
    · exact h
  cases c
  case restart tag =>
    obtain rfl := Host.Outcome.next.inj hx
    refine h.ifPowered ?_
    dsimp only
    split
    · exact (h.sendRestart tag).takeRestart
    · exact h.sendRestart tag
  case requestProducerIndexWrite value =>
    obtain rfl := Host.Outcome.next.inj hx
    exact h.ifPowered (h.writeIndex (c := s.resultConsumer) fun hi hu hf => ⟨hu, (hi hf).2⟩)
  case resultConsumerIndexWrite value =>
    obtain rfl := Host.Outcome.next.inj hx
    exact h.ifPowered (h.writeIndex (p := s.requestProducer) fun hi hu hf => ⟨(hi hf).1, hu⟩)
  case interruptEnableWordWrite value =>
    obtain rfl := Host.Outcome.next.inj hx
    exact h.ifPowered (h.block (hs.writeStored _))
  case ignoredWindowWrite offset width value =>
    obtain rfl := Host.Outcome.next.inj hx
    refine h.ifPowered (h.outside rfl id (fun ⟨h1, h2, h3, h4⟩ => ?_) id id)
    obtain ⟨hsorted, hslots⟩ := canonical_storeBytes ⟨h1, h2⟩ offset (leBytes width value)
    exact ⟨hsorted, hslots, h3, h4⟩
  case powerOn =>
    obtain rfl := Host.Outcome.next.inj hx
    exact (h.withInputs true false s.msiSent s.pending).startUp .powerOn
  case pcieReset =>
    obtain rfl := Host.Outcome.next.inj hx
    exact h.ifPowered ((h.withInputs s.powered false s.msiSent s.pending).startUp .pcieReset)
  case loadSecondsTick =>
    obtain rfl := Host.Outcome.next.inj hx
    exact h.ifPowered (h.block (hs.secondLater _))
  case loadTimerExpiry slot =>
    obtain rfl := Host.Outcome.next.inj hx
    exact h.ifPowered (h.block (hs.expire slot))
  case msiPermissionChange allowed =>
    obtain rfl := Host.Outcome.next.inj hx
    exact h.ifPowered (h.withInputs s.powered allowed s.msiSent s.pending)
  case msiWrite =>
    obtain rfl := Host.Outcome.next.inj hx
    exact h.ifPowered (h.outside rfl id (fun ⟨h1, h2, h3, h4⟩ => ⟨h1, h2, h3, h4⟩) (fun _ => ⟨nofun, nofun⟩) id)
  case powerLoss =>
    obtain rfl := Host.Outcome.next.inj hx
    exact h.withInputs false s.msiPermitted s.msiSent s.pending
  case backupCellFailure =>
    obtain rfl := Host.Outcome.next.inj hx
    split
    · exact h
    · exact h.block (hs.blank false .setup {})
  all_goals exact absurd ⟨rfl, rfl⟩ hq

theorem StepKept.of_step (hx : step s = .next t) : StepKept s t := by
  cases hp : s.pending with
  | nil =>
    obtain rfl := Host.Outcome.next.inj ((step_nil hp).symm.trans hx)
    exact (StepKept.refl s).takeFirst
  | cons c rest =>
    exact ((StepKept.refl s).withInputs s.powered s.msiPermitted s.msiSent rest).exec ((step_cons hp).symm.trans hx)

/-- Settles O55: every block keeps each law on its own (`LawsKept.block`), and so do the changes of the rings, the indices and the marks
around it (`StepKept.exec`). -/
theorem formPoolLoadedAndRangesKept : Obligations.FormPoolLoadedAndRangesKept := by
  intro s t hx
  have h := StepKept.of_step hx
  refine ⟨fun hc => ?_, h.pool, h.loaded, h.settings, h.ranges, h.marks, h.indices⟩
  obtain ⟨hrecord, hrings⟩ := tablesCanonical_iff.1 hc
  exact tablesCanonical_iff.2 ⟨h.canonical hrecord, h.rings hrings⟩

end Sys2Proof.Machine
end

section
/-! SUPPORT. DEPOSIT and REFUND (O39): the checks of R104 and R105 as figures, and what the taken requests leave. -/

namespace Sys2Proof.Machine

variable {s : State} {a : Nat}

theorem not_amountOk : (!amountOk a) = true ↔ a < 1 ∨ 99999999 < a := by
  rw [Bool.not_eq_true', ← Bool.not_eq_true, amountOk_iff]
  omega

/-- The last check of R104: the committed funds after the credit (R96). -/
theorem not_creditFits :
    (!creditFits s a) = true ↔
      2 ^ 47 - 1 < s.record.pool.balance + s.record.pool.reserved
        + Table.sum (fun _ m => if m.kind = .prepaid then m.credit else 0) s.record.meters + (a - min s.record.pool.arrears a) := by
  rw [Bool.not_eq_true', ← Bool.not_eq_true, creditFits_iff, Nat.not_le]
  rfl

/-- The first check that fails answers, and nothing changes (R104). -/
theorem deposit_refused {st : Status}
    (h : (if ¬(s.record.mode = .setup ∨ s.record.mode = .service) then some Status.wrongMode
       else if a < 1 ∨ 99999999 < a then some .badValue
       else if 2 ^ 47 - 1 < s.record.pool.deposits + a then some .badValue
       else if 2 ^ 47 - 1 < s.record.pool.balance + s.record.pool.reserved
          + Table.sum (fun _ m => if m.kind = .prepaid then m.credit else 0) s.record.meters
          + (a - min s.record.pool.arrears a) then some .badValue
       else none) = some st) : deposit a s = (s, refuse st) :=
  refused_ite not_builds (fun _ => refused_ite not_amountOk fun _ => refused_ite Iff.rfl fun _ =>
    refused_ite not_creditFits fun _ h => by cases h) h

/-- A pool credit that is not of 0 serves the queue of a board in SERVICE (R99, R100). -/
theorem creditAndServe_pos (ha : 1 ≤ a) :
    creditAndServe a s =
      if s.record.mode = .service then serveQueue (creditPool a s) else { state := creditPool a s, issued := 0, removed := 0 } := by
  have hmode : (creditPool a s).record.mode = s.record.mode := by rw [creditPool_eq]
  rw [creditAndServe, if_neg (by omega)]
  split
  · rfl
  · exact serveQueue_idle (by rwa [hmode])

/-- A taken DEPOSIT: D rises, and the amount is a pool credit (R104). -/
theorem deposit_taken (hmode : s.record.mode = .setup ∨ s.record.mode = .service) (h1 : 1 ≤ a) (h2 : a ≤ 99999999)
    (hd : s.record.pool.deposits + a ≤ 2 ^ 47 - 1)
    (hfit : s.record.pool.balance + s.record.pool.reserved
      + Table.sum (fun _ m => if m.kind = .prepaid then m.credit else 0) s.record.meters + (a - min s.record.pool.arrears a)
        ≤ 2 ^ 47 - 1) {r : Served} (hr : r = creditAndServe a (addDeposits a s)) :
    deposit a s =
      (r.state,
       done (.deposited (min s.record.pool.arrears a) (a - min s.record.pool.arrears a) r.issued r.removed r.state.record.pool.balance
        r.state.record.pool.arrears r.state.record.pool.deposits)) := by
  subst hr
  unfold deposit
  rw [if_neg (mt not_builds.1 (not_not.2 hmode)), if_neg (by rw [not_amountOk]; omega), if_neg (c := Config.totalMax < _) (Nat.not_lt.2 hd),
    if_neg (mt not_creditFits.1 (Nat.not_lt.2 hfit))]

/-- The checks of R105 in their order, and the refund. -/
theorem refund_eq (a : Nat) (s : State) :
    refund a s =
      if ¬(s.record.mode = .setup ∨ s.record.mode = .service) then (s, refuse .wrongMode)
      else if a < 1 ∨ 99999999 < a then (s, refuse .badValue)
      else if s.record.pool.balance < a then (s, refuseWith .poolShort (.balance s.record.pool.balance))
      else if s.record.pool.deposits < a then (s, refuse .badValue)
      else (refundPool a s, done (.refunded (s.record.pool.balance - a) (s.record.pool.deposits - a))) :=
  ite_congr (propext not_builds) (fun _ => rfl) fun _ => ite_congr (propext not_amountOk) (fun _ => rfl) fun _ =>
    ite_congr (propext not_covers) (fun _ => rfl) fun _ => rfl

/-- While arrears stand P is 0, so no refund in range is covered (R102, R105). -/
theorem refund_of_arrears (hp : PoolLaw s) (hv : 0 < s.record.pool.arrears)
    (hmode : s.record.mode = .setup ∨ s.record.mode = .service) (h1 : 1 ≤ a) (h2 : a ≤ 99999999) :
    refund a s = (s, refuseWith .poolShort (.balance 0)) := by
  have hzero : s.record.pool.balance = 0 := hp.resolve_right (Nat.ne_of_gt hv)
  rw [refund_eq, if_neg (not_not.2 hmode), if_neg (by omega), if_pos (by omega), hzero]

/-- Settles O39: DEPOSIT is its checks before a pool credit with its serving, and REFUND its checks before one change of P and D. -/
theorem depositAndRefund : Obligations.DepositAndRefund := by
  intro tag a s
  refine ⟨fun st h => answers_of_block rfl rfl (deposit_refused h), ?_, answers_of_block rfl rfl (refund_eq a s),
    fun hp hv hmode h1 h2 => answers_of_block rfl rfl (refund_of_arrears hp hv hmode h1 h2)⟩
  intro hmode h1 h2 hd paid credited r hpaid hfit hcredited hr
  subst hpaid
  have hcredit : creditPool a (addDeposits a s) = credited := by rw [creditPool_eq, hcredited]; rfl
  refine answers_of_block rfl rfl (deposit_taken hmode h1 h2 hd hfit ?_)
  rw [creditAndServe_pos h1, hcredit, hr]
  rfl

end Sys2Proof.Machine
end

section
/-!
SUPPORT. OPEN BRANCH, DEFINE DENOMINATION, SET BRANCH and CYCLE CONTROL (O40, O41, O43): their checks as figures and what the taken requests
leave.
-/

namespace Sys2Proof.Machine

variable {s : State} {slot code face : Nat} {b : Branch} {c : BranchChanges}

/-! ## OPEN BRANCH (R113) -/

theorem branchCodeOk_iff {x : Nat} : within 1 Config.branchCodeMax x = true ↔ 1 ≤ x ∧ x ≤ 9999 := within_iff

theorem codeHeld_iff : codeHeld s code = true ↔ ∃ e ∈ s.record.branches, e.2.code = code := by
  simp only [codeHeld, List.any_eq_true, decide_eq_true_eq]

theorem branches_full_iff :
    Table.lowestEmpty s.record.branches Config.branchSlots = none ↔ ∀ slot ∈ List.range 128, (s.branch? slot).isSome :=
  lowestEmpty_eq_none

/-- The first check that fails answers, and nothing changes (R113). -/
theorem openBranch_refused {st : Status}
    (h : (if ¬(s.record.mode = .setup ∨ s.record.mode = .service) then some Status.wrongMode
       else if code < 1 ∨ 9999 < code then some .badValue
       else if ∃ e ∈ s.record.branches, e.2.code = code then some .duplicate
       else if ∀ slot ∈ List.range 128, (s.branch? slot).isSome then some .tableFull
       else none) = some st) : openBranch code s = (s, refuse st) := by
  refine refused_ite not_builds (fun _ => refused_ite ?_ fun _ => refused_ite codeHeld_iff fun _ => ?_) h
  · rw [Bool.not_eq_true', ← Bool.not_eq_true, branchCodeOk_iff]
    omega
  · intro hrest
    obtain ⟨hfull, hst⟩ := Option.ite_none_right_eq_some.1 hrest
    cases hst
    rw [branches_full_iff.2 hfull]

/-- The checks of R113 passed: the lowest EMPTY slot is filled. -/
theorem openBranch_taken (hmode : s.record.mode = .setup ∨ s.record.mode = .service) (h1 : 1 ≤ code) (h2 : code ≤ 9999)
    (hnew : ∀ e ∈ s.record.branches, e.2.code ≠ code) (hslot : slot < 128) (hempty : s.branch? slot = none)
    (hlower : ∀ lower < slot, (s.branch? lower).isSome) :
    openBranch code s = (s.putBranch slot (openedBranch code), done (.slotChosen slot)) := by
  have hlow : Table.lowestEmpty s.record.branches Config.branchSlots = some slot := lowestEmpty_eq_some hslot hempty hlower
  unfold openBranch
  rw [if_neg (mt not_builds.1 (not_not.2 hmode)), if_neg (by simp [branchCodeOk_iff.2 ⟨h1, h2⟩]),
    if_neg (by simpa [codeHeld_iff] using hnew), hlow]

/-! ## DEFINE DENOMINATION (R127) -/

theorem faceOk_iff {x : Nat} : within 1 Config.faceMax x = true ↔ 1 ≤ x ∧ x ≤ 10000000 := within_iff

theorem onSale_iff {d : Denomination} : d.state = .onSale ↔ d.withdrawn = none := by
  unfold Denomination.state
  cases d.withdrawn <;> simp

theorem faceOnSale_iff : faceOnSale s face = true ↔ ∃ e ∈ s.record.denominations, e.2.face = face ∧ e.2.withdrawn = none := by
  simp only [faceOnSale, List.any_eq_true, Bool.and_eq_true, decide_eq_true_eq, onSale_iff]

theorem denominations_full_iff :
    Table.lowestEmpty s.record.denominations Config.denominationSlots = none
      ↔ ∀ slot ∈ List.range 16, (s.denomination? slot).isSome :=
  lowestEmpty_eq_none

/-- The first check that fails answers, and nothing changes (R127). -/
theorem defineDenomination_refused {st : Status}
    (h : (if ¬(s.record.mode = .setup ∨ s.record.mode = .service) then some Status.wrongMode
       else if face < 1 ∨ 10000000 < face then some .badValue
       else if ∃ e ∈ s.record.denominations, e.2.face = face ∧ e.2.withdrawn = none then some .duplicate
       else if ∀ slot ∈ List.range 16, (s.denomination? slot).isSome then some .tableFull
       else none) = some st) : defineDenomination face s = (s, refuse st) := by
  refine refused_ite not_builds (fun _ => refused_ite ?_ fun _ => refused_ite faceOnSale_iff fun _ => ?_) h
  · rw [Bool.not_eq_true', ← Bool.not_eq_true, faceOk_iff]
    omega
  · intro hrest
    obtain ⟨hfull, hst⟩ := Option.ite_none_right_eq_some.1 hrest
    cases hst
    rw [denominations_full_iff.2 hfull]

/-- The checks of R127 passed: the lowest EMPTY slot is filled. -/
theorem defineDenomination_taken (hmode : s.record.mode = .setup ∨ s.record.mode = .service) (h1 : 1 ≤ face) (h2 : face ≤ 10000000)
    (hnew : ∀ e ∈ s.record.denominations, e.2.face = face → e.2.withdrawn ≠ none) (hslot : slot < 16)
    (hempty : s.denomination? slot = none) (hlower : ∀ lower < slot, (s.denomination? lower).isSome) :
    defineDenomination face s = (s.putDenomination slot { face := face, withdrawn := none }, done (.slotChosen slot)) := by
  have hlow : Table.lowestEmpty s.record.denominations Config.denominationSlots = some slot := lowestEmpty_eq_some hslot hempty hlower
  unfold defineDenomination
  rw [if_neg (mt not_builds.1 (not_not.2 hmode)), if_neg (by simp [faceOk_iff.2 ⟨h1, h2⟩]),
    if_neg (by simpa [faceOnSale_iff] using hnew), hlow]

/-- Settles O40: the checks of the two requests are those of the statement in its order, and past them the lowest EMPTY slot is filled. -/
theorem newRecordFillsLowestSlot : Obligations.NewRecordFillsLowestSlot := by
  intro tag x s
  refine ⟨fun st h => answers_of_block rfl rfl (openBranch_refused h), ?_,
    fun st h => answers_of_block rfl rfl (defineDenomination_refused h), ?_⟩
  · intro slot hmode h1 h2 hnew hslot hempty hlower
    exact answers_of_block rfl rfl (openBranch_taken hmode h1 h2 hnew hslot hempty hlower)
  · intro slot hmode h1 h2 hnew hslot hempty hlower
    exact answers_of_block rfl rfl (defineDenomination_taken hmode h1 h2 hnew hslot hempty hlower)

/-! ## SET BRANCH (R114) -/

theorem denominationSlotOk_iff {x : Nat} : denominationSlotOk x = true ↔ x ≤ 15 :=
  (decide_eq_true_iff (p := x < 16)).trans Nat.lt_succ_iff

theorem distinctSlots_iff {l : List (Nat × Nat)} : distinctSlots l = true ↔ (l.map (·.1)).Nodup := by
  induction l with
  | nil => simp [distinctSlots]
  | cons e rest ih =>
    obtain ⟨k, n⟩ := e
    rw [distinctSlots, Bool.and_eq_true, ih, List.map_cons, List.nodup_cons, Bool.not_eq_true', List.any_eq_false, List.mem_map]
    simp only [beq_iff_eq, not_exists, not_and]

theorem levelsOk_iff {l : List (Nat × Nat)} :
    levelsOk l = true ↔ 1 ≤ l.length ∧ l.length ≤ 16 ∧ (∀ e ∈ l, e.1 ≤ 15 ∧ e.2 ≤ 9999999) ∧ (l.map (·.1)).Nodup := by
  simp only [levelsOk, Bool.and_eq_true, within_iff, List.all_eq_true, denominationSlotOk_iff, figureOk_iff, distinctSlots_iff, and_assoc,
    Config.stampMax]

/-- The range check of R114. -/
theorem branchChangesOk_iff :
    branchChangesOk c = true ↔ (∀ n ∈ c.cycleLength, n ≤ 255) ∧ (∀ n ∈ c.allowance, n ≤ 999999999999)
      ∧ ∀ l ∈ c.levels, 1 ≤ l.length ∧ l.length ≤ 16 ∧ (∀ e ∈ l, e.1 ≤ 15 ∧ e.2 ≤ 9999999) ∧ (l.map (·.1)).Nodup := by
  simp only [branchChangesOk, Bool.and_eq_true, ifPresent_iff, levelsOk_iff, decide_eq_true_eq, and_assoc]
  rfl

theorem not_branchChangesOk :
    (!branchChangesOk c) = true ↔ ((∃ n ∈ c.cycleLength, 255 < n) ∨ ∃ n ∈ c.allowance, 999999999999 < n)
      ∨ ∃ l ∈ c.levels, l = [] ∨ 16 < l.length ∨ (∃ e ∈ l, 15 < e.1 ∨ 9999999 < e.2) ∨ ¬(l.map (·.1)).Nodup := by
  rw [Bool.not_eq_true', ← Bool.not_eq_true, branchChangesOk_iff]
  simp only [not_and_or, not_forall, exists_prop, Nat.not_le, Nat.lt_one_iff, List.length_eq_zero_iff, or_assoc]

/-- The first check that fails answers, and nothing changes (R114). -/
theorem setBranch_refused {st : Status}
    (h : (if ¬(s.record.mode = .setup ∨ s.record.mode = .service) then some Status.wrongMode
       else if 127 < slot then some .badValue
       else if s.branch? slot = none then some .unknownBranch
       else if (∃ n ∈ c.cycleLength, 255 < n) ∨ (∃ n ∈ c.allowance, 999999999999 < n) then some .badValue
       else if ∃ l ∈ c.levels, l = [] ∨ 16 < l.length ∨ (∃ e ∈ l, 15 < e.1 ∨ 9999999 < e.2) ∨ ¬(l.map (·.1)).Nodup then
        some .badValue
       else none) = some st) : setBranch slot c s = (s, refuse st) := by
  refine refused_ite not_builds (fun _ => refused_ite not_branchSlotOk fun _ hrest => ?_) h
  cases hb : s.branch? slot with
  | none =>
    rw [if_pos hb, Option.some.injEq] at hrest
    rw [← hrest]
  | some b =>
    rw [if_neg (by simp [hb]), ← ite_or] at hrest
    exact refused_ite not_branchChangesOk (fun _ hdone => by cases hdone) hrest

/-- The checks of R114, passed. -/
theorem setBranch_taken (hmode : s.record.mode = .setup ∨ s.record.mode = .service) (hslot : slot < 128) (hb : s.branch? slot = some b)
    (hok : branchChangesOk c = true) {b' : Branch} (hb' : b.changed c = b') :
    setBranch slot c s =
      (s.putBranch slot b', done (.branchSet b'.cycleLength b'.allowance b'.levels b'.run b'.dayCount b'.spent b'.cycle b'.remaining)) := by
  subst hb'
  unfold setBranch
  rw [if_neg (mt not_builds.1 (not_not.2 hmode)), if_neg (by rw [not_branchSlotOk]; omega), hb]
  dsimp only
  rw [if_neg (by simp [hok])]

/-- A level that the list does not name stays. -/
theorem at'_setLevels_of_ne {levels : Figures} {l : List (Nat × Nat)} {d : Nat} (hd : ∀ e ∈ l, e.1 ≠ d) :
    Figures.at' (setLevels levels l) d = Figures.at' levels d := by
  induction l generalizing levels with
  | nil => rfl
  | cons e rest ih =>
    obtain ⟨k, n⟩ := e
    rw [setLevels, ih fun e he => hd e (List.mem_cons_of_mem _ he), Figures.at'_set_ne _ _ (hd (k, n) List.mem_cons_self).symm]

/-- A level that the list names, and names once, is the one listed. -/
theorem at'_setLevels_of_mem {levels : Figures} {l : List (Nat × Nat)} (hl : (l.map (·.1)).Nodup) {e : Nat × Nat} (he : e ∈ l) :
    Figures.at' (setLevels levels l) e.1 = e.2 := by
  induction l generalizing levels with
  | nil => cases he
  | cons x rest ih =>
    obtain ⟨k, n⟩ := x
    obtain ⟨hk, hrest⟩ := List.nodup_cons.1 hl
    rcases List.mem_cons.1 he with rfl | he
    · rw [setLevels, at'_setLevels_of_ne fun e he heq => hk (List.mem_map.2 ⟨e, he, heq⟩), Figures.at'_set_self]
    · exact ih hrest he

/-- Settles O41: the checks are those of the statement in its order; past them the present fields are changed and the listed levels set. -/
theorem setBranchChangesFields : Obligations.SetBranchChangesFields := by
  intro tag slot c s
  refine ⟨fun st h => answers_of_block rfl rfl (setBranch_refused h), ?_⟩
  intro b hmode hslot hb hlen hall hlev
  refine ⟨b.changed c, answers_of_block rfl rfl (setBranch_taken hmode hslot hb (branchChangesOk_iff.2 ⟨hlen, hall, hlev⟩) rfl), rfl, ?_, ?_⟩
  · intro l hl e he
    obtain ⟨-, -, -, hnodup⟩ := hlev l hl
    rw [Branch.changed, Option.mem_def.1 hl]
    exact at'_setLevels_of_mem hnodup he
  · intro d hd
    refine at'_setLevels_of_ne fun e he => ?_
    cases hl : c.levels with
    | none => simp [hl] at he
    | some l => exact hd l hl e (by simpa [hl] using he)

/-! ## CYCLE CONTROL (R118, R119) -/

theorem startAction_eq (b : Branch) :
    startAction b = if b.run = .stopped then some { b with run := .running, dayCount := 0, spent := 0, cycle := b.cycle + 1 } else none := by
  unfold startAction
  cases b.run <;> rfl

theorem stopAction_eq (b : Branch) : stopAction b = if b.run ≠ .stopped then some { b with run := .stopped } else none := by
  unfold stopAction
  cases b.run <;> rfl

theorem pauseAction_eq (b : Branch) : pauseAction b = if b.run = .running then some { b with run := .paused } else none := by
  unfold pauseAction
  cases b.run <;> rfl

theorem resumeAction_eq (b : Branch) : resumeAction b = if b.run = .paused then some { b with run := .running } else none := by
  unfold resumeAction
  cases b.run <;> rfl

/-- Each of the five commands is CYCLE CONTROL with an action; a START whose action code names nothing is the one that is not known
(R118; log 18). -/
theorem cycleCommand_block {c : Instr} {tag : Half}
    (hc : c = .cycleStart tag slot true ∨ c = .cycleStart tag slot false ∨ c = .cycleStop tag slot ∨ c = .cyclePause tag slot
      ∨ c = .cycleResume tag slot) (s : State) :
    ∃ action known, header c = some (0x73, tag) ∧ exec c s = .next (request c (cycleControl action known slot) s)
      ∧ (c = .cycleStart tag slot false ↔ known = false)
      ∧ ∀ b : Branch, known = true → action b =
        (if c = .cycleStart tag slot true then
          (if b.run = .stopped then some { b with run := .running, dayCount := 0, spent := 0, cycle := b.cycle + 1 } else none)
         else if c = .cycleStop tag slot then (if b.run ≠ .stopped then some { b with run := .stopped } else none)
         else if c = .cyclePause tag slot then (if b.run = .running then some { b with run := .paused } else none)
         else (if b.run = .paused then some { b with run := .running } else none)) := by
  rcases hc with rfl | rfl | rfl | rfl | rfl
  · exact ⟨startAction, true, rfl, rfl, by simp, fun b _ => by rw [if_pos rfl, startAction_eq]⟩
  · exact ⟨startAction, false, rfl, rfl, by simp, nofun⟩
  · exact ⟨stopAction, true, rfl, rfl, by simp, fun b _ => by rw [if_neg nofun, if_pos rfl, stopAction_eq]⟩
  · exact ⟨pauseAction, true, rfl, rfl, by simp, fun b _ => by rw [if_neg nofun, if_neg nofun, if_pos rfl, pauseAction_eq]⟩
  · exact ⟨resumeAction, true, rfl, rfl, by simp, fun b _ => by rw [if_neg nofun, if_neg nofun, if_neg nofun, resumeAction_eq]⟩

variable {action : Branch → Option Branch} {known : Bool}

/-- The first check that fails answers, and nothing changes (R118). -/
theorem cycleControl_refused {unnamed : Prop} [Decidable unnamed] {st : Status} (hknown : unnamed ↔ known = false)
    (h : (if s.record.mode ≠ .service then some Status.wrongMode
       else if 127 < slot ∨ unnamed then some .badValue
       else if s.branch? slot = none then some .unknownBranch
       else none) = some st) : cycleControl action known slot s = (s, refuse st) := by
  refine refused_ite not_serves (fun _ => refused_ite ?_ fun _ hrest => ?_) h
  · rw [Bool.or_eq_true, not_branchSlotOk, Bool.not_eq_true', hknown]
  · obtain ⟨hb, hst⟩ := Option.ite_none_right_eq_some.1 hrest
    cases hst
    rw [hb]

/-- The checks of R118 before the run state, passed: the action decides. -/
theorem cycleControl_checked (hmode : s.record.mode = .service) (hslot : slot < 128) (hb : s.branch? slot = some b) :
    (action b = none → cycleControl action true slot s = (s, refuse .wrongState))
      ∧ ∀ b', action b = some b' → cycleControl action true slot s =
        (s.putBranch slot b', done (.cycle b'.run b'.dayCount b'.spent b'.cycle b'.remaining)) := by
  unfold cycleControl
  rw [if_neg (by rw [not_serves, hmode]; simp), if_neg (by rw [Bool.or_eq_true, not_branchSlotOk]; simp; omega), hb]
  exact ⟨fun h => by simp only [h], fun b' h => by simp only [h]⟩

/-- Settles O43: each command is CYCLE CONTROL with its action, whose checks are those of the statement in its order. -/
theorem cycleControlMovesRunState : Obligations.CycleControlMovesRunState := by
  intro tag slot c s hc
  obtain ⟨action, known, hhead, hexec, hknown, haction⟩ := cycleCommand_block hc s
  refine ⟨fun st h => answers_of_block hhead hexec (cycleControl_refused hknown h), ?_⟩
  intro b hmode hslot hb hnamed left hleft
  have hk : known = true := Bool.eq_true_of_not_eq_false (mt hknown.2 hnamed)
  subst hk
  obtain ⟨hnone, hsome⟩ := cycleControl_checked (action := action) hmode hslot hb
  rw [← haction b rfl] at hleft
  subst hleft
  exact ⟨fun h => answers_of_block hhead hexec (hnone h), fun b' h => answers_of_block hhead hexec (hsome b' h)⟩

end Sys2Proof.Machine
end

section
/-! SUPPORT. CLOSE BRANCH (O42): the conditions of R115's table as figures, and what the closing leaves. -/

namespace Sys2Proof.Table

variable {α : Type}

theorem count_eq_length_filter (p : Nat → α → Bool) (t : Table α) : count p t = (t.filter (fun e => p e.1 e.2)).length := by
  induction t with
  | nil => rfl
  | cons e rest ih =>
    obtain ⟨k, v⟩ := e
    rw [count, ih, List.filter_cons]
    cases p k v with
    | true => exact Nat.add_comm ..
    | false => exact Nat.zero_add _

end Sys2Proof.Table

namespace Sys2Proof.Machine

variable {s : State} {slot : Nat} {b : Branch}

/-! ## The conditions of R115 -/

/-- The slot named is the lowest that holds stamps. -/
theorem firstSlot_onHand {f : Figures} (hf : Figures.Canonical f) {d : Nat} (hd : 0 < Figures.at' f d)
    (hlower : ∀ lower < d, Figures.at' f lower = 0) : Table.firstSlot (fun _ n => decide (0 < n)) f = some d := by
  cases f with
  | nil => cases hd
  | cons e rest =>
    obtain ⟨k, n⟩ := e
    have hn : n ≠ 0 := hf.2 (k, n) List.mem_cons_self
    have hk : Figures.at' ((k, n) :: rest) k = n := by rw [Figures.at', Table.find_cons, if_pos rfl, Option.getD_some]
    rw [Table.firstSlot, if_pos (decide_eq_true (Nat.pos_of_ne_zero hn))]
    rcases Nat.lt_trichotomy k d with hlt | rfl | hgt
    · exact absurd (hk.symm.trans (hlower k hlt)) hn
    · rfl
    · have hnone : Table.find ((k, n) :: rest) d = none := by
        refine Table.find_none_iff.2 fun e he => ?_
        rcases List.mem_cons.1 he with rfl | he
        · exact Nat.ne_of_gt hgt
        · exact Nat.ne_of_gt (Nat.lt_trans hgt (List.rel_of_pairwise_cons hf.1 he))
      rw [Figures.at', hnone] at hd
      cases hd

theorem metersLinked_eq (s : State) (slot : Nat) :
    metersLinked s slot = (s.record.meters.filter (fun e => decide (e.2.branch = slot))).length :=
  Table.count_eq_length_filter ..

theorem transfersNaming_eq (s : State) (slot : Nat) :
    transfersNaming s slot = (s.record.transfers.filter (fun t => decide (t.origin = slot ∨ t.destination = slot))).length := by
  simp only [transfersNaming, List.countP_eq_length_filter, Bool.decide_or]

/-- An OPEN branch without meters is held by its stamps, then by transfers (R115). -/
theorem branchObstacle_of_free (hlatch : b.latch = none) (hlinked : metersLinked s slot = 0) :
    branchObstacle s slot b =
      ((Table.firstSlot (fun _ n => decide (0 < n)) b.onHand).map BranchObstacle.stockOnHand).or
        (if 0 < transfersNaming s slot then some (.transfers (transfersNaming s slot)) else none) := by
  unfold branchObstacle
  rw [if_neg (by simp [Branch.counting, hlatch]), if_neg (by omega)]
  cases Table.firstSlot (fun _ n => decide (0 < n)) b.onHand with
  | none => rfl
  | some d => rfl

/-! ## The request -/

/-- The first check before the table that fails answers, and nothing changes (R115). -/
theorem closeBranch_refused {st : Status}
    (h : (if ¬(s.record.mode = .setup ∨ s.record.mode = .service) then some Status.wrongMode
       else if 127 < slot then some .badValue
       else if s.branch? slot = none then some .unknownBranch
       else none) = some st) : closeBranch slot s = (s, refuse st) := by
  refine refused_ite not_builds (fun _ => refused_ite not_branchSlotOk fun _ hrest => ?_) h
  obtain ⟨hb, hst⟩ := Option.ite_none_right_eq_some.1 hrest
  cases hst
  rw [hb]

/-- The checks before the table, passed: the table decides. -/
theorem closeBranch_checked (hmode : s.record.mode = .setup ∨ s.record.mode = .service) (hslot : slot < 128)
    (hb : s.branch? slot = some b) :
    (∀ o, branchObstacle s slot b = some o → closeBranch slot s = (s, refuseWith .notEmpty (.branchHeld o)))
      ∧ (branchObstacle s slot b = none → closeBranch slot s = (discardBranch slot s, done (.branchClosed b.variance b.spent))) := by
  unfold closeBranch
  rw [if_neg (mt not_builds.1 (not_not.2 hmode)), if_neg (by rw [not_branchSlotOk]; omega), hb]
  exact ⟨fun o h => by simp only [h], fun h => by simp only [h]⟩

/-- A grant out bound to the slot is no longer counted (R65). -/
theorem uncounted_eq (m : Meter) (slot : Nat) :
    m.uncounted slot =
      { m with grantOut := m.grantOut.map (fun g => { g with counted := g.counted && !decide (g.branch = slot) }) } := by
  have hgrant : (fun g : GrantOut => if g.branch = slot then { g with counted := false } else g)
      = fun g => { g with counted := g.counted && !decide (g.branch = slot) } := by
    funext g
    by_cases hg : g.branch = slot
    · simp [hg]
    · simp [hg]
  rw [Meter.uncounted, hgrant]

/-- Settles O42: the table's conditions are those of the statement in its order; past them the slot is emptied and its grants uncounted. -/
theorem closeBranchEmptiesSlot : Obligations.CloseBranchEmptiesSlot := by
  intro tag slot s
  refine ⟨fun st h => answers_of_block rfl rfl (closeBranch_refused h), ?_⟩
  intro b linked moving hmode hslot hb hlinked hmoving
  rw [← metersLinked_eq] at hlinked
  rw [← transfersNaming_eq] at hmoving
  subst hlinked hmoving
  obtain ⟨hheld, hclosed⟩ := closeBranch_checked hmode hslot hb
  refine ⟨fun hlatch => ?_, fun hlatch hpos => ?_, fun d hlatch hzero hcan hd hlower => ?_, fun hlatch hzero hempty hpos => ?_,
    fun hlatch hzero hempty hnone => ?_⟩
  · exact answers_of_block rfl rfl (hheld .counting (if_pos hlatch))
  · refine answers_of_block rfl rfl (hheld _ ?_)
    rw [branchObstacle, if_neg (by simp [Branch.counting, hlatch]), if_pos hpos]
  · refine answers_of_block rfl rfl (hheld _ ?_)
    rw [branchObstacle_of_free hlatch hzero, firstSlot_onHand hcan.1 hd hlower]
    rfl
  · refine answers_of_block rfl rfl (hheld _ ?_)
    rw [branchObstacle_of_free hlatch hzero, hempty, if_pos hpos]
    rfl
  · have hfree : branchObstacle s slot b = none := by
      rw [branchObstacle_of_free hlatch hzero, hempty, hnone]
      rfl
    refine ⟨discardBranch slot s, answers_of_block rfl rfl (hclosed hfree), rfl, Table.find_erase_self .., ?_, fun i => ?_⟩
    · exact fun other hne => Table.find_erase_ne _ hne
    · exact (Table.find_mapRecords (fun _ m => m.uncounted slot) s.record.meters i).trans
        (congrArg (Option.map · (s.meter? i)) (funext fun m => uncounted_eq m slot))

end Sys2Proof.Machine
end

section
/-! SUPPORT. The ageing of branches and transfers at CLOSE DAY (O16): the three day effects that reach a branch, each written out. -/

namespace Sys2Proof.Machine

variable {s : State} {slot : Nat} {b : Branch}

/-! ## The day effects on a branch (R120, R152, R147) -/

theorem cycleEnds_iff : b.cycleEnds = true ↔ b.run = .running ∧ 0 < b.cycleLength ∧ b.cycleLength ≤ min (b.dayCount + 1) 255 := by
  simp only [Branch.cycleEnds, Bool.and_eq_true, decide_eq_true_eq, and_assoc]
  rfl

theorem dayCounted_eq (b : Branch) :
    b.dayCounted =
      { b with
        dayCount := if b.cycleEnds then 0 else if b.run = .running then min (b.dayCount + 1) 255 else b.dayCount
        spent := if b.cycleEnds then 0 else b.spent
        cycle := if b.cycleEnds then b.cycle + 1 else b.cycle
        causes := { b.causes with cycleEnd := b.causes.cycleEnd || b.cycleEnds } } := by
  by_cases hrun : b.run = .running
  · unfold Branch.dayCounted
    rw [hrun]
    cases hends : b.cycleEnds with
    | true => simp [BranchCauses.with]
    | false =>
      simp only [Bool.false_eq_true, if_false, if_true, Bool.or_false]
      rfl
  · have hends : b.cycleEnds = false := by
      rw [← Bool.not_eq_true, cycleEnds_iff]
      exact fun h => hrun h.1
    have hstays : b.dayCounted = b := by
      unfold Branch.dayCounted
      cases h : b.run with
      | running => exact absurd h hrun
      | stopped => rfl
      | paused => rfl
    rw [hstays]
    simp [hends, hrun]

theorem countDropped_eq (b : Branch) :
    b.countDropped =
      { b with latch := none, causes := { b.causes with countAbandoned := b.causes.countAbandoned || b.latch.isSome } } := by
  unfold Branch.countDropped Branch.counting
  cases hlatch : b.latch with
  | none =>
    simp only [Option.isSome_none, Bool.false_eq_true, if_false, Bool.or_false]
    rw [← hlatch]
  | some l => simp [Branch.unlatched, BranchCauses.with]

theorem transferLate_eq (b : Branch) (late : Bool) :
    b.transferLate late = { b with causes := { b.causes with transferOverdue := b.causes.transferOverdue || late } } := by
  cases late with
  | true => simp [Branch.transferLate, BranchCauses.with]
  | false => simp [Branch.transferLate]

/-- The three day effects of a branch touch different fields (R158). -/
theorem branchDayEffect_eq (s : State) (slot : Nat) (b : Branch) :
    b.dayEffect s slot =
      { b with
        dayCount := if b.cycleEnds then 0 else if b.run = .running then min (b.dayCount + 1) 255 else b.dayCount
        spent := if b.cycleEnds then 0 else b.spent
        cycle := if b.cycleEnds then b.cycle + 1 else b.cycle
        latch := none
        causes :=
          { b.causes with
            cycleEnd := b.causes.cycleEnd || b.cycleEnds
            countAbandoned := b.causes.countAbandoned || b.latch.isSome
            transferOverdue := b.causes.transferOverdue || originOverdue s slot } } := by
  rw [Branch.dayEffect, transferLate_eq, countDropped_eq, dayCounted_eq]

theorem originOverdue_iff :
    originOverdue s slot = true ↔
      ∃ x ∈ s.record.transfers, x.origin = slot ∧ x.state = .inTransit ∧ s.inForce.overdueDays < min (x.age + 1) 255 := by
  simp only [originOverdue, Transfer.goesOverdue, List.any_eq_true, Bool.and_eq_true, decide_eq_true_eq]
  rfl

/-! ## The day effect on a transfer (R147) -/

theorem transferAged_eq (limit : Nat) (x : Transfer) :
    x.aged limit =
      { x with
        age := min (x.age + 1) 255
        state := if x.state = .inTransit ∧ limit < min (x.age + 1) 255 then .overdue else x.state } := by
  simp only [Transfer.aged, Transfer.goesOverdue, Bool.and_eq_true, decide_eq_true_eq]
  rfl

/-! ## CLOSE DAY on the tables (R158) -/

/-- The interrupt that the day effects may raise leaves record memory as they left it. -/
theorem dayAdvance_record (s : State) :
    (dayAdvance s).record =
      { s.record with
        day := s.record.day + 1
        meters := Table.mapRecords (fun slot m => m.dayEffect s (limitCycle s slot m)) s.record.meters
        branches := Table.mapRecords (fun slot b => b.dayEffect s slot) s.record.branches
        transfers := s.record.transfers.map (Transfer.aged s.inForce.overdueDays) } := by
  unfold dayAdvance
  dsimp only
  split
  · rw [raiseAttention_record]
  · rfl

theorem dayAdvance_branch? (s : State) (slot : Nat) :
    (dayAdvance s).branch? slot = (s.branch? slot).map (fun b => b.dayEffect s slot) := by
  rw [State.branch?, dayAdvance_record]
  exact Table.find_mapRecords ..

/-- A cause that the day effects set on a branch raises the attention mark while its enable is on (R170). -/
theorem dayAdvance_raises_of_branch (hb : s.branch? slot = some b) (hr : branchDayRaises s slot b = true)
    (he : s.inForce.attentionEnable = true) : (dayAdvance s).attentionMark = true := by
  have hany : dayRaises s = true :=
    Bool.or_eq_true_iff.2 (.inr (List.any_eq_true.2 ⟨_, Table.mem_of_find hb, hr⟩))
  unfold dayAdvance
  rw [if_pos hany, raiseAttention_attentionMark]
  exact Bool.or_eq_true_iff.2 (.inr he)

/-- Settles O16: each branch has its three day effects, whose causes raise the attention mark, and each transfer ages. -/
theorem closeDayAgesBranchesAndTransfers : Obligations.CloseDayAgesBranchesAndTransfers := by
  intro tag s hmode
  refine ⟨dayAdvance s, answers_of_block rfl rfl (closeDay_taken hmode), ?_, fun slot => ⟨fun hnone => ?_, fun b hb => ?_⟩⟩
  · rw [dayAdvance_record]
    exact List.map_congr_left fun x _ => transferAged_eq ..
  · rw [dayAdvance_branch?, hnone]
    rfl
  · refine ⟨b.cycleEnds, originOverdue s slot, cycleEnds_iff, originOverdue_iff, ?_, fun he hr => ?_⟩
    · rw [dayAdvance_branch?, hb, Option.map_some, branchDayEffect_eq]
    · exact dayAdvance_raises_of_branch hb hr he

end Sys2Proof.Machine
end

section
/-!
SUPPORT. The laws of counts, denominations and transfers (O57), apart from the other laws of Safety.lean. `StampLaws s` are the laws;
`StampsStand b s` says that the way from b to s moved no stamp, entered no count and left the denominations and the transfers as they
were, so that the laws carry over from b to s. First, one lemma per update of the state that lets the stamps stand.
-/

namespace Sys2Proof.Machine

variable {b s t : State}

/-- The laws of `StockSound` beside the canonical form. -/
structure StampLaws (s : State) : Prop where
  counts : CountLaw s
  emptySlots : EmptySlotLaw s
  transfers : TransferLaw s

/-- Every branch of s has its on-hand counts, and its open count where it has one, from a branch of b; no branch of b is gone; the
denominations and the transfers are those of b. -/
structure StampsStand (b s : State) : Prop where
  branches : ∀ e ∈ s.record.branches, ∃ d ∈ b.record.branches, e.2.onHand = d.2.onHand ∧ ∀ l ∈ e.2.latch, l ∈ d.2.latch
  slots : ∀ i, (b.branch? i).isSome → (s.branch? i).isSome
  denominations : s.record.denominations = b.record.denominations
  transfers : s.record.transfers = b.record.transfers
  nextTransfer : s.record.nextTransfer = b.record.nextTransfer

theorem StampsStand.refl (s : State) : StampsStand s s :=
  ⟨fun e he => ⟨e, he, rfl, fun _ => id⟩, fun _ => id, rfl, rfl, rfl⟩

theorem StampsStand.trans (h : StampsStand b s) (k : StampsStand s t) : StampsStand b t where
  branches e he := by
    obtain ⟨d, hd, hon, hlatch⟩ := k.branches e he
    obtain ⟨c, hc, hon', hlatch'⟩ := h.branches d hd
    exact ⟨c, hc, hon.trans hon', fun l hl => hlatch' l (hlatch l hl)⟩
  slots i := k.slots i ∘ h.slots i
  denominations := k.denominations.trans h.denominations
  transfers := k.transfers.trans h.transfers
  nextTransfer := k.nextTransfer.trans h.nextTransfer

/-- Where the stamps stand, so do their laws. -/
theorem StampLaws.stand (h : StampLaws b) (k : StampsStand b s) : StampLaws s := by
  obtain ⟨hcounts, ⟨honHand, hnamed, hcounted⟩, hlen, hnodup, hlisted, hnext⟩ := h
  have hden : ∀ d, (b.denomination? d).isSome → (s.denomination? d).isSome := fun d hd => by
    rwa [State.denomination?, k.denominations]
  refine ⟨fun e he l hl => ?_, ⟨fun e he f hf => ?_, fun x hx => ?_, fun e he l hl f hf => ?_⟩, ?_, ?_, fun x hx => ?_, ?_⟩
  · obtain ⟨d, hd, hon, hlatch⟩ := k.branches e he
    exact (hcounts d hd l (hlatch l hl)).trans hon.symm
  · obtain ⟨d, hd, hon, -⟩ := k.branches e he
    exact hden _ (honHand d hd f (hon ▸ hf))
  · exact hden _ (hnamed x (k.transfers ▸ hx))
  · obtain ⟨d, hd, -, hlatch⟩ := k.branches e he
    exact hden _ (hcounted d hd l (hlatch l hl) f hf)
  · rwa [k.transfers]
  · rwa [k.transfers]
  · obtain ⟨hok, hne, hor, hde⟩ := hlisted x (k.transfers ▸ hx)
    exact ⟨hok, hne, k.slots _ hor, k.slots _ hde⟩
  · rwa [k.nextTransfer]

/-! ## What the laws read -/

/-- A change outside the branches, the denominations and the transfers. -/
theorem StampsStand.congr (h : StampsStand b s) (hb : t.record.branches = s.record.branches)
    (hd : t.record.denominations = s.record.denominations) (ht : t.record.transfers = s.record.transfers)
    (hn : t.record.nextTransfer = s.record.nextTransfer) : StampsStand b t := by
  refine h.trans ⟨fun e he => ⟨e, hb ▸ he, rfl, fun _ => id⟩, fun i hi => ?_, hd, ht, hn⟩
  rwa [State.branch?, hb]

theorem StampsStand.raiseAttention (h : StampsStand b s) : StampsStand b (raiseAttention s) :=
  h.congr (by simp) (by simp) (by simp) (by simp)

theorem StampsStand.raiseIf {c : Prop} [Decidable c] (h : StampsStand b s) :
    StampsStand b (if c then Machine.raiseAttention s else s) := by
  split
  · exact h.raiseAttention
  · exact h

theorem StampsStand.withDeviceCauses (h : StampsStand b s) (c : DeviceCauses) :
    StampsStand b { s with record.deviceCauses := c } :=
  h.congr rfl rfl rfl rfl

theorem StampsStand.setDeviceCause (h : StampsStand b s) (c : DeviceCause) : StampsStand b (setDeviceCause c s) :=
  (h.withDeviceCauses _).raiseAttention

theorem StampsStand.withMode (h : StampsStand b s) (m : Mode) : StampsStand b (s.withMode m) :=
  h.congr rfl rfl rfl rfl

/-! ## The pool -/

theorem StampsStand.withPool (h : StampsStand b s) (p : Pool) : StampsStand b (s.withPool p) :=
  h.congr rfl rfl rfl rfl

theorem StampsStand.addWrittenOff (h : StampsStand b s) (n : Int) : StampsStand b (addWrittenOff n s) :=
  h.withPool _

theorem StampsStand.creditPool (h : StampsStand b s) (n : Nat) : StampsStand b (creditPool n s) := by
  obtain ⟨c, hr⟩ := creditPool_record n s
  exact h.congr (by rw [hr]) (by rw [hr]) (by rw [hr]) (by rw [hr])

theorem StampsStand.chargeUsage (h : StampsStand b s) (n : Nat) : StampsStand b (chargeUsage n s) := by
  obtain ⟨c, hr⟩ := chargeUsage_record n s
  exact h.congr (by rw [hr]) (by rw [hr]) (by rw [hr]) (by rw [hr])

theorem StampsStand.unreserve (h : StampsStand b s) (g : GrantOut) : StampsStand b (unreserve g s) :=
  h.congr (by rw [unreserve_record]) (by rw [unreserve_record]) (by rw [unreserve_record]) (by rw [unreserve_record])

/-! ## The branches -/

/-- The record of a branch changed, its on-hand counts standing and its open count standing or dropped. -/
theorem StampsStand.putBranch (h : StampsStand b s) {slot : Nat} {x x' : Branch} (hx : s.branch? slot = some x)
    (ho : x'.onHand = x.onHand) (hl : ∀ l ∈ x'.latch, l ∈ x.latch) : StampsStand b (s.putBranch slot x') := by
  refine h.trans ⟨fun e he => ?_, fun i => State.isSome_branch?_putBranch slot x', rfl, rfl, rfl⟩
  rcases Table.mem_put he with rfl | he
  · exact ⟨(slot, x), Table.mem_of_find hx, ho, hl⟩
  · exact ⟨e, he, rfl, fun _ => id⟩

theorem StampsStand.mapBranches (h : StampsStand b s) {f : Nat → Branch → Branch} (ho : ∀ i x, (f i x).onHand = x.onHand)
    (hl : ∀ i x, ∀ l ∈ (f i x).latch, l ∈ x.latch) :
    StampsStand b { s with record.branches := Table.mapRecords f s.record.branches } := by
  refine h.trans ⟨fun e he => ?_, fun i hi => ?_, rfl, rfl, rfl⟩
  · obtain ⟨x, hx, hex⟩ := Table.mem_mapRecords he
    exact ⟨(e.1, x), hx, hex ▸ ho _ _, hex ▸ hl _ _⟩
  · rw [State.branch?, Table.find_mapRecords, Option.isSome_map]
    exact hi

theorem StampsStand.setBranchCause (h : StampsStand b s) (slot : Nat) (c : BranchCause) :
    StampsStand b (setBranchCause slot c s) := by
  rcases setBranchCause_cases slot c s with ⟨-, he⟩ | ⟨x, hx, he⟩
  · rw [he]; exact h
  · rw [he]
    exact (h.putBranch (x' := { x with causes := x.causes.with c }) hx rfl fun _ => id).raiseAttention

theorem StampsStand.countSpent (h : StampsStand b s) (branch amount : Nat) : StampsStand b (countSpent branch amount s) := by
  unfold Machine.countSpent addSpent
  split
  · split
    · exact h
    · rename_i x hx
      have hw := h.putBranch (x' := { x with spent := min (x.spent + amount) Config.totalMax }) hx rfl fun _ => id
      dsimp only
      split
      · exact hw.setBranchCause _ _
      · exact hw
  · exact h

theorem StampsStand.reduceSpent (h : StampsStand b s) (g : GrantOut) : StampsStand b (reduceSpent g s) := by
  unfold Machine.reduceSpent
  split
  · exact h
  · rename_i x hx
    split
    · exact h.putBranch (x' := { x with spent := x.spent - g.amount }) hx rfl fun _ => id
    · exact h

/-! ## The meters and the queue -/

theorem StampsStand.withMeters (h : StampsStand b s) (ms : Table Meter) : StampsStand b { s with record.meters := ms } :=
  h.congr rfl rfl rfl rfl

theorem StampsStand.putMeter (h : StampsStand b s) (slot : Nat) (m : Meter) : StampsStand b (s.putMeter slot m) :=
  h.withMeters _

theorem StampsStand.setMeterCause (h : StampsStand b s) (slot : Nat) (c : MeterCause) :
    StampsStand b (setMeterCause slot c s) := by
  rcases setMeterCause_cases slot c s with ⟨-, he⟩ | ⟨m, hm, he⟩
  · rw [he]; exact h
  · rw [he]; exact (h.putMeter slot _).raiseAttention

theorem StampsStand.putEvaluated (h : StampsStand b s) (slot : Nat) (m : Meter) : StampsStand b (putEvaluated slot m s) :=
  (h.putMeter slot m.evaluated).raiseIf

theorem StampsStand.setQueueAfterRemoval (h : StampsStand b s) (rest : List QueueEntry) :
    StampsStand b (setQueueAfterRemoval rest s) := by
  obtain ⟨c, hr⟩ := setQueueAfterRemoval_record rest s
  exact h.congr (by rw [hr]) (by rw [hr]) (by rw [hr]) (by rw [hr])

theorem StampsStand.joinQueue (h : StampsStand b s) (slot amount : Nat) (origin : Origin) :
    StampsStand b (joinQueue slot amount origin s) := by
  have hq : ∀ q peak, StampsStand b { s with record.queue := q, record.queuePeak := peak } := fun _ _ => h.congr rfl rfl rfl rfl
  unfold Machine.joinQueue
  dsimp only
  split
  · exact (hq _ _).setDeviceCause _
  · exact hq _ _

theorem StampsStand.removeEntry (h : StampsStand b s) (slot : Nat) : StampsStand b (removeEntry slot s) := by
  unfold Machine.removeEntry
  split
  · exact h.setQueueAfterRemoval _
  · exact h

theorem StampsStand.emptySlot (h : StampsStand b s) (slot : Nat) : StampsStand b (emptySlot slot s) :=
  StampsStand.removeEntry (h.withMeters _) slot

end Sys2Proof.Machine
end

section
/-! SUPPORT. The stamps stand (O57) under the Grant Unit's operations and under serving. -/

namespace Sys2Proof.Machine

variable {b s t : State}

/-! ## Issue, settlement, void, late settlement -/

theorem StampsStand.issueGrant (h : StampsStand b s) (slot : Nat) (m : Meter) (kind : GrantKind) (amount : Nat) :
    StampsStand b (issueGrant slot m kind amount s) := by
  cases kind with
  | limit => exact h.putMeter slot _
  | refill => exact ((h.withPool _).countSpent m.branch amount).putMeter slot _

theorem StampsStand.settleGrant (h : StampsStand b s) (slot : Nat) (m : Meter) (g : GrantOut) :
    StampsStand b (settleGrant slot m g s) :=
  (h.unreserve g).putEvaluated slot _

theorem StampsStand.voidGrant (h : StampsStand b s) (slot : Nat) (m : Meter) (g : GrantOut) :
    StampsStand b (voidGrant slot m g s) :=
  (((h.unreserve g).reduceSpent g).putMeter slot _).raiseAttention

theorem StampsStand.lateSettle (h : StampsStand b s) {slot : Nat} {m : Meter} {v : Voided} (ht : lateSettle slot m v s = some t) :
    StampsStand b t := by
  rcases lateSettle_some ht with ⟨-, rfl⟩ | ⟨-, -, rfl⟩
  · exact h.putEvaluated slot _
  · exact ((h.withPool _).countSpent m.branch v.amount).putEvaluated slot _

theorem StampsStand.enterDispute (h : StampsStand b s) (slot : Nat) (m : Meter) : StampsStand b (enterDispute slot m s) :=
  (h.putMeter slot _).raiseAttention

/-! ## Serving -/

/-- A round of serving (R86 to R89). -/
theorem StampsStand.serveRound (h : StampsStand b s) (hr : serveRound s = .issued t ∨ serveRound s = .removed t) :
    StampsStand b t := by
  rcases serveRound_cases s with he | ⟨e, rest, m, g, reason, a, -, -, -, -, -, he⟩ | ⟨e, rest, m, st, f, -, -, -, -, he⟩ |
      ⟨e, rest, m, -, -, -, he⟩ | ⟨e, rest, -, -, he⟩
  · simp [he] at hr
  · simp only [he, Round.issued.injEq, reduceCtorEq, or_false] at hr
    subst hr
    exact ((h.setQueueAfterRemoval rest).issueGrant e.slot m .refill a).setMeterCause _ _
  · simp only [he, Round.removed.injEq, reduceCtorEq, false_or] at hr
    subst hr
    exact ((h.setQueueAfterRemoval rest).putMeter e.slot _).setMeterCause _ _
  · simp only [he, Round.removed.injEq, reduceCtorEq, false_or] at hr
    subst hr
    exact (h.setQueueAfterRemoval rest).setMeterCause _ _
  · simp only [he, Round.removed.injEq, reduceCtorEq, false_or] at hr
    subst hr
    exact h.setQueueAfterRemoval rest

theorem StampsStand.serveQueue (h : StampsStand b s) : StampsStand b (serveQueue s).state :=
  serveQueue_keeps (P := StampsStand b) (fun _ _ hs hr => hs.serveRound hr) s h

theorem StampsStand.creditAndServe (h : StampsStand b s) (n : Nat) : StampsStand b (creditAndServe n s).state := by
  unfold Machine.creditAndServe
  split
  · exact h
  · exact (h.creditPool n).serveQueue

theorem StampsStand.voidAndCredit (h : StampsStand b s) (slot : Nat) (m : Meter) (g : GrantOut) :
    StampsStand b (voidAndCredit slot m g s) :=
  (h.voidGrant slot m g).creditAndServe _

end Sys2Proof.Machine
end

section
/-! SUPPORT. The stamps stand (O57) under the requests of meters, grants, reports, the queue and the funds. -/

namespace Sys2Proof.Machine

variable {b s t : State}

/-! ## The Account Table -/

theorem StampsStand.retireMeter (h : StampsStand b s) (slot : Nat) : StampsStand b (retireMeter slot s).1 := by
  unfold Machine.retireMeter
  refine ite_state (fun _ => h) fun _ => ite_state (fun _ => h) fun _ => ?_
  cases s.meter? slot with
  | none => exact h
  | some m =>
    refine ite_state (fun _ => h) fun _ => ?_
    have hvoid : StampsStand b (retireVoid slot m s) := by
      unfold retireVoid
      cases m.grantOut with
      | none => exact h
      | some g => exact h.voidAndCredit slot m g
    have he := (hvoid.addWrittenOff (prepaidShare m)).emptySlot slot
    dsimp only [retire]
    split
    · exact he.serveQueue
    · exact he

theorem StampsStand.enrolMeter (h : StampsStand b s) (e : Enrolment) : StampsStand b (enrolMeter e s).1 := by
  unfold Machine.enrolMeter
  refine ite_state (fun _ => h) fun _ => ite_state (fun _ => h) fun _ => ite_state (fun _ => h) fun _ =>
    ite_state (fun _ => h) fun _ => ite_state (fun _ => h) fun _ => ?_
  split
  · exact h
  · exact ite_state (fun _ => h) fun _ => StampsStand.putEvaluated (h.withPool _) _ _
  · exact h

theorem StampsStand.putChanged (h : StampsStand b s) (slot : Nat) (m : Meter) (c : MeterChanges) :
    StampsStand b (putChanged slot m c s) := by
  unfold Machine.putChanged
  split
  · exact h.putEvaluated slot _
  · exact h.putMeter slot _

theorem StampsStand.applyChanges (h : StampsStand b s) (slot : Nat) (m : Meter) (c : MeterChanges) :
    StampsStand b (applyChanges slot m c s).1 := by
  unfold Machine.applyChanges
  refine ite_state (fun _ => h.putChanged slot m c) fun _ => ?_
  split
  · exact h
  · split
    · exact (h.putChanged slot m c).creditAndServe _
    · exact ite_state (fun _ => h) fun _ => StampsStand.putChanged (h.withPool _) slot m c

theorem StampsStand.setMeter (h : StampsStand b s) (slot : Nat) (c : MeterChanges) : StampsStand b (setMeter slot c s).1 := by
  unfold Machine.setMeter
  refine ite_state (fun _ => h) fun _ => ite_state (fun _ => h) fun _ => ?_
  cases s.meter? slot with
  | none => exact h
  | some m =>
    exact ite_state (fun _ => h) fun _ => ite_state (fun _ => h) fun _ => ite_state (fun _ => h) fun _ => h.applyChanges slot m c

theorem StampsStand.reassignMeter (h : StampsStand b s) (slot branch : Nat) :
    StampsStand b (reassignMeter slot branch s).1 := by
  unfold Machine.reassignMeter
  refine ite_state (fun _ => h) fun _ => ite_state (fun _ => h) fun _ => ?_
  cases s.meter? slot with
  | none => exact h
  | some m =>
    exact ite_state (fun _ => h) fun _ => ite_state (fun _ => h) fun _ => ite_state (fun _ => h) fun _ => h.putMeter slot _

theorem StampsStand.closeMeter (h : StampsStand b s) (slot : Nat) : StampsStand b (closeMeter slot s).1 := by
  unfold Machine.closeMeter
  refine ite_state (fun _ => h) fun _ => ite_state (fun _ => h) fun _ => ?_
  cases s.meter? slot with
  | none => exact h
  | some m =>
    dsimp only
    cases m.state with
    | dispute => exact h
    | closing => exact h
    | active => exact ite_state (fun _ => h) fun _ => h.putMeter slot _
    | overdue => exact ite_state (fun _ => h) fun _ => h.putMeter slot _

theorem StampsStand.readMeter (h : StampsStand b s) (slot : Nat) (take : Coded Bool) :
    StampsStand b (readMeter slot take s).1 := by
  unfold Machine.readMeter
  refine ite_state (fun _ => h) fun _ => ite_state (fun _ => h) fun _ => ?_
  cases take with
  | unknown => exact h
  | value takes =>
    cases s.meter? slot with
    | none => exact h
    | some m =>
      dsimp only
      split
      · exact h.putMeter slot _
      · exact h

/-! ## Refills and limits -/

/-- Whatever the decision on a request is. -/
theorem StampsStand.actOnRequest (h : StampsStand b s) (slot : Nat) (m : Meter) (kind : GrantKind) (d : Decision) :
    StampsStand b (actOnRequest slot m kind d s).1 := by
  cases d with
  | refused st f => exact h.putMeter slot _
  | join amount => exact h.joinQueue slot amount .host
  | issue amount reason => exact h.issueGrant slot m kind amount

theorem StampsStand.grantRequest (h : StampsStand b s) (kind : GrantKind) (slot amount : Nat) :
    StampsStand b (grantRequest kind slot amount s).1 := by
  unfold Machine.grantRequest
  refine ite_state (fun _ => h) fun _ => ?_
  cases s.meter? slot with
  | none => exact h
  | some m =>
    refine ite_state (fun _ => h) fun _ => ?_
    unfold answerRequest
    split
    · exact h
    · exact h.actOnRequest slot m kind _

theorem StampsStand.confirmOut (h : StampsStand b s) (slot : Nat) (m : Meter) (g : GrantOut) (total : Nat) :
    StampsStand b (confirmOut slot m g total s).1 := by
  unfold Machine.confirmOut
  exact ite_state (fun _ => h.settleGrant slot m g) fun _ => ite_state (fun _ => h.voidAndCredit slot m g) fun _ => h.putMeter slot _

theorem StampsStand.confirmVoided (h : StampsStand b s) (slot : Nat) (m : Meter) (v : Voided) (total : Nat) :
    StampsStand b (confirmVoided slot m v total s).1 := by
  unfold Machine.confirmVoided
  refine ite_state (fun _ => ?_) fun _ => h
  cases hs : Machine.lateSettle slot m v s with
  | some s' => exact h.lateSettle hs
  | none => exact h.enterDispute slot m

theorem StampsStand.loadConfirm (h : StampsStand b s) (slot number total : Nat) :
    StampsStand b (loadConfirm slot number total s).1 := by
  unfold Machine.loadConfirm
  refine ite_state (fun _ => h) fun _ => ite_state (fun _ => h) fun _ => ?_
  cases s.meter? slot with
  | none => exact h
  | some m =>
    dsimp only
    unfold confirm
    split
    · exact ite_state (fun _ => h.confirmOut slot m _ total) fun _ => h
    · exact ite_state (fun _ => h.confirmVoided slot m _ total) fun _ => h
    · exact h

theorem StampsStand.cancelGrant (h : StampsStand b s) (slot number : Nat) : StampsStand b (cancelGrant slot number s).1 := by
  unfold Machine.cancelGrant
  refine ite_state (fun _ => h) fun _ => ite_state (fun _ => h) fun _ => ?_
  cases s.meter? slot with
  | none => exact h
  | some m =>
    dsimp only
    cases m.grantOut with
    | none => exact h
    | some g => exact ite_state (fun _ => h.voidAndCredit slot m g) fun _ => h

theorem StampsStand.expire (h : StampsStand b s) (slot : Nat) : StampsStand b (expire slot s) := by
  unfold Machine.expire
  cases s.meter? slot with
  | none => exact h
  | some m =>
    dsimp only
    cases m.grantOut with
    | none => exact h
    | some g =>
      dsimp only
      split
      · exact h.voidAndCredit slot m g
      · exact h

theorem StampsStand.cancelQueued (h : StampsStand b s) (slot : Nat) : StampsStand b (cancelQueued slot s).1 := by
  unfold Machine.cancelQueued
  refine ite_state (fun _ => h) fun _ => ite_state (fun _ => h) fun _ => ite_state (fun _ => h) fun _ => ?_
  split
  · exact h
  · dsimp only
    split
    · exact (h.removeEntry slot).serveQueue
    · exact h.removeEntry slot

theorem StampsStand.readQueue (h : StampsStand b s) (start : Nat) : StampsStand b (readQueue start s).1 := by
  unfold Machine.readQueue
  exact ite_state (fun _ => h) fun _ => ite_state (fun _ => h) fun _ => h.congr rfl rfl rfl rfl

/-! ## METER REPORT and RESOLVE METER -/

theorem StampsStand.settleFor (h : StampsStand b s) {slot : Nat} {m : Meter} {x : Settlement}
    (ht : settleFor slot m s x = some t) : StampsStand b t := by
  cases x with
  | none => cases ht; exact h
  | grant g => cases ht; exact h.settleGrant slot m g
  | late v => exact h.lateSettle ht

theorem StampsStand.settleReport (h : StampsStand b s) (slot : Nat) (m : Meter) (q : Half) (a d : Nat) :
    StampsStand b (settleReport slot m q a d s) := by
  have hf : StampsStand b (addFranked (a - m.ascending) (Machine.putEvaluated slot (m.reported q a d) s)) :=
    (h.putEvaluated slot _).withPool _
  unfold Machine.settleReport chargeFor
  cases m.kind with
  | prepaid => exact hf
  | postpaid => exact hf.chargeUsage _

theorem StampsStand.retireClosing (h : StampsStand b s) (slot credit : Nat) (kind : MeterKind) :
    StampsStand b (retireClosing slot credit kind s) := by
  have he := h.emptySlot slot
  have hserve : StampsStand b (if headIs s slot then (Machine.serveQueue (Machine.emptySlot slot s)).state
      else Machine.emptySlot slot s) := by
    split
    · exact he.serveQueue
    · exact he
  unfold Machine.retireClosing
  cases kind with
  | postpaid => exact hserve
  | prepaid =>
    dsimp only
    split
    · exact hserve
    · exact he.creditAndServe _

theorem StampsStand.topUp (h : StampsStand b s) (slot : Nat) : StampsStand b (topUp slot s).1 := by
  unfold Machine.topUp
  cases s.meter? slot with
  | none => exact h
  | some m =>
    dsimp only
    split
    · cases topUpDecision s m with
      | refused st f =>
        dsimp only [actOnTopUp, refusedTopUp]
        split
        · exact (h.putMeter slot _).setMeterCause _ _
        · exact (h.putMeter slot _).setMeterCause _ _
      | join amount => exact h.joinQueue slot amount .auto
      | issue amount reason => exact (h.issueGrant slot m .refill amount).setMeterCause _ _
    · exact h

theorem StampsStand.acceptReport (h : StampsStand b s) (slot : Nat) (m : Meter) (first : SettledFirst) (q : Half) (a d : Nat) :
    StampsStand b (acceptReport slot m first q a d s).1 := by
  have hr := h.settleReport slot m q a d
  unfold Machine.acceptReport
  dsimp only
  split
  · exact hr.retireClosing _ _ _
  · exact hr.topUp slot

theorem StampsStand.reportOn (h : StampsStand b s) (slot : Nat) (m : Meter) (q : Half) (a d : Nat) :
    StampsStand b (reportOn slot m q a d s).1 := by
  unfold Machine.reportOn
  split
  · exact h.putMeter slot _
  · refine ite_state (fun _ => h) fun _ => ?_
    dsimp only
    split
    · rename_i t ht
      have h' := h.settleFor ht
      unfold judgeReport
      cases t.meter? slot with
      | none => exact h'
      | some m' => exact ite_state (fun _ => h'.acceptReport slot m' _ q a d) fun _ => h'.enterDispute slot _
    · exact h.enterDispute slot m

theorem StampsStand.meterReport (h : StampsStand b s) (slot : Nat) (q : Half) (a d : Nat) :
    StampsStand b (meterReport slot q a d s).1 := by
  unfold Machine.meterReport
  refine ite_state (fun _ => h) fun _ => ite_state (fun _ => h) fun _ => ?_
  cases s.meter? slot with
  | none => exact h
  | some m => exact ite_state (fun _ => h) fun _ => h.reportOn slot m q a d

theorem StampsStand.resolve (h : StampsStand b s) (slot : Nat) (m : Meter) (a d : Nat) :
    StampsStand b (resolve slot m a d s).1 := by
  have hvoid : StampsStand b (resolveVoid slot m s) := by
    unfold resolveVoid
    cases m.grantOut with
    | none => exact h
    | some g => exact h.voidGrant slot m g
  have hr : StampsStand b (resolveRecord slot m a d s) := StampsStand.putEvaluated (hvoid.withPool _) slot _
  show StampsStand b (resolveFunds m a d (resolveRecord slot m a d s))
  unfold resolveFunds
  split
  · exact hr.chargeUsage _
  · dsimp only
    split
    · exact hr.creditAndServe _
    · exact hr.withPool _

theorem StampsStand.resolveMeter (h : StampsStand b s) (slot a d : Nat) : StampsStand b (resolveMeter slot a d s).1 := by
  unfold Machine.resolveMeter
  refine ite_state (fun _ => h) fun _ => ite_state (fun _ => h) fun _ => ?_
  cases s.meter? slot with
  | none => exact h
  | some m =>
    exact ite_state (fun _ => h) fun _ => ite_state (fun _ => h) fun _ => ite_state (fun _ => h) fun _ =>
      ite_state (fun _ => h) fun _ => h.resolve slot m a d

/-! ## DEPOSIT and REFUND -/

theorem StampsStand.deposit (h : StampsStand b s) (n : Nat) : StampsStand b (deposit n s).1 := by
  unfold Machine.deposit
  exact ite_state (fun _ => h) fun _ => ite_state (fun _ => h) fun _ => ite_state (fun _ => h) fun _ =>
    ite_state (fun _ => h) fun _ => StampsStand.creditAndServe (h.withPool _) n

theorem StampsStand.refund (h : StampsStand b s) (n : Nat) : StampsStand b (refund n s).1 := by
  unfold Machine.refund
  exact ite_state (fun _ => h) fun _ => ite_state (fun _ => h) fun _ => ite_state (fun _ => h) fun _ =>
    ite_state (fun _ => h) fun _ => h.withPool _

/-! ## TAKE ATTENTION and the settings -/

theorem StampsStand.takeAttention (h : StampsStand b s) (subject slot : Nat) (causes : Half) :
    StampsStand b (takeAttention subject slot causes s).1 := by
  unfold Machine.takeAttention
  refine ite_state (fun _ => h) fun _ => ?_
  split
  · unfold takeFromMeter
    refine ite_state (fun _ => h) fun _ => ?_
    cases s.meter? slot with
    | none => exact h
    | some m => exact h.putMeter slot _
  · unfold takeFromBranch
    refine ite_state (fun _ => h) fun _ => ?_
    cases hx : s.branch? slot with
    | none => exact h
    | some x => exact h.putBranch (x' := { x with causes := branchCausesLess x.causes causes }) hx rfl fun _ => id
  · unfold takeFromDevice
    exact ite_state (fun _ => h) fun _ => h.withDeviceCauses _
  · exact h

theorem StampsStand.applyFields (h : StampsStand b s) (l : List SettingField) : StampsStand b (applyFields l s) := by
  obtain ⟨c, hr⟩ := applyFields_record l s
  exact h.congr (by rw [hr]) (by rw [hr]) (by rw [hr]) (by rw [hr])

theorem StampsStand.writeStored (h : StampsStand b s) (p : SettingsPatch) : StampsStand b (writeStored p s) :=
  StampsStand.applyFields (s := { s with stored := storePatch p s.stored, choices := s.choices + 1 }) (h.congr rfl rfl rfl rfl) _

theorem StampsStand.writeSettings (h : StampsStand b s) (p : SettingsPatch) : StampsStand b (writeSettings p s).1 := by
  unfold Machine.writeSettings
  exact ite_state (fun _ => h) fun _ => h.writeStored p

theorem StampsStand.enterService (h : StampsStand b s) : StampsStand b (enterService s).state := by
  unfold Machine.enterService
  exact ((h.withMode .service).applyFields serviceEntryClass).serveQueue

theorem StampsStand.setMode (h : StampsStand b s) (target : Coded Mode) : StampsStand b (setMode target s).1 := by
  unfold Machine.setMode
  refine ite_state (fun _ => h) fun _ => ?_
  split
  · exact h
  · exact h
  · refine ite_state (fun _ => h) fun _ => ite_state (fun _ => ?_) fun _ => h.withMode _
    dsimp only
    exact h.enterService

/-! ## SET BRANCH, READ BRANCH and CYCLE CONTROL -/

theorem StampsStand.setBranch (h : StampsStand b s) (slot : Nat) (c : BranchChanges) : StampsStand b (setBranch slot c s).1 := by
  unfold Machine.setBranch
  refine ite_state (fun _ => h) fun _ => ite_state (fun _ => h) fun _ => ?_
  cases hx : s.branch? slot with
  | none => exact h
  | some x => exact ite_state (fun _ => h) fun _ => h.putBranch (x' := x.changed c) hx rfl fun _ => id

theorem StampsStand.readBranch (h : StampsStand b s) (slot : Nat) (take : Coded Bool) :
    StampsStand b (readBranch slot take s).1 := by
  unfold Machine.readBranch
  refine ite_state (fun _ => h) fun _ => ite_state (fun _ => h) fun _ => ?_
  cases take with
  | unknown => exact h
  | value takes =>
    cases hx : s.branch? slot with
    | none => exact h
    | some x =>
      dsimp only
      split
      · exact h.putBranch (x' := { x with variance := 0 }) hx rfl fun _ => id
      · exact h

theorem StampsStand.cycleControl (h : StampsStand b s) {action : Branch → Option Branch} (ha : CycleAction action) (known : Bool)
    (slot : Nat) : StampsStand b (cycleControl action known slot s).1 := by
  unfold Machine.cycleControl
  refine ite_state (fun _ => h) fun _ => ite_state (fun _ => h) fun _ => ?_
  cases hx : s.branch? slot with
  | none => exact h
  | some x =>
    dsimp only
    cases hact : action x with
    | none => exact h
    | some x' =>
      obtain ⟨run, cycle, rfl | rfl⟩ := ha x x' hact
      · exact h.putBranch hx rfl fun _ => id
      · exact h.putBranch hx rfl fun _ => id

/-! ## Reads -/

theorem StampsStand.readAttention (h : StampsStand b s) (start : Nat) : StampsStand b (readAttention start s).1 := by
  unfold Machine.readAttention
  exact ite_state (fun _ => h) fun _ => ite_state (fun _ => h) fun _ => h

theorem StampsStand.readPosition (h : StampsStand b s) : StampsStand b (readPosition s).1 := by
  unfold Machine.readPosition
  exact ite_state (fun _ => h) fun _ => h

theorem StampsStand.readDenominations (h : StampsStand b s) : StampsStand b (readDenominations s).1 := by
  unfold Machine.readDenominations
  exact ite_state (fun _ => h) fun _ => h

theorem StampsStand.readTransfers (h : StampsStand b s) (start : Nat) : StampsStand b (readTransfers start s).1 := by
  unfold Machine.readTransfers
  exact ite_state (fun _ => h) fun _ => ite_state (fun _ => h) fun _ => h

theorem StampsStand.readCount (h : StampsStand b s) (slot : Nat) : StampsStand b (readCount slot s).1 := by
  unfold Machine.readCount
  refine ite_state (fun _ => h) fun _ => ite_state (fun _ => h) fun _ => ?_
  cases s.branch? slot with
  | none => exact h
  | some x =>
    dsimp only
    cases x.latch with
    | none => exact h
    | some l => exact h

end Sys2Proof.Machine
end

section
/-!
SUPPORT. The laws of counts, denominations and transfers (O57) where stamps move: under the requests of branches, denominations, stock,
transfers and counts.
-/

namespace Sys2Proof.Machine

variable {s t : State}

/-! ## What these requests change -/

/-- The laws are of record memory alone. -/
theorem StampLaws.congr (h : StampLaws s) (hr : t.record = s.record) : StampLaws t :=
  h.stand ((StampsStand.refl s).congr (by rw [hr]) (by rw [hr]) (by rw [hr]) (by rw [hr]))

/-- The laws of one branch record. -/
abbrev Branch.Stamped (s : State) (x : Branch) : Prop :=
  (∀ l ∈ x.latch, l.latched = x.onHand) ∧ x.FiguresListed s

theorem StampLaws.stamped (h : StampLaws s) {slot : Nat} {x : Branch} (hx : s.branch? slot = some x) : x.Stamped s := by
  have hmem := Table.mem_of_find hx
  obtain ⟨honHand, -, hcounted⟩ := h.emptySlots
  exact ⟨h.counts _ hmem, honHand _ hmem, hcounted _ hmem⟩

theorem StampLaws.putBranch (h : StampLaws s) (slot : Nat) {x : Branch} (hx : x.Stamped s) : StampLaws (s.putBranch slot x) := by
  obtain ⟨hcount, honHand, hcounted⟩ := hx
  obtain ⟨hcounts, ⟨h1, h2, h3⟩, hlen, hnodup, hlisted, hnext⟩ := h
  refine ⟨fun e he => ?_, ⟨fun e he => ?_, h2, fun e he => ?_⟩, hlen, hnodup, fun y hy => ?_, hnext⟩
  · rcases Table.mem_put he with rfl | he
    · exact hcount
    · exact hcounts e he
  · rcases Table.mem_put he with rfl | he
    · exact honHand
    · exact h1 e he
  · rcases Table.mem_put he with rfl | he
    · exact hcounted
    · exact h3 e he
  · obtain ⟨hok, hne, hor, hde⟩ := hlisted y hy
    exact ⟨hok, hne, State.isSome_branch?_putBranch slot x hor, State.isSome_branch?_putBranch slot x hde⟩

/-- Another list of transfers between branches that are not EMPTY, of denominations that are not EMPTY (R142, R143). -/
theorem StampLaws.withTransfers (h : StampLaws s) {l : List Transfer} {next : Nat} (hlen : l.length ≤ Config.transferPlaces)
    (hnodup : (l.map (·.number)).Nodup) (hnext : numberOk next = true)
    (hl : ∀ x ∈ l, (s.denomination? x.denomination).isSome
      ∧ numberOk x.number ∧ x.origin ≠ x.destination ∧ (s.branch? x.origin).isSome ∧ (s.branch? x.destination).isSome) :
    StampLaws { s with record.transfers := l, record.nextTransfer := next } := by
  obtain ⟨honHand, -, hcounted⟩ := h.emptySlots
  exact ⟨h.counts, ⟨honHand, fun x hx => (hl x hx).1, hcounted⟩, hlen, hnodup, fun x hx => (hl x hx).2, hnext⟩

theorem StampLaws.entry (h : StampLaws s) {x : Transfer} (hx : x ∈ s.record.transfers) :
    (s.denomination? x.denomination).isSome
      ∧ numberOk x.number ∧ x.origin ≠ x.destination ∧ (s.branch? x.origin).isSome ∧ (s.branch? x.destination).isSome := by
  obtain ⟨-, hnamed, -⟩ := h.emptySlots
  obtain ⟨-, -, hlisted, -⟩ := h.transfers
  exact ⟨hnamed x hx, hlisted x hx⟩

/-- Another Denomination Table that fills every slot a record names (R129). -/
theorem StampLaws.withDenominations (h : StampLaws s) {ds : Table Denomination}
    (hk : ∀ d, s.Names d → (s.denomination? d).isSome → (Table.find ds d).isSome) :
    StampLaws { s with record.denominations := ds } := by
  have hsome : ∀ d, s.Names d → (Table.find ds d).isSome := fun d hd => hk d hd (h.emptySlots.of_names hd)
  exact ⟨h.counts, ⟨fun e he f hf => hsome _ (.inl ⟨e, he, f, hf, rfl⟩), fun x hx => hsome _ (.inr (.inl ⟨x, hx, rfl⟩)),
    fun e he l hl f hf => hsome _ (.inr (.inr ⟨e, he, l, hl, f, hf, rfl⟩))⟩, h.transfers⟩

theorem StampLaws.putDenomination (h : StampLaws s) (slot : Nat) (x : Denomination) : StampLaws (s.putDenomination slot x) := by
  refine h.withDenominations fun d _ hd => ?_
  rw [Table.find_put]
  split
  · rfl
  · exact hd

/-! ## The branches -/

theorem StampLaws.openBranch (h : StampLaws s) (code : Nat) : StampLaws (openBranch code s).1 := by
  unfold Machine.openBranch
  refine ite_state (fun _ => h) fun _ => ite_state (fun _ => h) fun _ => ite_state (fun _ => h) fun _ => ?_
  split
  · exact h
  · exact h.putBranch _ ⟨by simp [openedBranch], by simp [openedBranch], by simp [openedBranch]⟩

/-- A branch slot that no transfer names becomes EMPTY. -/
theorem StampLaws.dropBranch (h : StampLaws s) {slot : Nat}
    (ht : ∀ x ∈ s.record.transfers, x.origin ≠ slot ∧ x.destination ≠ slot) :
    StampLaws { s with record.branches := Table.erase s.record.branches slot } := by
  obtain ⟨hcounts, ⟨h1, h2, h3⟩, hlen, hnodup, hlisted, hnext⟩ := h
  refine ⟨fun e he => hcounts e (Table.mem_erase he).1, ⟨fun e he => h1 e (Table.mem_erase he).1, h2,
    fun e he => h3 e (Table.mem_erase he).1⟩, hlen, hnodup, fun x hx => ?_, hnext⟩
  obtain ⟨hok, hne, hor, hde⟩ := hlisted x hx
  obtain ⟨hnor, hnde⟩ := ht x hx
  refine ⟨hok, hne, ?_, ?_⟩
  · rwa [State.branch?, Table.find_erase_ne _ hnor]
  · rwa [State.branch?, Table.find_erase_ne _ hnde]

theorem StampLaws.closeBranch (h : StampLaws s) (slot : Nat) : StampLaws (closeBranch slot s).1 := by
  unfold Machine.closeBranch
  refine ite_state (fun _ => h) fun _ => ite_state (fun _ => h) fun _ => ?_
  cases s.branch? slot with
  | none => exact h
  | some x =>
    dsimp only
    cases ho : branchObstacle s slot x with
    | some o => exact h
    | none =>
      obtain ⟨-, -, ht⟩ := branchObstacle_none ho
      exact (h.dropBranch ht).stand ((StampsStand.refl _).withMeters _)

/-! ## The denominations -/

theorem StampLaws.defineDenomination (h : StampLaws s) (face : Nat) : StampLaws (defineDenomination face s).1 := by
  unfold Machine.defineDenomination
  refine ite_state (fun _ => h) fun _ => ite_state (fun _ => h) fun _ => ite_state (fun _ => h) fun _ => ?_
  split
  · exact h
  · exact h.putDenomination _ _

theorem StampLaws.withdrawDenomination (h : StampLaws s) (slot : Nat) : StampLaws (withdrawDenomination slot s).1 := by
  unfold Machine.withdrawDenomination
  refine ite_state (fun _ => h) fun _ => ite_state (fun _ => h) fun _ => ?_
  cases s.denomination? slot with
  | none => exact h
  | some d =>
    dsimp only
    cases d.state with
    | withdrawn => exact h
    | onSale => exact h.putDenomination _ _

theorem firstSlot_eq_head? {α : Type} (p : Nat → α → Bool) (t : Table α) :
    Table.firstSlot p t = ((t.filter (fun e => p e.1 e.2)).head?).map (·.1) := by
  induction t with
  | nil => rfl
  | cons e rest ih =>
    obtain ⟨k, v⟩ := e
    rw [Table.firstSlot, List.filter_cons]
    cases p k v with
    | true => rfl
    | false => exact ih

/-- The conditions of R129's table in its order: branches that hold stamps, transfers, branches with an open count. -/
theorem denominationObstacle_eq (s : State) (slot : Nat) {holding counting : List (Nat × Branch)} {moving : Nat}
    (hh : holding = s.record.branches.filter (fun e => decide (0 < Figures.at' e.2.onHand slot)))
    (hc : counting = s.record.branches.filter (fun e => e.2.latch.isSome))
    (hm : moving = (s.record.transfers.filter (fun t => decide (t.denomination = slot))).length) :
    denominationObstacle s slot =
      (holding.head?.map fun e => DenominationObstacle.stockOnHand e.1 holding.length).or
        (if 0 < moving then some (.transfers moving) else counting.head?.map fun e => .countOpen e.1) := by
  have hcount : branchesHolding s slot = holding.length := by rw [hh]; exact Table.count_eq_length_filter ..
  have hfirst : Table.firstSlot (fun _ (x : Branch) => decide (0 < x.count slot)) s.record.branches = holding.head?.map (·.1) := by
    rw [hh]; exact firstSlot_eq_head? ..
  have hopen : Table.firstSlot (fun _ (x : Branch) => x.counting) s.record.branches = counting.head?.map (·.1) := by
    rw [hc]; exact firstSlot_eq_head? ..
  subst hm
  unfold denominationObstacle
  rw [hfirst, hcount, hopen]
  cases holding with
  | cons e rest => rfl
  | nil => cases counting <;> rfl

/-- A denomination slot that R129 lets be retired is named by no record. -/
theorem not_names_of_obstacle_none (hc : ∀ e ∈ s.record.branches, e.2.Canonical) {slot : Nat}
    (h : denominationObstacle s slot = none) : ¬s.Names slot := by
  rw [denominationObstacle_eq s slot rfl rfl rfl, Option.or_eq_none_iff, Option.map_eq_none_iff, List.head?_eq_none_iff,
    List.filter_eq_nil_iff] at h
  obtain ⟨hstock, hrest⟩ := h
  split at hrest
  · cases hrest
  · rename_i hmoving
    rw [Option.map_eq_none_iff, List.head?_eq_none_iff, List.filter_eq_nil_iff] at hrest
    rintro (⟨e, he, f, hf, rfl⟩ | ⟨x, hx, rfl⟩ | ⟨e, he, l, hl, -⟩)
    · obtain ⟨⟨hsorted, hpos⟩, -⟩ := hc e he
      have hat : Figures.at' e.2.onHand f.1 = f.2 := by
        rw [Figures.at', Table.find_of_mem hsorted (v := f.2) hf, Option.getD_some]
      exact hstock e he (decide_eq_true (hat ▸ Nat.pos_of_ne_zero (hpos f hf)))
    · exact hmoving (List.length_pos_of_mem (List.mem_filter.2 ⟨hx, decide_eq_true rfl⟩))
    · exact hrest e he (by rw [Option.mem_def.1 hl]; rfl)

theorem StampLaws.retireDenomination (h : StampLaws s) (hc : ∀ e ∈ s.record.branches, e.2.Canonical) (slot : Nat) :
    StampLaws (retireDenomination slot s).1 := by
  unfold Machine.retireDenomination
  refine ite_state (fun _ => h) fun _ => ite_state (fun _ => h) fun _ => ?_
  split
  · exact h
  split
  · exact h
  split
  · exact h
  rename_i ho
  refine h.withDenominations fun d hd hsome => ?_
  have hne : d ≠ slot := fun heq => not_names_of_obstacle_none hc ho (heq ▸ hd)
  rwa [Table.find_erase_ne _ hne]

/-! ## The movements of stock -/

/-- A branch that is not counting, with another count of a slot that is not EMPTY. -/
theorem StampLaws.recount (h : StampLaws s) {slot : Nat} {x : Branch} (hx : s.branch? slot = some x) (hl : x.latch = none) {d : Nat}
    (hd : (s.denomination? d).isSome) (n : Nat) (c : BranchCauses) :
    StampLaws (s.putBranch slot { x.withCount d n with causes := c }) := by
  obtain ⟨-, honHand, -⟩ := h.stamped hx
  refine h.putBranch slot ⟨by simp [Branch.withCount, hl], fun f hf => ?_, by simp [Branch.withCount, hl]⟩
  rcases mem_set hf with rfl | hf
  · exact hd
  · exact honHand f hf

theorem StampLaws.addStamps (h : StampLaws s) {slot : Nat} {x : Branch} (hx : s.branch? slot = some x) (hl : x.latch = none) {d : Nat}
    (hd : (s.denomination? d).isSome) (n : Nat) : StampLaws (addStamps slot x d n s) :=
  h.recount hx hl hd _ x.causes

theorem StampLaws.takeStamps (h : StampLaws s) {slot : Nat} {x : Branch} (hx : s.branch? slot = some x) (hl : x.latch = none) {d : Nat}
    (hd : (s.denomination? d).isSome) (n : Nat) : StampLaws (takeStamps slot x d n s) := by
  obtain ⟨c, hr⟩ := takeStamps_record slot x d n s
  exact (h.recount hx hl hd _ c).congr hr

/-- What the checks 1 to 6 of R133 leave to a movement: the branch is not counting, and the slot is not EMPTY. -/
theorem StampLaws.stockMovement (h : StampLaws s) {admits : DenominationState → Bool}
    {act : Branch → Nat → Nat → State → State × Reply} {branch d n : Nat}
    (ha : ∀ x value, s.branch? branch = some x → x.latch = none → (s.denomination? d).isSome →
      StampLaws (act x (x.count d) value s).1) : StampLaws (stockMovement admits act branch d n s).1 := by
  unfold Machine.stockMovement
  refine ite_state (fun _ => h) fun _ => ite_state (fun _ => h) fun _ => ?_
  split
  · exact h
  · exact h
  · rename_i x y hx hy
    exact ite_state (fun _ => h) fun _ => ite_state (fun _ => h) fun hc =>
      ha x _ hx (by simpa [Branch.counting] using hc) (by simp [hy])

theorem StampLaws.withPool (h : StampLaws s) (p : Pool) : StampLaws (s.withPool p) :=
  h.stand ((StampsStand.refl s).withPool p)

theorem StampLaws.purchaseStock (h : StampLaws s) (branch d n : Nat) : StampLaws (purchaseStock branch d n s).1 := by
  refine h.stockMovement fun x value hx hl hd => ?_
  unfold purchaseAct
  exact ite_state (fun _ => h) fun _ => ite_state (fun _ => h) fun _ => ite_state (fun _ => h) fun _ =>
    StampLaws.addStamps (s := debitPool value s) (h.withPool _) hx hl hd n

theorem StampLaws.issueStock (h : StampLaws s) (branch d n : Nat) : StampLaws (issueStock branch d n s).1 := by
  refine h.stockMovement fun x value hx hl hd => ?_
  unfold issueAct
  exact ite_state (fun _ => h) fun _ => ite_state (fun _ => h) fun _ =>
    StampLaws.takeStamps (s := addIssued value s) (h.withPool _) hx hl hd n

theorem StampLaws.writeOffStock (h : StampLaws s) (branch d n : Nat) : StampLaws (writeOffStock branch d n s).1 := by
  refine h.stockMovement fun x value hx hl hd => ?_
  unfold writeOffAct
  exact ite_state (fun _ => h) fun _ => ite_state (fun _ => h) fun _ =>
    StampLaws.takeStamps (s := addWrittenOff value s) (h.withPool _) hx hl hd n

theorem StampLaws.surrenderStock (h : StampLaws s) (branch d n : Nat) : StampLaws (surrenderStock branch d n s).1 := by
  refine h.stockMovement fun x value hx hl hd => ?_
  unfold surrenderAct
  exact ite_state (fun _ => h) fun _ => ite_state (fun _ => h) fun _ =>
    (h.takeStamps hx hl hd n).stand ((StampsStand.refl _).creditAndServe value)

/-! ## Transfers -/

/-- An entry at the tail of a list that has room, under a number of its own (R142 to R144). -/
theorem StampLaws.listTransfer (h : StampLaws s) {x : Transfer} (hlen : s.record.transfers.length < Config.transferPlaces)
    (hnew : ∀ y ∈ s.record.transfers, y.number ≠ x.number) (hd : (s.denomination? x.denomination).isSome)
    (hx : numberOk x.number ∧ x.origin ≠ x.destination ∧ (s.branch? x.origin).isSome ∧ (s.branch? x.destination).isSome) :
    StampLaws (listTransfer x s) := by
  obtain ⟨-, hnodup, -, -⟩ := h.transfers
  refine h.withTransfers ?_ ?_ (numberOk_nextNumber hx.1) fun y hy => ?_
  · rw [List.length_append, List.length_singleton]; exact hlen
  · rw [List.map_append, List.nodup_append]
    refine ⟨hnodup, List.nodup_singleton _, fun a ha c hc => ?_⟩
    obtain ⟨y, hy, rfl⟩ := List.mem_map.1 ha
    rw [List.mem_singleton.1 hc]
    exact hnew y hy
  · rcases List.mem_append.1 hy with hy | hy
    · exact h.entry hy
    · rw [List.mem_singleton.1 hy]; exact ⟨hd, hx⟩

/-- The number given is in range and no entry's (R143). -/
theorem numberGiven_free (h : TransferLaw s) :
    numberOk (numberGiven s) = true ∧ ∀ y ∈ s.record.transfers, y.number ≠ numberGiven s := by
  obtain ⟨hlen, -, -, hnext⟩ := h
  have hfree : numberListed s.record.transfers (numberGiven s) = false :=
    freeNumber_free (Nat.lt_of_le_of_lt hlen (by decide)) hnext
  simp only [numberListed, List.any_eq_false, decide_eq_true_eq] at hfree
  exact ⟨numberOk_freeNumber _ _ hnext, hfree⟩

theorem StampLaws.dispatch (h : StampLaws s) (origin destination d n : Nat) :
    StampLaws (dispatch origin destination d n s).1 := by
  unfold Machine.dispatch
  refine ite_state (fun _ => h) fun _ => ite_state (fun _ => h) fun _ => ite_state (fun _ => h) fun hne => ?_
  split
  · exact h
  · exact h
  · exact h
  · rename_i x y z hx hy hz
    unfold dispatchFrom
    refine ite_state (fun _ => h) fun hc => ite_state (fun _ => h) fun _ => ite_state (fun _ => h) fun hlen => ?_
    have htaken := h.takeStamps hx (by simpa [Branch.counting] using hc) (d := d) (by simp [hz]) n
    obtain ⟨c, hr⟩ := takeStamps_record origin x d n s
    obtain ⟨hok, hnew⟩ := numberGiven_free h.transfers
    have hbranch : ∀ i, (s.branch? i).isSome → ((Machine.takeStamps origin x d n s).branch? i).isSome := fun i hi => by
      rw [State.branch?, hr]; exact State.isSome_branch?_putBranch _ _ hi
    refine htaken.listTransfer ?_ ?_ ?_ ⟨hok, hne, hbranch _ (by simp [dispatchedEntry, hx]), hbranch _ (by simp [dispatchedEntry, hy])⟩
    · rw [hr]; exact Nat.lt_of_not_le hlen
    · rw [hr]; exact hnew
    · rw [State.denomination?, hr]
      exact Option.isSome_of_eq_some hz

/-- The list without some of its entries. -/
theorem StampLaws.unlistTransfer (h : StampLaws s) (number : Nat) : StampLaws (unlistTransfer number s) := by
  obtain ⟨hlen, hnodup, -, hnext⟩ := h.transfers
  have hsub : (s.record.transfers.filter (fun x => decide (x.number ≠ number))).Sublist s.record.transfers := List.filter_sublist
  exact h.withTransfers (Nat.le_trans hsub.length_le hlen) (hnodup.sublist (hsub.map _)) hnext fun x hx => h.entry (hsub.subset hx)

theorem StampLaws.receive (h : StampLaws s) (number r : Nat) : StampLaws (receive number r s).1 := by
  unfold Machine.receive
  refine ite_state (fun _ => h) fun _ => ite_state (fun _ => h) fun _ => ?_
  cases s.transfer? number with
  | none => exact h
  | some x =>
    dsimp only
    split
    · exact h
    · exact h
    · rename_i y z hy hz
      unfold receiveInto
      refine ite_state (fun _ => h) fun _ => ite_state (fun _ => h) fun hc => ite_state (fun _ => h) fun _ =>
        ite_state (fun _ => h) fun _ => ?_
      have hland : StampLaws (s.putBranch x.destination (y.receiving x r)) :=
        h.recount hy (by simpa [Branch.counting] using hc) (by simp [hz]) _ _
      unfold receiveStamps
      dsimp only
      split
      · exact (hland.stand (((StampsStand.refl _).addWrittenOff _).raiseAttention)).unlistTransfer _
      · exact hland.unlistTransfer _

theorem StampLaws.cancelTransfer (h : StampLaws s) (number : Nat) : StampLaws (cancelTransfer number s).1 := by
  unfold Machine.cancelTransfer
  refine ite_state (fun _ => h) fun _ => ite_state (fun _ => h) fun _ => ?_
  cases s.transfer? number with
  | none => exact h
  | some x =>
    dsimp only
    split
    · exact h
    · exact h
    · rename_i y z hy hz
      unfold cancelInto
      exact ite_state (fun _ => h) fun hc => ite_state (fun _ => h) fun _ =>
        (h.addStamps hy (by simpa [Branch.counting] using hc) (by simp [hz]) x.count).unlistTransfer _

/-! ## Stock counts -/

theorem StampLaws.beginCount (h : StampLaws s) (slot : Nat) : StampLaws (beginCount slot s).1 := by
  unfold Machine.beginCount
  refine ite_state (fun _ => h) fun _ => ite_state (fun _ => h) fun _ => ?_
  cases hx : s.branch? slot with
  | none => exact h
  | some x =>
    obtain ⟨-, honHand, -⟩ := h.stamped hx
    exact ite_state (fun _ => h) fun _ =>
      h.putBranch slot ⟨by simp [Branch.latchOn], honHand, by simp [Branch.latchOn]⟩

theorem StampLaws.enterCount (h : StampLaws s) (slot d n : Nat) : StampLaws (enterCount slot d n s).1 := by
  unfold Machine.enterCount
  refine ite_state (fun _ => h) fun _ => ite_state (fun _ => h) fun _ => ?_
  cases hx : s.branch? slot with
  | none => exact h
  | some x =>
    dsimp only
    cases hlatch : x.latch with
    | none => exact h
    | some l =>
      dsimp only
      cases hd : s.denomination? d with
      | none => exact h
      | some z =>
        obtain ⟨hcount, honHand, hcounted⟩ := h.stamped hx
        refine h.putBranch slot ⟨fun l' hl' => ?_, honHand, fun l' hl' f hf => ?_⟩
        all_goals obtain rfl := Option.some.inj hl'
        · exact hcount l hlatch
        · rcases Table.mem_put hf with rfl | hf
          · exact Option.isSome_of_eq_some hd
          · exact hcounted l hlatch f hf

theorem StampLaws.abandonCount (h : StampLaws s) (slot : Nat) : StampLaws (abandonCount slot s).1 := by
  unfold Machine.abandonCount
  refine ite_state (fun _ => h) fun _ => ite_state (fun _ => h) fun _ => ?_
  cases hx : s.branch? slot with
  | none => exact h
  | some x =>
    dsimp only
    cases x.latch with
    | none => exact h
    | some l => exact h.stand ((StampsStand.refl s).putBranch hx rfl nofun)

/-- A close brings the counted figures into the on-hand counts (R153). -/
theorem StampLaws.closeCount (h : StampLaws s) (slot : Nat) : StampLaws (closeCount slot s).1 := by
  unfold Machine.closeCount
  refine ite_state (fun _ => h) fun _ => ite_state (fun _ => h) fun _ => ?_
  cases hx : s.branch? slot with
  | none => exact h
  | some x =>
    dsimp only
    cases hlatch : x.latch with
    | none => exact h
    | some l =>
      refine ite_state (fun _ => h) fun _ => ?_
      obtain ⟨-, honHand, hcounted⟩ := h.stamped hx
      obtain ⟨c, hc⟩ := applyFigures_eq x l.counted
      have hclosed : (x.closed l (countNet s l)).Stamped s := by
        unfold Branch.closed
        rw [hc]
        refine ⟨nofun, fun f hf => ?_, nofun⟩
        exact (mem_setLevels hf).elim (hcounted l hlatch f) (honHand f)
      exact (h.putBranch slot hclosed).stand (((StampsStand.refl _).addWrittenOff _).raiseIf)

/-! ## CLOSE DAY (R158) -/

theorem StampLaws.closeDay (h : StampLaws s) : StampLaws (closeDay s).1 := by
  unfold Machine.closeDay
  refine ite_state (fun _ => h) fun _ => ?_
  obtain ⟨hlen, hnodup, -, hnext⟩ := h.transfers
  have haged := h.withTransfers (l := s.record.transfers.map (Transfer.aged s.inForce.overdueDays)) (next := s.record.nextTransfer)
    (by rwa [List.length_map]) (by rw [List.map_map]; exact hnodup) hnext fun x hx => by
      obtain ⟨y, hy, rfl⟩ := List.mem_map.1 hx
      have hentry := h.entry hy
      exact hentry
  have hday := StampsStand.mapBranches
    (s := { s with record.transfers := s.record.transfers.map (Transfer.aged s.inForce.overdueDays) }) (.refl _)
    (f := fun slot x => x.dayEffect s slot) (fun i x => by rw [branchDayEffect_eq])
    fun i x => by rw [branchDayEffect_eq]; exact nofun
  refine haged.stand (hday.congr ?_ ?_ ?_ ?_)
  all_goals rw [dayAdvance_record]

/-! ## Empty tables -/

/-- Record memory whose branches, denominations and transfers are empty meets the laws. -/
theorem StampLaws.blank (marker : Bool) (mode : Mode) (causes : DeviceCauses) :
    StampLaws { s with record := { retentionMarker := marker, mode := mode, deviceCauses := causes } } :=
  ⟨fun _ he => absurd he List.not_mem_nil,
    ⟨fun _ he => absurd he List.not_mem_nil, fun _ he => absurd he List.not_mem_nil, fun _ he => absurd he List.not_mem_nil⟩,
    Nat.zero_le _, List.nodup_nil, fun _ he => absurd he List.not_mem_nil, rfl⟩

theorem StampLaws.clearTables (h : StampLaws s) : StampLaws (clearTables s).1 := by
  unfold Machine.clearTables
  exact ite_state (fun _ => h) fun _ => .blank ..

end Sys2Proof.Machine
end

section
/-!
SUPPORT. What a step can do to record memory, and the laws of counts, denominations and transfers (O57) under each of these changes.
-/

namespace Sys2Proof.Machine

variable {s t : State}

/-! ## What a step does to record memory -/

/-- The record memory r that a step from s can leave: the rings, the indices, the marks and the power are in none of these changes. -/
inductive RecordStep (s : State) (r : RecordMemory) : Prop
  | same (h : r = s.record)
  | block (c : Instr) (h : r = (blockOf c s).1.record)
  | startUp (kind : StartKind) (u : State) (hu : u.record = s.record) (h : r = (startUp kind u).record)
  | settings (p : SettingsPatch) (h : r = (writeStored p s).record)
  | second (h : r = { s.record with meters := Table.mapRecords (fun _ m => m.secondLater) s.record.meters })
  | expiry (slot : Nat) (h : r = (expire slot s).record)
  | lost (h : r = { retentionMarker := false })

/-- A command that acts on a powered board alone. -/
theorem RecordStep.ifTrue {c : Prop} [Decidable c] (h : RecordStep s t.record) :
    RecordStep s (if c then t else s).record := by
  split
  · exact h
  · exact .same rfl

theorem sendRestart_record (tag : Half) (s : State) : (sendRestart tag s).record = s.record := by
  unfold sendRestart
  split <;> rfl

theorem postResult_record (kind tag : Half) (r : Reply) (s : State) : (postResult kind tag r s).record = s.record := rfl

theorem restarted_record (tag : Half) (s : State) : (restarted tag s).record = (startUp .restart s).record := by
  unfold restarted
  exact postResult_record ..

theorem RecordStep.takeRestart (hr : t.record = s.record) : RecordStep s (takeRestart t).record := by
  rcases takeRestart_cases t with he | ⟨tag, -, -, he⟩
  · rw [he]; exact .same hr
  · rw [he]; exact .startUp .restart t hr (restarted_record tag t)

/-- READ STATUS alone is answered otherwise where it is sent, and it changes nothing. -/
theorem RecordStep.sentBlock (c : Instr) (s : State) : RecordStep s (sentBlock c s).1.record := by
  unfold Machine.sentBlock
  split
  · exact .same rfl
  · exact .block c rfl

theorem RecordStep.request (c : Instr) (s : State) : RecordStep s (request c (Machine.sentBlock c) s).record :=
  request_keeps (P := fun t => RecordStep s t.record) (.same rfl) (fun _ => .sentBlock c s) (fun _ _ _ _ h => h) fun _ h => h

theorem RecordStep.of_exec {c : Instr} (hx : exec c s = .next t) : RecordStep s t.record := by
  by_cases hq : (header c).isSome ∧ isRestart c = false
  · rcases exec_request_or_same hq.1 hq.2 s with he | he <;> obtain rfl := Host.Outcome.next.inj (he.symm.trans hx)
    · exact .request c s
    · exact .same rfl
  cases c
  case restart tag =>
    obtain rfl := Host.Outcome.next.inj hx
    refine .ifTrue ?_
    dsimp only
    split
    · exact .takeRestart (sendRestart_record tag s)
    · exact .same (sendRestart_record tag s)
  case requestProducerIndexWrite value =>
    obtain rfl := Host.Outcome.next.inj hx
    refine .ifTrue (.same ?_)
    dsimp only
    split <;> rfl
  case resultConsumerIndexWrite value =>
    obtain rfl := Host.Outcome.next.inj hx
    refine .ifTrue (.same ?_)
    dsimp only
    split <;> rfl
  case interruptEnableWordWrite value =>
    obtain rfl := Host.Outcome.next.inj hx
    exact .ifTrue (.settings _ rfl)
  case ignoredWindowWrite offset width value =>
    obtain rfl := Host.Outcome.next.inj hx
    exact .ifTrue (.same rfl)
  case powerOn =>
    obtain rfl := Host.Outcome.next.inj hx
    exact .startUp .powerOn { s with powered := true, msiPermitted := false } rfl rfl
  case pcieReset =>
    obtain rfl := Host.Outcome.next.inj hx
    exact .ifTrue (.startUp .pcieReset { s with msiPermitted := false } rfl rfl)
  case loadSecondsTick =>
    obtain rfl := Host.Outcome.next.inj hx
    exact .ifTrue (.second rfl)
  case loadTimerExpiry slot =>
    obtain rfl := Host.Outcome.next.inj hx
    exact .ifTrue (.expiry slot rfl)
  case msiPermissionChange allowed =>
    obtain rfl := Host.Outcome.next.inj hx
    exact .ifTrue (.same rfl)
  case msiWrite =>
    obtain rfl := Host.Outcome.next.inj hx
    exact .ifTrue (.same rfl)
  case powerLoss =>
    obtain rfl := Host.Outcome.next.inj hx
    exact .same rfl
  case backupCellFailure =>
    obtain rfl := Host.Outcome.next.inj hx
    split
    · exact .same rfl
    · exact .lost rfl
  all_goals exact absurd ⟨rfl, rfl⟩ hq

theorem RecordStep.takeFirst (s : State) : RecordStep s (takeFirst s).record := by
  rcases takeFirst_cases s with he | ⟨-, -, ⟨tag, -, -, he⟩ | ⟨c, kind, tag, -, -, -, -, he⟩⟩
  · rw [he]; exact .same rfl
  · rw [he]; exact .startUp .restart s rfl (restarted_record tag s)
  · rw [he]; exact .block c (post_record ..)

/-- The front command of the queue, or the board's own taking, on a state of the same record memory. -/
theorem RecordStep.of_step (hx : step s = .next t) : ∃ u : State, u.record = s.record ∧ RecordStep u t.record := by
  cases hp : s.pending with
  | nil =>
    obtain rfl := Host.Outcome.next.inj ((step_nil hp).symm.trans hx)
    exact ⟨s, rfl, .takeFirst s⟩
  | cons c rest => exact ⟨{ s with pending := rest }, rfl, .of_exec ((step_cons hp).symm.trans hx)⟩

/-! ## The laws under each change -/

/-- The block that owns a request keeps the laws. -/
theorem StampLaws.block (h : StampLaws s) (hc : ∀ e ∈ s.record.branches, e.2.Canonical) : ∀ c, StampLaws (blockOf c s).1
  | .readStatus _ => h
  | .readAttention _ start => h.stand ((StampsStand.refl s).readAttention start)
  | .takeAttention _ subject slot causes => h.stand ((StampsStand.refl s).takeAttention subject slot causes)
  | .setMode _ target => h.stand ((StampsStand.refl s).setMode target)
  | .closeDay _ => h.closeDay
  | .writeSettings _ patch => h.stand ((StampsStand.refl s).writeSettings patch)
  | .readSettings _ => h
  | .clearTables _ => h.clearTables
  | .enrolMeter _ fields => h.stand ((StampsStand.refl s).enrolMeter fields)
  | .setMeter _ slot changes => h.stand ((StampsStand.refl s).setMeter slot changes)
  | .reassignMeter _ slot branch => h.stand ((StampsStand.refl s).reassignMeter slot branch)
  | .closeMeter _ slot => h.stand ((StampsStand.refl s).closeMeter slot)
  | .retireMeter _ slot => h.stand ((StampsStand.refl s).retireMeter slot)
  | .readMeter _ slot take => h.stand ((StampsStand.refl s).readMeter slot take)
  | .meterReport _ slot sequence ascending descending =>
    h.stand ((StampsStand.refl s).meterReport slot sequence ascending descending)
  | .resolveMeter _ slot ascending descending => h.stand ((StampsStand.refl s).resolveMeter slot ascending descending)
  | .refillRequest _ slot amount => h.stand ((StampsStand.refl s).grantRequest .refill slot amount)
  | .limitRequest _ slot amount => h.stand ((StampsStand.refl s).grantRequest .limit slot amount)
  | .loadConfirm _ slot number total => h.stand ((StampsStand.refl s).loadConfirm slot number total)
  | .cancelGrant _ slot number => h.stand ((StampsStand.refl s).cancelGrant slot number)
  | .cancelQueued _ slot => h.stand ((StampsStand.refl s).cancelQueued slot)
  | .readQueue _ start => h.stand ((StampsStand.refl s).readQueue start)
  | .deposit _ amount => h.stand ((StampsStand.refl s).deposit amount)
  | .refund _ amount => h.stand ((StampsStand.refl s).refund amount)
  | .readPosition _ => h.stand (StampsStand.refl s).readPosition
  | .openBranch _ code => h.openBranch code
  | .setBranch _ slot changes => h.stand ((StampsStand.refl s).setBranch slot changes)
  | .closeBranch _ slot => h.closeBranch slot
  | .cycleStart _ slot actionKnown => h.stand ((StampsStand.refl s).cycleControl startAction_cycle actionKnown slot)
  | .cycleStop _ slot => h.stand ((StampsStand.refl s).cycleControl stopAction_cycle true slot)
  | .cyclePause _ slot => h.stand ((StampsStand.refl s).cycleControl pauseAction_cycle true slot)
  | .cycleResume _ slot => h.stand ((StampsStand.refl s).cycleControl resumeAction_cycle true slot)
  | .readBranch _ slot take => h.stand ((StampsStand.refl s).readBranch slot take)
  | .defineDenomination _ face => h.defineDenomination face
  | .withdrawDenomination _ slot => h.withdrawDenomination slot
  | .retireDenomination _ slot => h.retireDenomination hc slot
  | .readDenominations _ => h.stand (StampsStand.refl s).readDenominations
  | .purchaseStock _ branch denomination count => h.purchaseStock branch denomination count
  | .issueStock _ branch denomination count => h.issueStock branch denomination count
  | .writeOffStock _ branch denomination count => h.writeOffStock branch denomination count
  | .surrenderStock _ branch denomination count => h.surrenderStock branch denomination count
  | .dispatch _ origin destination denomination count => h.dispatch origin destination denomination count
  | .receive _ number count => h.receive number count
  | .cancelTransfer _ number => h.cancelTransfer number
  | .readTransfers _ start => h.stand ((StampsStand.refl s).readTransfers start)
  | .beginCount _ branch => h.beginCount branch
  | .enterCount _ branch denomination figure => h.enterCount branch denomination figure
  | .closeCount _ branch => h.closeCount branch
  | .abandonCount _ branch => h.abandonCount branch
  | .readCount _ branch => h.stand ((StampsStand.refl s).readCount branch)
  | .restart _ | .requestProducerIndexWrite _ | .resultConsumerIndexWrite _ | .interruptEnableWordWrite _
  | .ignoredWindowWrite _ _ _ | .powerOn | .pcieReset | .loadSecondsTick | .loadTimerExpiry _ | .msiPermissionChange _
  | .msiWrite | .powerLoss | .backupCellFailure | .badRequest _ _ _ _ => h

theorem StampLaws.checkRetention (h : StampLaws s) (lost : Bool) : StampLaws (checkRetention lost s) := by
  unfold Machine.checkRetention
  split
  · unfold lostRecord
    split
    · exact .blank ..
    · exact .blank ..
  · exact h.stand ((StampsStand.refl s).withMode _)

theorem StampLaws.withStart (h : StampLaws s) (kind : StartKind) (r : Option Retention) :
    StampLaws { s with lastStart := kind, retention := r } :=
  h.congr rfl

/-- A start-up clears record memory or lets its stamps stand (R161, R162). -/
theorem StampLaws.startUp (h : StampLaws s) (kind : StartKind) : StampLaws (startUp kind s) := by
  have hchecked : StampLaws (Machine.checkRetention (findsLost kind s) (applyFields restartClass (forgetRings s))) :=
    (h.stand (StampsStand.applyFields (s := forgetRings s) ((StampsStand.refl s).congr rfl rfl rfl rfl) _)).checkRetention _
  have happlied := hchecked.stand ((StampsStand.refl _).applyFields (serviceEntryClass ++ immediateClass))
  have hset : StampLaws (startSettings (findsLost kind s) s) := by
    unfold startSettings
    dsimp only
    split
    · exact happlied.stand (StampsStand.refl _).raiseAttention
    · exact happlied
  have hserved : StampLaws (Machine.serveQueue (renewTimers (startSettings (findsLost kind s) s))).state :=
    (hset.stand ((StampsStand.refl _).withMeters _)).stand (StampsStand.refl _).serveQueue
  exact hserved.withStart kind (retentionOutcome kind (findsLost kind s))

theorem StampLaws.recordStep (h : StampLaws s) (hc : ∀ e ∈ s.record.branches, e.2.Canonical) (hr : RecordStep s t.record) :
    StampLaws t := by
  cases hr with
  | same hr => exact h.congr hr
  | block c hr => exact (h.block hc c).congr hr
  | startUp kind u hu hr => exact ((h.congr hu).startUp kind).congr hr
  | settings p hr => exact (h.stand ((StampsStand.refl s).writeStored p)).congr hr
  | second hr => exact (h.stand ((StampsStand.refl s).withMeters _)).congr hr
  | expiry slot hr => exact (h.stand ((StampsStand.refl s).expire slot)).congr hr
  | lost hr => exact StampLaws.congr (StampLaws.blank (s := s) false _ _) hr

/-- Settles O57: where no stamp moves the laws carry over (`StampLaws.stand`), and the stock requests keep them one by one; the canonical
form is O55's. -/
theorem stockKept : Obligations.StockKept := by
  intro s t h hx
  obtain ⟨-, -, -, -, -, -, -, hbranches⟩ := h.canonical
  obtain ⟨u, hu, hr⟩ := RecordStep.of_step hx
  have hlaws : StampLaws s := ⟨h.counts, h.emptySlots, h.transfers⟩
  have ht := (hlaws.congr hu).recordStep (by rwa [hu]) hr
  exact ⟨(formPoolLoadedAndRangesKept s t hx).1 h.canonical, ht.counts, ht.emptySlots, ht.transfers⟩

end Sys2Proof.Machine
end

section
/-!
SUPPORT. WITHDRAW DENOMINATION, RETIRE DENOMINATION and the four stock movements: their checks and their changes as the statements O44 to
O47 write them.
-/

namespace Sys2Proof.Machine

variable {s : State} {slot d n : Nat} {b : Branch} {den : Denomination}

/-! ## The checks -/

theorem not_denominationSlotOk : (!denominationSlotOk d) = true ↔ 15 < d := by
  rw [Bool.not_eq_true', ← Bool.not_eq_true, denominationSlotOk_iff, Nat.not_le]

theorem stampsOk_iff : stampsOk n = true ↔ 1 ≤ n ∧ n ≤ 9999999 :=
  within_iff

/-- Check 2 of R133. -/
theorem not_movementOk :
    (!branchSlotOk slot || !denominationSlotOk d || !stampsOk n) = true ↔ 127 < slot ∨ 15 < d ∨ n < 1 ∨ 9999999 < n := by
  have hstamps : (!stampsOk n) = true ↔ n < 1 ∨ 9999999 < n := by
    rw [Bool.not_eq_true', ← Bool.not_eq_true, stampsOk_iff]
    omega
  rw [Bool.or_eq_true, Bool.or_eq_true, not_branchSlotOk, not_denominationSlotOk, hstamps, or_assoc]

theorem state_of_withdrawn (h : den.withdrawn.isSome) : den.state = .withdrawn :=
  if_pos h

theorem not_admitsPurchase : (!admitsPurchase den.state) = true ↔ den.withdrawn.isSome := by
  cases h : den.withdrawn with
  | none => rw [onSale_iff.2 h]; exact .rfl
  | some day => rw [state_of_withdrawn (by rw [h]; rfl)]; exact .rfl

theorem admitsEither_state (x : DenominationState) : admitsEither x = true := by
  cases x <;> rfl

theorem not_admitsSurrender : (!admitsSurrender den.state) = true ↔ den.withdrawn = none := by
  cases h : den.withdrawn with
  | none => rw [onSale_iff.2 h]; exact iff_of_true rfl rfl
  | some day => rw [state_of_withdrawn (by rw [h]; rfl)]; exact iff_of_false nofun nofun

/-- As `refused_ite`, for refusals that carry figures. -/
theorem replied_ite {c e : Prop} [Decidable c] [Decidable e] {x r : Reply} {rest : Option Reply} {out : State × Reply}
    (hce : c ↔ e) (hrest : ¬e → rest = some r → out = (s, r)) (h : (if e then some x else rest) = some r) :
    (if c then (s, x) else out) = (s, r) := by
  by_cases he : e
  · rw [if_pos he, Option.some.injEq] at h
    rw [if_pos (hce.2 he), h]
  · rw [if_neg he] at h
    rw [if_neg (mt hce.1 he)]
    exact hrest he h

/-- The first of the checks 1 to 6 that fails answers, and nothing changes (R133). `code` tells the movements apart: 0x84 asks for an
ON SALE slot, 0x87 for a WITHDRAWN one. -/
theorem stockMovement_refused {admits : DenominationState → Bool} {act : Branch → Nat → Nat → State → State × Reply} {code : Half}
    {r : Reply}
    (hadmits : ∀ x : Denomination,
      (!admits x.state) = true ↔ code = 0x84 ∧ x.withdrawn.isSome ∨ code = 0x87 ∧ x.withdrawn = none)
    (h : (if s.record.mode ≠ .service then some (refuse .wrongMode)
       else if 127 < slot ∨ 15 < d ∨ n < 1 ∨ 9999999 < n then some (refuse .badValue)
       else
        match s.branch? slot, s.denomination? d with
        | none, _ => some (refuse .unknownBranch)
        | some _, none => some (refuse .unknownSlot)
        | some b, some den =>
          if code = 0x84 ∧ den.withdrawn.isSome then some (refuseWith .wrongState (.slotState .withdrawn))
          else if code = 0x87 ∧ den.withdrawn = none then some (refuseWith .wrongState (.slotState .onSale))
          else if b.latch.isSome then some (refuse .branchCounting)
          else none) = some r) :
    stockMovement admits act slot d n s = (s, r) := by
  refine replied_ite not_serves (fun _ => replied_ite not_movementOk fun _ => ?_) h
  intro hrest
  cases hb : s.branch? slot with
  | none => simp only [hb, Option.some.injEq] at hrest ⊢; rw [hrest]
  | some b =>
    cases hden : s.denomination? d with
    | none => simp only [hb, hden, Option.some.injEq] at hrest ⊢; rw [hrest]
    | some den =>
      simp only [hb, hden] at hrest ⊢
      by_cases hsold : code = 0x84 ∧ den.withdrawn.isSome
      · rw [if_pos hsold, Option.some.injEq] at hrest
        rw [if_pos ((hadmits den).2 (.inl hsold)), state_of_withdrawn hsold.2, hrest]
      rw [if_neg hsold] at hrest
      by_cases hheld : code = 0x87 ∧ den.withdrawn = none
      · rw [if_pos hheld, Option.some.injEq] at hrest
        rw [if_pos ((hadmits den).2 (.inr hheld)), onSale_iff.2 hheld.2, hrest]
      rw [if_neg hheld] at hrest
      rw [if_neg (mt (hadmits den).1 (not_or.2 ⟨hsold, hheld⟩))]
      obtain ⟨hc, hr⟩ := Option.ite_none_right_eq_some.1 hrest
      rw [← Option.some.inj hr]
      exact if_pos hc

/-- The checks 1 to 6 passed: the movement's own checks and its changes answer. -/
theorem stockMovement_checked {admits : DenominationState → Bool} {act : Branch → Nat → Nat → State → State × Reply}
    (hmode : s.record.mode = .service) (hslot : slot < 128) (hd : d < 16) (h1 : 1 ≤ n) (h2 : n ≤ 9999999)
    (hb : s.branch? slot = some b) (hden : s.denomination? d = some den) (hl : b.latch = none) (hadmits : admits den.state = true) :
    stockMovement admits act slot d n s = act b (b.count d) (n * den.face) s := by
  unfold stockMovement
  rw [if_neg (mt not_serves.1 (not_not.2 hmode)), if_neg (mt not_movementOk.1 (by omega)), hb, hden]
  dsimp only
  rw [if_neg (by rw [hadmits]; decide), if_neg (by rw [Branch.counting, hl]; decide)]

/-! ## The stamps -/

theorem crossesTo_eq (b : Branch) (d n : Nat) :
    b.crossesTo d n =
      decide (0 < Figures.at' b.levels d ∧ Figures.at' b.levels d ≤ Figures.at' b.onHand d ∧ n < Figures.at' b.levels d) := by
  rw [Bool.decide_and, Bool.decide_and, ← Bool.and_assoc]
  rfl

/-- The branch record after n stamps are taken off its count, with STOCK_LOW where that crosses the reorder level (R138). -/
theorem lowered_eq (b : Branch) (d n : Nat) :
    b.lowered d n =
      { b with
        onHand := Figures.set b.onHand d n
        causes := { b.causes with stockLow := b.causes.stockLow || b.crossesTo d n } } := by
  unfold Branch.lowered
  cases b.crossesTo d n with
  | true => rw [Bool.or_true]; rfl
  | false => rw [Bool.or_false]; rfl

theorem takeStamps_eq (slot : Nat) (b : Branch) (d n : Nat) (s : State) :
    takeStamps slot b d n s =
      { s with
        record.branches := Table.put s.record.branches slot (b.lowered d (b.count d - n))
        attentionMark := s.attentionMark || (b.crossesTo d (b.count d - n) && s.inForce.attentionEnable) } := by
  unfold takeStamps
  dsimp only
  cases b.crossesTo d (b.count d - n) with
  | true => rw [if_pos rfl, raiseAttention_eq, Bool.true_and]; rfl
  | false => rw [if_neg nofun, Bool.false_and, Bool.or_false]; rfl

end Sys2Proof.Machine
end

section
/-!
WITHDRAW DENOMINATION and RETIRE DENOMINATION (O44).
-/

namespace Sys2Proof.Machine

variable {s : State} {slot : Nat} {d : Denomination}

/-- The checks before the table of R129: the first that fails answers, and nothing changes (log 30). -/
theorem retireDenomination_refused {st : Status}
    (h : (if s.record.mode ≠ .service then some Status.wrongMode
       else if 15 < slot then some .badValue
       else
        match s.denomination? slot with
        | none => some .unknownSlot
        | some d => if d.withdrawn = none then some .wrongState else none) = some st) :
    retireDenomination slot s = (s, refuse st) := by
  refine refused_ite not_serves (fun _ => refused_ite not_denominationSlotOk fun _ => ?_) h
  intro hrest
  cases hd : s.denomination? slot with
  | none => simp only [hd, Option.some.injEq] at hrest ⊢; rw [hrest]
  | some d =>
    simp only [hd] at hrest ⊢
    obtain ⟨hw, hst⟩ := Option.ite_none_right_eq_some.1 hrest
    cases hst
    rw [hw]

/-- The checks before the table passed: the first condition of R129 that fails decides. -/
theorem retireDenomination_checked {day : Half} (hmode : s.record.mode = .service) (hslot : slot < 16) (hd : s.denomination? slot = some d)
    (hw : d.withdrawn = some day) :
    retireDenomination slot s =
      match denominationObstacle s slot with
      | some o => (s, refuseWith .notEmpty (.denominationHeld o))
      | none =>
        ({ s with record.denominations := Table.erase s.record.denominations slot },
         done (.denominationRetired d.face (s.record.day - day).toNat)) := by
  unfold retireDenomination
  rw [if_neg (mt not_serves.1 (not_not.2 hmode)), if_neg (mt not_denominationSlotOk.1 (by omega)), hd]
  dsimp only
  rw [hw]
  rfl

/-- Settles O44: each check of the two blocks is the check of the statement in the same place, and the first condition of R129 that fails is
read off the lists of branches and transfers (`denominationObstacle_eq`). -/
theorem withdrawAndRetireDenomination : Obligations.WithdrawAndRetireDenomination := by
  intro tag slot s
  refine ⟨answers_of_block rfl rfl ?_, fun st h => answers_of_block rfl rfl (retireDenomination_refused h), ?_⟩
  · refine ite_congr (propext not_serves) (fun _ => rfl) fun _ =>
      ite_congr (propext not_denominationSlotOk) (fun _ => rfl) fun _ => ?_
    cases s.denomination? slot with
    | none => rfl
    | some d =>
      dsimp only
      cases hw : d.withdrawn with
      | none => rw [onSale_iff.2 hw]; rfl
      | some day => rw [state_of_withdrawn (by rw [hw]; rfl)]; rfl
  · intro d day holding counting moving hmode hslot hd hw hholding hcounting hmoving
    refine answers_of_block rfl rfl ?_
    rw [retireDenomination_checked hmode hslot hd hw, denominationObstacle_eq s slot hholding hcounting hmoving]
    cases holding with
    | cons h rest => rfl
    | nil =>
      by_cases hm : 0 < moving
      · simp [hm]
      · cases counting <;> simp [hm]

end Sys2Proof.Machine
end

section
/-!
The common checks of the four stock movements (O45), and their own checks and changes (O46, O47).
-/

namespace Sys2Proof.Machine

/-- Settles O45: the four share `stockMovement`; up to check 6 they differ only in the denomination states they take. -/
theorem stockMovementChecks : Obligations.StockMovementChecks := by
  rintro tag slot d n c code s (⟨rfl, rfl⟩ | ⟨rfl, rfl⟩ | ⟨rfl, rfl⟩ | ⟨rfl, rfl⟩) r h
  · exact answers_of_block rfl rfl (stockMovement_refused (fun x => not_admitsPurchase.trans (by simp)) h)
  · exact answers_of_block rfl rfl (stockMovement_refused (fun x => by simp [admitsEither_state]) h)
  · exact answers_of_block rfl rfl (stockMovement_refused (fun x => by simp [admitsEither_state]) h)
  · exact answers_of_block rfl rfl (stockMovement_refused (fun x => not_admitsSurrender.trans (by simp)) h)

/-- Settles O47: past the checks 1 to 6, each of the two has its two checks, and `takeStamps_eq` gives the changes. -/
theorem issueAndWriteOffStock : Obligations.IssueAndWriteOffStock := by
  rintro tag slot d n b den s hmode hslot hd h1 h2 hb hden hl held v crosses b' rfl rfl hcrosses rfl
  rw [← crossesTo_eq] at hcrosses
  subst hcrosses
  rw [← lowered_eq]
  constructor
  · refine answers_of_block rfl rfl ((stockMovement_checked hmode hslot hd h1 h2 hb hden hl (admitsEither_state _)).trans ?_)
    refine ite_congr rfl (fun _ => rfl) fun _ => ite_congr rfl (fun _ => rfl) fun _ => ?_
    rw [takeStamps_eq]
    rfl
  · refine answers_of_block rfl rfl ((stockMovement_checked hmode hslot hd h1 h2 hb hden hl (admitsEither_state _)).trans ?_)
    refine ite_congr rfl (fun _ => rfl) fun _ => ite_congr rfl (fun _ => rfl) fun _ => ?_
    rw [takeStamps_eq]
    rfl

/-- Settles O46: past the checks 1 to 6, each of the two has its own checks; `takeStamps_eq` and `creditPool_eq` give the state in which a
surrender serves the queue. -/
theorem purchaseAndSurrenderStock : Obligations.PurchaseAndSurrenderStock := by
  rintro tag slot d n b den s hmode hslot hd h1 h2 hb hden hl held v rfl rfl
  constructor
  · intro hw
    have hadmits : admitsPurchase den.state = true := by rw [onSale_iff.2 hw]; rfl
    refine answers_of_block rfl rfl ((stockMovement_checked hmode hslot hd h1 h2 hb hden hl hadmits).trans ?_)
    exact ite_congr rfl (fun _ => rfl) fun _ => ite_congr rfl (fun _ => rfl) fun _ =>
      ite_congr (propext not_covers) (fun _ => rfl) fun _ => rfl
  · intro hw paid crosses credited r hpaid hcrosses hcredited hv hr
    rw [← crossesTo_eq] at hcrosses
    subst hpaid hcrosses
    rw [← lowered_eq] at hcredited
    have hadmits : admitsSurrender den.state = true := by rw [state_of_withdrawn hw]; rfl
    refine answers_of_block rfl rfl ((stockMovement_checked hmode hslot hd h1 h2 hb hden hl hadmits).trans ?_)
    have hserved : creditAndServe (n * den.face) (takeStamps slot b d n s) = r := by
      rw [hr, hcredited, creditAndServe, if_neg hv.ne', creditPool_eq, takeStamps_eq]
      rfl
    refine ite_congr rfl (fun _ => rfl) fun _ => ite_congr (propext ?_) (fun _ => rfl) fun _ => ?_
    · rw [Bool.not_eq_true', ← Bool.not_eq_true, creditFits_iff, Nat.not_le]
      rfl
    · dsimp only
      rw [hserved]
      rfl

end Sys2Proof.Machine
end

section
/-!
SUPPORT. The transfers and the stock counts: their range checks, the transfer number a DISPATCH gives, the entry a number finds and the list
without it, and the branch record that a close leaves, as the statements O48 to O52 write them.
-/

namespace Sys2Proof.Machine

variable {s : State} {slot d n number : Nat} {b : Branch} {l : CountLatch} {den : Denomination}

/-! ## The checks -/

theorem not_stampsOk : (!stampsOk n) = true ↔ n < 1 ∨ 9999999 < n := by
  rw [Bool.not_eq_true', ← Bool.not_eq_true, stampsOk_iff]
  omega

theorem not_figureOk : (!figureOk n) = true ↔ 9999999 < n := by
  rw [Bool.not_eq_true', ← Bool.not_eq_true, figureOk_iff, Nat.not_le]
  rfl

/-- Check 2 of R144. -/
theorem not_dispatchOk {origin destination : Nat} :
    (!branchSlotOk origin || !branchSlotOk destination || !denominationSlotOk d || !stampsOk n) = true ↔
      127 < origin ∨ 127 < destination ∨ 15 < d ∨ n < 1 ∨ 9999999 < n := by
  simp only [Bool.or_eq_true, not_branchSlotOk, not_denominationSlotOk, not_stampsOk, or_assoc]

/-- Check 2 of R145. -/
theorem not_receiptOk {r : Nat} : (!numberOk number || !figureOk r) = true ↔ number < 1 ∨ 65535 < number ∨ 9999999 < r := by
  rw [Bool.or_eq_true, not_numberOk, not_figureOk, or_assoc]

/-- The range check of R150. -/
theorem not_enteredOk : (!branchSlotOk slot || !denominationSlotOk d || !figureOk n) = true ↔ 127 < slot ∨ 15 < d ∨ 9999999 < n := by
  rw [Bool.or_eq_true, Bool.or_eq_true, not_branchSlotOk, not_denominationSlotOk, not_figureOk, or_assoc]

theorem not_transferPlace : (!decide (n < Config.transferPlaces)) = true ↔ 63 < n := by
  rw [Bool.not_eq_true', decide_eq_false_iff_not, Nat.not_lt]
  rfl

theorem face_of_denomination? (h : s.denomination? d = some den) : s.face d = den.face := by
  rw [State.face, h]

/-! ## Transfer numbers (R143) -/

theorem nat_repeat_eq_iterate {α : Type} (f : α → α) (k : Nat) (a : α) : Nat.repeat f k a = f^[k] a := by
  induction k with
  | zero => rfl
  | succ k ih => rw [Function.iterate_succ_apply', ← ih]; rfl

theorem numberListed_iff {ts : List Transfer} : numberListed ts n = true ↔ ∃ x ∈ ts, x.number = n := by
  simp [numberListed]

/-- From a number that R143 never gives, 0 or above 65,535, the numbers rise without a wrap. -/
theorem nextNumber_iterate_of_not_numberOk (hn : ¬numberOk n = true) {i : Nat} (hi : i ≤ 65535) : nextNumber^[i] n = n + i := by
  rw [numberOk_iff] at hn
  induction i with
  | zero => rfl
  | succ i ih =>
    have hne : n + i ≠ Config.numberMax := by rw [Config.numberMax]; omega
    rw [Function.iterate_succ_apply', ih (by omega), nextNumber, if_neg hne, Nat.add_assoc]

/-- 65,535 numbers on end are distinct, from whichever number they start. -/
theorem nextNumber_iterate_injOn (n : Nat) : Set.InjOn (fun i => nextNumber^[i] n) {i | i < 65535} := by
  intro i hi j hj hij
  rw [Set.mem_ofPred_eq] at hi hj
  dsimp only at hij
  by_cases hn : numberOk n = true
  · rw [nextNumber_iterate hn, nextNumber_iterate hn] at hij
    rw [numberOk_iff] at hn
    omega
  · rw [nextNumber_iterate_of_not_numberOk hn hi.le, nextNumber_iterate_of_not_numberOk hn hj.le] at hij
    omega

/-- The numbers passed over are listed, and the number given is the one after them. -/
theorem freeNumber_passes (ts : List Transfer) (tries n : Nat) :
    ∃ passed ≤ tries, freeNumber ts tries n = nextNumber^[passed] n ∧ ∀ j < passed, numberListed ts (nextNumber^[j] n) = true := by
  induction tries generalizing n with
  | zero => exact ⟨0, Nat.le_refl 0, rfl, nofun⟩
  | succ tries ih =>
    rw [freeNumber]
    by_cases hn : numberListed ts n = true
    · obtain ⟨passed, hle, hgiven, hlisted⟩ := ih (nextNumber n)
      refine ⟨passed + 1, Nat.succ_le_succ hle, by rw [if_pos hn]; exact hgiven, fun j hj => ?_⟩
      cases j with
      | zero => exact hn
      | succ j => exact hlisted j (Nat.lt_of_succ_lt_succ hj)
    · exact ⟨0, Nat.zero_le _, if_neg hn, nofun⟩

/-- As `freeNumber_free`, from any number: otherwise one more number would be listed than the list has entries. -/
theorem freeNumber_unlisted {ts : List Transfer} (hts : ts.length < 65535) (n : Nat) :
    numberListed ts (freeNumber ts ts.length n) = false := by
  by_contra h
  have hall := listed_of_freeNumber (Bool.not_eq_false _ ▸ h)
  have hcard : (Finset.range (ts.length + 1)).card ≤ (ts.map (·.number)).toFinset.card := by
    refine Finset.card_le_card_of_injOn (fun i => nextNumber^[i] n) (fun i hi => ?_) ((nextNumber_iterate_injOn n).mono fun i hi => ?_)
    · rw [Finset.mem_coe, List.mem_toFinset, List.mem_map]
      exact numberListed_iff.1 (hall i (Nat.le_of_lt_succ (Finset.mem_range.1 hi)))
    · exact Nat.lt_of_le_of_lt (Nat.le_of_lt_succ (Finset.mem_range.1 hi)) hts
  have hlen := (ts.map (·.number)).toFinset_card_le
  rw [Finset.card_range] at hcard
  rw [List.length_map] at hlen
  omega

/-! ## The Transfer List (R142) -/

theorem transfer?_eq_none_iff : s.transfer? number = none ↔ ∀ x ∈ s.record.transfers, x.number ≠ number := by
  simp only [State.transfer?, List.find?_eq_none, decide_eq_true_eq]

section
variable {front behind : List Transfer} {x : Transfer}

/-- The entry that alone holds a number is the one found. -/
theorem transfer?_eq_some (ht : s.record.transfers = front ++ x :: behind) (hx : x.number = number)
    (hrest : ∀ y ∈ front ++ behind, y.number ≠ number) : s.transfer? number = some x := by
  have hfront : front.find? (fun t => decide (t.number = number)) = none := by
    simpa using fun y hy => hrest y (List.mem_append_left _ hy)
  rw [State.transfer?, ht, List.find?_append, hfront, Option.none_or, List.find?_cons_of_pos (by simp [hx])]

/-- The entry that alone holds a number is the one removed. -/
theorem filter_number_ne (hx : x.number = number) (hrest : ∀ y ∈ front ++ behind, y.number ≠ number) :
    (front ++ x :: behind).filter (fun t => decide (t.number ≠ number)) = front ++ behind := by
  rw [List.filter_append, List.filter_cons_of_neg (by simp [hx]), ← List.filter_append, List.filter_eq_self]
  exact fun y hy => decide_eq_true (hrest y hy)

end

/-- The destination's record after a receipt (R145). -/
theorem receiving_eq (b : Branch) (t : Transfer) (r : Nat) :
    b.receiving t r =
      { b with
        onHand := Figures.set b.onHand t.denomination (b.count t.denomination + r)
        causes := { b.causes with transitShortfall := b.causes.transitShortfall || decide (r < t.count) } } := by
  unfold Branch.receiving
  by_cases hshort : r < t.count
  · rw [if_pos hshort, decide_eq_true hshort, Bool.or_true]; rfl
  · rw [if_neg hshort, decide_eq_false hshort, Bool.or_false]; rfl

/-- The three steps of R145; where nothing is short, what is written off is 0. -/
theorem receiveStamps_eq {t : Transfer} {r : Nat} (hr : r ≤ t.count) (b : Branch) (s : State) :
    receiveStamps t r b s =
      { s with
        record.branches := Table.put s.record.branches t.destination (b.receiving t r)
        record.pool.writtenOff := s.record.pool.writtenOff + (((t.count - r) * s.face t.denomination : Nat) : Int)
        record.transfers := s.record.transfers.filter (fun y => decide (y.number ≠ t.number))
        attentionMark := s.attentionMark || (decide (r < t.count) && s.inForce.attentionEnable) } := by
  unfold receiveStamps
  dsimp only
  by_cases hshort : r < t.count
  · rw [if_pos hshort, decide_eq_true hshort, Bool.true_and, raiseAttention_eq]; rfl
  · obtain rfl : r = t.count := by omega
    rw [if_neg hshort, decide_eq_false hshort, Bool.false_and, Bool.or_false, Nat.sub_self, Nat.zero_mul, Int.natCast_zero, Int.add_zero]
    rfl

/-! ## The close of a count (R153) -/

theorem nodup_slots {α : Type} {t : Table α} (h : Table.Sorted t) : (t.map (·.1)).Nodup :=
  List.pairwise_map.2 (h.imp Nat.ne_of_lt)

theorem closeCrosses_iff {counted : Table Nat} :
    closeCrosses b counted = true ↔ ∃ e ∈ counted, 0 < Figures.at' b.levels e.1
      ∧ Figures.at' b.levels e.1 ≤ Figures.at' b.onHand e.1 ∧ e.2 < Figures.at' b.levels e.1 := by
  simp only [closeCrosses, List.any_eq_true, crossesTo_eq, decide_eq_true_eq]

/-- A count of one slot does not bear on the crossings of others. -/
theorem closeCrosses_lowered {counted : Table Nat} (h : ∀ e ∈ counted, e.1 ≠ d) :
    closeCrosses (b.lowered d n) counted = closeCrosses b counted := by
  rw [Bool.eq_iff_iff, closeCrosses_iff, closeCrosses_iff, lowered_eq]
  refine exists_congr fun e => and_congr_right fun he => ?_
  rw [Figures.at'_set_ne _ _ (h e he)]

/-- The counted figures are brought in slot by slot, and each crosses its level or not as all were still the counts before (R138). -/
theorem applyFigures_sorted {counted : Table Nat} (h : Table.Sorted counted) (b : Branch) :
    applyFigures b counted =
      { b with
        onHand := setLevels b.onHand counted
        causes := { b.causes with stockLow := b.causes.stockLow || closeCrosses b counted } } := by
  induction counted generalizing b with
  | nil => rw [closeCrosses, List.any_nil, Bool.or_false]; rfl
  | cons e rest ih =>
    obtain ⟨d, c⟩ := e
    obtain ⟨hd, hrest⟩ := List.pairwise_cons.1 h
    have hcrosses : closeCrosses b ((d, c) :: rest) = (b.crossesTo d c || closeCrosses b rest) := rfl
    rw [applyFigures, ih hrest, closeCrosses_lowered fun e he => (hd e he).ne', lowered_eq, hcrosses, setLevels]
    dsimp only
    rw [Bool.or_assoc]

theorem at'_setLevels {counted : Table Nat} (h : Table.Sorted counted) (f : Figures) (d : Nat) :
    Figures.at' (setLevels f counted) d = (Table.find counted d).getD (Figures.at' f d) := by
  cases hd : Table.find counted d with
  | none => exact at'_setLevels_of_ne (Table.find_none_iff.1 hd)
  | some c => exact at'_setLevels_of_mem (nodup_slots h) (Table.mem_of_find hd)

theorem closed_eq (h : Table.Sorted l.counted) (b : Branch) (net : Int) :
    b.closed l net =
      { b with
        onHand := setLevels b.onHand l.counted
        variance := b.variance + net
        causes := { b.causes with stockLow := b.causes.stockLow || closeCrosses b l.counted }
        latch := none } := by
  rw [Branch.closed, applyFigures_sorted h]

theorem closeInto_eq (slot : Nat) (b : Branch) (l : CountLatch) (net : Int) (s : State) :
    closeInto slot b l net s =
      { s with
        record.branches := Table.put s.record.branches slot (b.closed l net)
        record.pool.writtenOff := s.record.pool.writtenOff - net
        attentionMark := s.attentionMark || (closeCrosses b l.counted && s.inForce.attentionEnable) } := by
  unfold closeInto
  dsimp only
  rw [Int.sub_eq_add_neg]
  cases closeCrosses b l.counted with
  | true => rw [if_pos rfl, raiseAttention_eq, Bool.true_and]; rfl
  | false => rw [if_neg nofun, Bool.false_and, Bool.or_false]; rfl

/-- The checks of R153 on the net value. -/
theorem closeFits_iff {net : Int} :
    closeFits s b net = true ↔ (0 < net → (stockValue s : Int) + net ≤ 2 ^ 47 - 1)
      ∧ (-(2 ^ 47 - 1) ≤ s.record.pool.writtenOff - net ∧ s.record.pool.writtenOff - net ≤ 2 ^ 47 - 1)
      ∧ -(2 ^ 47 - 1) ≤ b.variance + net ∧ b.variance + net ≤ 2 ^ 47 - 1 := by
  rw [closeFits, Bool.and_eq_true, Bool.and_eq_true, Bool.or_eq_true, decide_eq_true_eq, decide_eq_true_eq, ← Int.not_lt,
    ← imp_iff_not_or, signedTotalOk_iff, signedTotalOk_iff, and_assoc]
  exact Iff.rfl

/-! ## The lines of a count (R151, R153) -/

theorem countLine_eq (s : State) (l : CountLatch) (d : Nat) :
    countLine s l d =
      { denomination := d
        latched := Figures.at' l.latched d
        counted := Table.find l.counted d
        difference := (Table.find l.counted d).map (fun c => (c : Int) - (Figures.at' l.latched d : Int))
        value := (Table.find l.counted d).map (fun c => ((c : Int) - (Figures.at' l.latched d : Int)) * (s.face d : Int)) } := by
  rw [countLine]
  cases Table.find l.counted d with
  | none => rfl
  | some c => rfl

/-- The line of a slot with an entered figure. -/
theorem closeLines_eq (h : Table.Sorted l.counted) (s : State) :
    closeLines s l = l.counted.map (fun e =>
      { denomination := e.1
        latched := Figures.at' l.latched e.1
        counted := some e.2
        difference := some ((e.2 : Int) - (Figures.at' l.latched e.1 : Int))
        value := some (((e.2 : Int) - (Figures.at' l.latched e.1 : Int)) * (s.face e.1 : Int)) }) := by
  refine List.map_congr_left fun e he => ?_
  rw [countLine_eq, Table.find_of_mem h he]
  rfl

end Sys2Proof.Machine
end

section
/-!
DISPATCH (O48).
-/

namespace Sys2Proof.Machine

variable {s : State} {origin destination d n : Nat} {b : Branch} {den : Denomination}

/-- The first check that fails answers, and nothing changes (R144). -/
theorem dispatch_refused {r : Reply}
    (h : (if s.record.mode ≠ .service then some (refuse .wrongMode)
       else if 127 < origin ∨ 127 < destination ∨ 15 < d ∨ n < 1 ∨ 9999999 < n then some (refuse .badValue)
       else if origin = destination then some (refuse .badValue)
       else
        match s.branch? origin, s.branch? destination, s.denomination? d with
        | none, _, _ => some (refuse .unknownBranch)
        | some _, none, _ => some (refuse .unknownBranch)
        | some _, some _, none => some (refuse .unknownSlot)
        | some b, some _, some _ =>
          if b.latch.isSome then some (refuse .branchCounting)
          else if Figures.at' b.onHand d < n then some (refuseWith .shortStock (.onHand (Figures.at' b.onHand d)))
          else if 64 ≤ s.record.transfers.length then some (refuse .tableFull)
          else none) = some r) :
    dispatch origin destination d n s = (s, r) := by
  refine replied_ite not_serves (fun _ => replied_ite not_dispatchOk fun _ => replied_ite Iff.rfl fun _ => ?_) h
  intro hrest
  cases hfrom : s.branch? origin with
  | none => simp only [hfrom, Option.some.injEq] at hrest ⊢; rw [hrest]
  | some b =>
    cases hto : s.branch? destination with
    | none => simp only [hfrom, hto, Option.some.injEq] at hrest ⊢; rw [hrest]
    | some b' =>
      cases hden : s.denomination? d with
      | none => simp only [hfrom, hto, hden, Option.some.injEq] at hrest ⊢; rw [hrest]
      | some den =>
        simp only [hfrom, hto, hden] at hrest ⊢
        exact replied_ite Iff.rfl (fun _ => replied_ite Iff.rfl fun _ => replied_ite Iff.rfl fun _ hnone => by cases hnone) hrest

/-- The checks of R144 passed: the stamps leave the origin, and the entry is listed. -/
theorem dispatch_taken (hmode : s.record.mode = .service) (horigin : origin < 128) (hdestination : destination < 128)
    (hne : origin ≠ destination) (hd : d < 16) (h1 : 1 ≤ n) (h2 : n ≤ 9999999) (hb : s.branch? origin = some b)
    (hto : (s.branch? destination).isSome) (hden : s.denomination? d = some den) (hl : b.latch = none) (hn : n ≤ b.count d)
    (hlen : s.record.transfers.length < 64) :
    dispatch origin destination d n s =
      (listTransfer (dispatchedEntry s origin destination d n) (takeStamps origin b d n s),
       done (.dispatched (numberGiven s) s.record.transfers.length (b.count d - n) (n * den.face) (b.crossesTo d (b.count d - n)))) := by
  obtain ⟨b', hto⟩ := Option.isSome_iff_exists.1 hto
  unfold dispatch
  rw [if_neg (mt not_serves.1 (not_not.2 hmode)), if_neg (mt not_dispatchOk.1 (by omega)), if_neg hne, hb, hto, hden]
  dsimp only [dispatchFrom]
  rw [if_neg (by rw [Branch.counting, hl]; decide), if_neg (Nat.not_lt.2 hn),
    if_neg (show ¬Config.transferPlaces ≤ _ from Nat.not_le.2 hlen), transferValue]
  dsimp only [dispatchedEntry]
  rw [face_of_denomination? hden]

/-- Settles O48: the checks are those of the statement in its order; past them `freeNumber_passes` and `freeNumber_unlisted` give the number
and `takeStamps_eq` the changes. -/
theorem dispatchAddsTransfer : Obligations.DispatchAddsTransfer := by
  intro tag o d k n s
  refine ⟨fun r h => answers_of_block rfl rfl (dispatch_refused h), ?_⟩
  rintro b den hmode ho hd hne hk h1 h2 hb hto hden hl hn hlen held crosses rfl hcrosses
  rw [← crossesTo_eq] at hcrosses
  subst hcrosses
  obtain ⟨passed, hle, hgiven, hlisted⟩ := freeNumber_passes s.record.transfers s.record.transfers.length s.record.nextTransfer
  have hfree := freeNumber_unlisted (ts := s.record.transfers) (by omega) s.record.nextTransfer
  refine ⟨passed, numberGiven s, hle, fun j hj => ?_, ?_, fun x hx heq => ?_, ?_⟩
  · rw [nat_repeat_eq_iterate]
    exact numberListed_iff.1 (hlisted j hj)
  · rw [nat_repeat_eq_iterate]
    exact hgiven
  · exact Bool.false_ne_true (hfree.symm.trans (numberListed_iff.2 ⟨x, hx, heq⟩))
  · refine answers_of_block rfl rfl ((dispatch_taken hmode ho hd hne hk h1 h2 hb hto hden hl hn hlen).trans ?_)
    rw [takeStamps_eq, lowered_eq]
    rfl

end Sys2Proof.Machine
end

section
/-!
RECEIVE and CANCEL TRANSFER (O49).
-/

namespace Sys2Proof.Machine

variable {s : State} {number r : Nat} {x : Transfer} {b : Branch} {den : Denomination}

/-- The checks 1 to 3 of R145: the first that fails answers, and nothing changes. -/
theorem receive_refused {st : Status}
    (h : (if s.record.mode ≠ .service then some Status.wrongMode
       else if number < 1 ∨ 65535 < number ∨ 9999999 < r then some .badValue
       else if ∀ x ∈ s.record.transfers, x.number ≠ number then some .unknownTransfer
       else none) = some st) :
    receive number r s = (s, refuse st) := by
  refine refused_ite not_serves (fun _ => refused_ite not_receiptOk fun _ hrest => ?_) h
  obtain ⟨hnone, hst⟩ := Option.ite_none_right_eq_some.1 hrest
  cases hst
  rw [transfer?_eq_none_iff.2 hnone]

/-- The checks 1 to 3 of R145 passed, of an entry whose destination and slot are not EMPTY (R142). -/
theorem receive_checked (hmode : s.record.mode = .service) (h1 : 1 ≤ number) (h2 : number ≤ 65535) (hr : r ≤ 9999999)
    (hx : s.transfer? number = some x) (hb : s.branch? x.destination = some b) (hden : s.denomination? x.denomination = some den) :
    receive number r s = receiveInto x r b s := by
  unfold receive
  rw [if_neg (mt not_serves.1 (not_not.2 hmode)), if_neg (mt not_receiptOk.1 (by omega)), hx]
  dsimp only
  rw [hb, hden]

/-- The first check of R146 that fails answers, and nothing changes (log 30). -/
theorem cancelTransfer_refused {st : Status}
    (h : (if s.record.mode ≠ .service then some Status.wrongMode
       else if number < 1 ∨ 65535 < number then some .badValue
       else if ∀ x ∈ s.record.transfers, x.number ≠ number then some .unknownTransfer
       else none) = some st) :
    cancelTransfer number s = (s, refuse st) := by
  refine refused_ite not_serves (fun _ => refused_ite not_numberOk fun _ hrest => ?_) h
  obtain ⟨hnone, hst⟩ := Option.ite_none_right_eq_some.1 hrest
  cases hst
  rw [transfer?_eq_none_iff.2 hnone]

/-- The first checks of R146 passed, of an entry whose origin and slot are not EMPTY (R142). -/
theorem cancelTransfer_checked (hmode : s.record.mode = .service) (h1 : 1 ≤ number) (h2 : number ≤ 65535)
    (hx : s.transfer? number = some x) (hb : s.branch? x.origin = some b) (hden : s.denomination? x.denomination = some den) :
    cancelTransfer number s = cancelInto x b s := by
  unfold cancelTransfer
  rw [if_neg (mt not_serves.1 (not_not.2 hmode)), if_neg (mt not_numberOk.1 (by omega)), hx]
  dsimp only
  rw [hb, hden]

/-- Settles O49: the checks are those of the statement in its order; the entry found is the one that leaves the list
(`filter_number_ne`), and `receiveStamps_eq` gives the changes of a receipt. -/
theorem transferReceivedOrCancelled : Obligations.TransferReceivedOrCancelled := by
  intro tag number r s
  refine ⟨fun st h => answers_of_block rfl rfl (receive_refused h), fun st h => answers_of_block rfl rfl (cancelTransfer_refused h), ?_⟩
  rintro front behind x den b held hmode h1 h2 ht hx hrest hden rfl
  have hfound := transfer?_eq_some ht hx hrest
  have hleft : s.record.transfers.filter (fun y => decide (y.number ≠ x.number)) = front ++ behind := by
    rw [ht, filter_number_ne rfl (hx ▸ hrest)]
  constructor
  · rintro hb hr lost rfl
    refine answers_of_block rfl rfl ((receive_checked hmode h1 h2 hr hfound hb hden).trans ?_)
    rw [receiveInto, face_of_denomination? hden]
    refine ite_congr rfl (fun _ => rfl) fun hle => ite_congr rfl (fun _ => rfl) fun _ => ite_congr rfl (fun _ => rfl) fun _ =>
      ite_congr rfl (fun _ => rfl) fun _ => ?_
    rw [receiveStamps_eq (Nat.not_lt.1 hle), receiving_eq, face_of_denomination? hden, hleft]
    rfl
  · intro hb
    refine answers_of_block rfl rfl ((cancelTransfer_checked hmode h1 h2 hfound hb hden).trans ?_)
    refine ite_congr rfl (fun _ => rfl) fun _ => ite_congr rfl (fun _ => rfl) fun _ => ?_
    rw [← hleft]
    rfl

end Sys2Proof.Machine
end

section
/-!
CLOSE COUNT (O52), READ TRANSFERS and READ COUNT (O50), and BEGIN COUNT, ENTER COUNT and ABANDON COUNT (O51).
-/

namespace Sys2Proof.Machine

variable {s : State} {slot : Nat} {b : Branch} {l : CountLatch}

/-- The checks before those on the net value: the first that fails answers, and nothing changes (log 30). -/
theorem closeCount_refused {st : Status}
    (h : (if s.record.mode ≠ .service then some Status.wrongMode
       else if 127 < slot then some .badValue
       else
        match s.branch? slot with
        | none => some .unknownBranch
        | some b => if b.latch = none then some .wrongState else none) = some st) :
    closeCount slot s = (s, refuse st) := by
  refine refused_ite not_serves (fun _ => refused_ite not_branchSlotOk fun _ => ?_) h
  intro hrest
  cases hb : s.branch? slot with
  | none => simp only [hb, Option.some.injEq] at hrest ⊢; rw [hrest]
  | some b =>
    simp only [hb] at hrest ⊢
    obtain ⟨hl, hst⟩ := Option.ite_none_right_eq_some.1 hrest
    cases hst
    rw [hl]

/-- The checks before those on the net value passed. -/
theorem closeCount_checked (hmode : s.record.mode = .service) (hslot : slot < 128) (hb : s.branch? slot = some b)
    (hl : b.latch = some l) :
    closeCount slot s =
      if !closeFits s b (countNet s l) then (s, refuse .badValue)
      else
        (closeInto slot b l (countNet s l) s,
         done (.countClosed (closeLines s l) (countNet s l) (countSurpluses l) (countLosses l)
          (s.record.pool.writtenOff - countNet s l) (b.variance + countNet s l) (closeCrosses b l.counted))) := by
  unfold closeCount
  rw [if_neg (mt not_serves.1 (not_not.2 hmode)), if_neg (mt not_branchSlotOk.1 (by omega)), hb]
  dsimp only
  rw [hl]

/-- Settles O52: the checks are those of the statement in its order (`closeFits_iff` for the last), and `closed_eq` and `closeInto_eq` give
the changes. -/
theorem closeCountAppliesFigures : Obligations.CloseCountAppliesFigures := by
  intro tag slot s
  refine ⟨fun st h => answers_of_block rfl rfl (closeCount_refused h), ?_⟩
  intro b l net fits hmode hslot hb hl hsorted hnet hfits
  obtain rfl : net = countNet s l := hnet
  have hchecked := closeCount_checked hmode hslot hb hl
  rw [← closeFits_iff] at hfits
  refine ⟨fun hno => answers_of_block rfl rfl (hchecked.trans ?_), fun hyes => ?_⟩
  · exact if_pos (by rw [Bool.not_eq_true', ← Bool.not_eq_true, ← hfits]; exact hno)
  · refine ⟨b.closed l (countNet s l), closeCrosses b l.counted, closeCrosses_iff, fun d => ?_, ?_, closeLines s l,
      closeLines_eq hsorted s, answers_of_block rfl rfl (hchecked.trans ?_)⟩
    · rw [closed_eq hsorted, at'_setLevels hsorted]
    · rw [closed_eq hsorted]
    · rw [if_neg (by rw [hfits.1 hyes]; decide), closeInto_eq, countSurpluses, countLosses, Table.count_eq_length_filter,
        Table.count_eq_length_filter]

/-- Settles O50: each check of the two blocks is the check of the statement in the same place, and neither block changes the state. -/
theorem readTransfersAndReadCount : Obligations.ReadTransfersAndReadCount := by
  intro tag s
  refine ⟨fun start => answers_of_block rfl rfl ?_, fun slot => answers_of_block rfl rfl ?_⟩
  · refine ite_congr (propext not_unlocked) (fun _ => rfl) fun _ => ite_congr (propext not_transferPlace) (fun _ => rfl) fun _ => ?_
    rw [page_eq, List.map_map]
    rfl
  · refine ite_congr (propext not_unlocked) (fun _ => rfl) fun _ => ite_congr (propext not_branchSlotOk) (fun _ => rfl) fun _ => ?_
    cases s.branch? slot with
    | none => rfl
    | some b =>
      dsimp only
      cases b.latch with
      | none => rfl
      | some l =>
        simp only [← countLine_eq]
        rfl

/-- Settles O51: each check of the three blocks is the check of the statement in the same place, and each taken one changes the latch
alone. -/
theorem countBegunEnteredAbandoned : Obligations.CountBegunEnteredAbandoned := by
  intro tag slot d c s
  refine ⟨answers_of_block rfl rfl ?_, answers_of_block rfl rfl ?_, answers_of_block rfl rfl ?_⟩
  · refine ite_congr (propext not_serves) (fun _ => rfl) fun _ => ite_congr (propext not_branchSlotOk) (fun _ => rfl) fun _ => ?_
    cases s.branch? slot with
    | none => rfl
    | some b => rfl
  · refine ite_congr (propext not_serves) (fun _ => rfl) fun _ => ite_congr (propext not_enteredOk) (fun _ => rfl) fun _ => ?_
    cases s.branch? slot with
    | none => rfl
    | some b =>
      dsimp only
      cases b.latch with
      | none => rfl
      | some l =>
        dsimp only
        cases hden : s.denomination? d with
        | none => rfl
        | some den => dsimp only [enterFigure]; rw [face_of_denomination? hden]; rfl
  · refine ite_congr (propext not_serves) (fun _ => rfl) fun _ => ite_congr (propext not_branchSlotOk) (fun _ => rfl) fun _ => ?_
    cases s.branch? slot with
    | none => rfl
    | some b =>
      dsimp only
      cases b.latch with
      | none => rfl
      | some l => rfl

end Sys2Proof.Machine
end

section
/-!
SUPPORT. The application of a class of settings (R159, R160): the state it leaves field by field, the fallen-back set, the enables and
their marks.
-/

namespace Sys2Proof.Machine

variable {s : State} {st : StoredSettings} {f : SettingField} {l : List SettingField}

/-! ## The enables (R170) -/

/-- A setting that one field alone sets takes its value from the store where that field is among those applied. -/
theorem foldl_settle_of_field {α : Type} {π : Settings → α} {e : SettingField} {v : α}
    (h : ∀ cur f, π (settle st cur f) = if f = e then v else π cur) (cur : Settings) (l : List SettingField) :
    π (l.foldl (settle st) cur) = if e ∈ l then v else π cur := by
  induction l generalizing cur with
  | nil => rfl
  | cons f rest ih =>
    rw [List.foldl_cons, ih, h]
    by_cases hf : f = e
    · simp [hf]
    · simp [hf, Ne.symm hf]

/-- Such a setting changes at most once in the application of a class: each field leaves it as it was or gives it its last value. -/
theorem settle_of_field_cases {α : Type} {π : Settings → α} {e : SettingField} {v : α}
    (h : ∀ cur f, π (settle st cur f) = if f = e then v else π cur) (cur : Settings) (f : SettingField) (rest : List SettingField) :
    π (settle st cur f) = π cur ∨ π (settle st cur f) = π (rest.foldl (settle st) (settle st cur f)) := by
  rw [foldl_settle_of_field h, h]
  by_cases hf : f = e
  · right; simp [hf]
  · left; simp [hf]

theorem settle_attentionEnable (st : StoredSettings) (cur : Settings) (f : SettingField) :
    (settle st cur f).attentionEnable = if f = .attentionEnable then (enableOf st.attentionEnable).getD false else cur.attentionEnable := by
  cases f <;> rfl

theorem settle_resultEnable (st : StoredSettings) (cur : Settings) (f : SettingField) :
    (settle st cur f).resultEnable = if f = .resultEnable then (enableOf st.resultEnable).getD false else cur.resultEnable := by
  cases f <;> rfl

theorem foldl_settle_attentionEnable (st : StoredSettings) (cur : Settings) (l : List SettingField) :
    (l.foldl (settle st) cur).attentionEnable =
      if .attentionEnable ∈ l then (enableOf st.attentionEnable).getD false else cur.attentionEnable :=
  foldl_settle_of_field (settle_attentionEnable st) cur l

theorem foldl_settle_resultEnable (st : StoredSettings) (cur : Settings) (l : List SettingField) :
    (l.foldl (settle st) cur).resultEnable =
      if .resultEnable ∈ l then (enableOf st.resultEnable).getD false else cur.resultEnable :=
  foldl_settle_of_field (settle_resultEnable st) cur l

theorem settle_attentionEnable_cases (st : StoredSettings) (cur : Settings) (f : SettingField) (rest : List SettingField) :
    (settle st cur f).attentionEnable = cur.attentionEnable
      ∨ (settle st cur f).attentionEnable = (rest.foldl (settle st) (settle st cur f)).attentionEnable :=
  settle_of_field_cases (settle_attentionEnable st) cur f rest

theorem settle_resultEnable_cases (st : StoredSettings) (cur : Settings) (f : SettingField) (rest : List SettingField) :
    (settle st cur f).resultEnable = cur.resultEnable
      ∨ (settle st cur f).resultEnable = (rest.foldl (settle st) (settle st cur f)).resultEnable :=
  settle_of_field_cases (settle_resultEnable st) cur f rest

/-- A mark that the change of an enable from `a` over `b` to `c` leaves, where `b` is one of the two. -/
theorem mark_two_changes {a b c : Bool} (h : b = a ∨ b = c) (mark : Bool) :
    ((mark && !(a && !b)) && !(b && !c)) = (mark && !(a && !c)) := by
  rcases h with rfl | rfl
  · simp
  · simp

/-! ## The state a class leaves -/

theorem applyField_eq (f : SettingField) (s : State) :
    applyField f s =
      { s with
        record.deviceCauses.settingsFault := s.record.deviceCauses.settingsFault || !inRange s.stored f
        inForce := settle s.stored s.inForce f
        fallenBack := if inRange s.stored f then s.fallenBack.filter (fun g => decide (g ≠ f)) else joinFallen f s.fallenBack
        resultMark := s.resultMark && !(s.inForce.resultEnable && !(settle s.stored s.inForce f).resultEnable)
        attentionMark := s.attentionMark && !(s.inForce.attentionEnable && !(settle s.stored s.inForce f).attentionEnable)
          || (!inRange s.stored f && (settle s.stored s.inForce f).attentionEnable) } := by
  unfold applyField
  cases hr : inRange s.stored f with
  | true => simp [dropMarks]
  | false => simp [dropMarks, setDeviceCause, raiseAttention_eq, DeviceCauses.with]

/-- The state an application leaves; the fallen-back set and the attention mark have lemmas of their own. -/
theorem applyFields_eq (l : List SettingField) (s : State) :
    applyFields l s =
      { s with
        record.deviceCauses.settingsFault := s.record.deviceCauses.settingsFault || l.any (fun f => !inRange s.stored f)
        inForce := l.foldl (settle s.stored) s.inForce
        fallenBack := (applyFields l s).fallenBack
        resultMark := s.resultMark && !(s.inForce.resultEnable && !(l.foldl (settle s.stored) s.inForce).resultEnable)
        attentionMark := (applyFields l s).attentionMark } := by
  induction l generalizing s with
  | nil => simp [applyFields]
  | cons f rest ih =>
    rw [applyFields, ih (applyField f s), applyField_eq]
    simp only [List.any_cons, List.foldl_cons, Bool.or_assoc, mark_two_changes (settle_resultEnable_cases s.stored s.inForce f rest)]

@[simp] theorem applyFields_inForce (l : List SettingField) (s : State) :
    (applyFields l s).inForce = l.foldl (settle s.stored) s.inForce := by
  rw [applyFields_eq]

@[simp] theorem applyFields_stored (l : List SettingField) (s : State) : (applyFields l s).stored = s.stored := by
  rw [applyFields_eq]

theorem applyFields_append (l₁ l₂ : List SettingField) (s : State) :
    applyFields (l₁ ++ l₂) s = applyFields l₂ (applyFields l₁ s) := by
  induction l₁ generalizing s with
  | nil => rfl
  | cons f rest ih => exact ih (applyField f s)

/-! ## The fallen-back set (R160) -/

theorem mem_allFields (f : SettingField) : f ∈ allFields := by
  cases f <;> decide

theorem mem_applyField_fallenBack {g : SettingField} :
    g ∈ (applyField f s).fallenBack ↔ if g = f then inRange s.stored f = false else g ∈ s.fallenBack := by
  rw [applyField_eq]
  cases hr : inRange s.stored f with
  | true => simp [and_comm]
  | false => simp [joinFallen, mem_allFields, or_iff_not_imp_left]

theorem mem_applyFields_fallenBack {g : SettingField} :
    g ∈ (applyFields l s).fallenBack ↔ if g ∈ l then inRange s.stored g = false else g ∈ s.fallenBack := by
  induction l generalizing s with
  | nil => simp [applyFields]
  | cons f rest ih =>
    rw [applyFields, ih, applyField_stored, mem_applyField_fallenBack]
    by_cases hg : g ∈ rest
    · simp [hg]
    · by_cases hf : g = f
      · simp [hf]
      · simp [hg, hf]

/-- The fields of a list stand in the order of R159's table. -/
def InTableOrder (l : List SettingField) : Prop :=
  ∃ q : SettingField → Bool, l = allFields.filter q

theorem InTableOrder.ext {l₁ l₂ : List SettingField} (h₁ : InTableOrder l₁) (h₂ : InTableOrder l₂) (h : ∀ f, f ∈ l₁ ↔ f ∈ l₂) :
    l₁ = l₂ := by
  obtain ⟨q₁, rfl⟩ := h₁
  obtain ⟨q₂, rfl⟩ := h₂
  refine List.filter_congr fun f hf => ?_
  have hiff := h f
  rw [List.mem_filter, List.mem_filter, and_iff_right hf, and_iff_right hf] at hiff
  exact Bool.eq_iff_iff.2 hiff

theorem InTableOrder.applyField (h : InTableOrder s.fallenBack) (f : SettingField) :
    InTableOrder (applyField f s).fallenBack := by
  obtain ⟨q, hq⟩ := h
  rw [applyField_eq]
  dsimp only
  split
  · rw [hq, List.filter_filter]
    exact ⟨_, rfl⟩
  · exact ⟨_, rfl⟩

theorem InTableOrder.applyFields (h : InTableOrder s.fallenBack) (l : List SettingField) :
    InTableOrder (applyFields l s).fallenBack := by
  induction l generalizing s with
  | nil => exact h
  | cons f rest ih => exact ih (h.applyField f)

/-! ## The attention mark (R170) -/

/-- While the enable stands as it was, the mark is raised by each field that falls back under it and never cleared. -/
theorem applyFields_attentionMark_of_enable_stands
    (he : (l.foldl (settle s.stored) s.inForce).attentionEnable = s.inForce.attentionEnable) :
    (applyFields l s).attentionMark =
      (s.attentionMark || (s.inForce.attentionEnable && l.any (fun f => !inRange s.stored f))) := by
  induction l generalizing s with
  | nil => simp [applyFields]
  | cons f rest ih =>
    rw [List.foldl_cons] at he
    have hstep : (settle s.stored s.inForce f).attentionEnable = s.inForce.attentionEnable :=
      (settle_attentionEnable_cases s.stored s.inForce f rest).elim id (·.trans he)
    rw [applyFields, ih (by rw [applyField_stored, applyField_inForce, he, hstep]), applyField_eq]
    dsimp only
    rw [hstep, List.any_cons]
    cases s.inForce.attentionEnable with
    | true => simp [Bool.or_assoc]
    | false => simp

/-- Turning the enable off clears the mark, and no later field raises it. -/
theorem applyFields_attentionMark_of_turned_off (hon : s.inForce.attentionEnable = true)
    (hoff : (l.foldl (settle s.stored) s.inForce).attentionEnable = false) : (applyFields l s).attentionMark = false := by
  induction l generalizing s with
  | nil => simp [hon] at hoff
  | cons f rest ih =>
    rw [List.foldl_cons] at hoff
    rw [applyFields]
    cases hstep : (settle s.stored s.inForce f).attentionEnable with
    | true =>
      refine ih ?_ ?_
      · rw [applyField_inForce, hstep]
      · rw [applyField_stored, applyField_inForce, hoff]
    | false =>
      rw [applyFields_attentionMark_of_enable_stands (by rw [applyField_stored, applyField_inForce, hoff, hstep]), applyField_eq]
      simp [hstep, hon]

/-- Where no field falls back the mark changes with its enable alone. -/
theorem applyFields_attentionMark_of_inRange (hr : l.any (fun f => !inRange s.stored f) = false) :
    (applyFields l s).attentionMark =
      (s.attentionMark && !(s.inForce.attentionEnable && !(l.foldl (settle s.stored) s.inForce).attentionEnable)) := by
  induction l generalizing s with
  | nil => simp [applyFields]
  | cons f rest ih =>
    rw [List.any_cons, Bool.or_eq_false_iff] at hr
    obtain ⟨hf, hrest⟩ := hr
    rw [applyFields, ih (by rw [applyField_stored, hrest]), applyField_eq]
    simp only [hf, Bool.false_and, Bool.or_false, List.foldl_cons,
      mark_two_changes (settle_attentionEnable_cases s.stored s.inForce f rest)]

end Sys2Proof.Machine
end

section
/-! SUPPORT. SET MODE (O13): each branch of its block, and the entry to SERVICE as the application of the SERVICE ENTRY class. -/

namespace Sys2Proof.Machine

variable {s : State}

theorem setMode_of_locked (h : s.record.mode = .locked) (target : Coded Mode) : setMode target s = (s, refuse .wrongMode) :=
  if_pos (not_unlocked.2 h)

theorem setMode_of_badTarget (h : s.record.mode ≠ .locked) {target : Coded Mode} (ht : target = .unknown ∨ target = .value .locked) :
    setMode target s = (s, refuse .badValue) := by
  rcases ht with rfl | rfl
  · exact if_neg (mt not_unlocked.1 h)
  · exact if_neg (mt not_unlocked.1 h)

/-- SET MODE once the checks of the mode and of the target have passed (R157). -/
theorem setMode_value (h : s.record.mode ≠ .locked) {m : Mode} (hm : m ≠ .locked) :
    setMode (.value m) s =
      if m = s.record.mode then (s, done .none)
      else if m = .service then
        ((enterService s).state,
         done (.serviceEntry s.record.mode m (fallers s.stored serviceEntryClass) (enterService s).issued))
      else (s.withMode m, done (.modes s.record.mode m)) := by
  cases m with
  | locked => exact absurd rfl hm
  | setup => exact if_neg (mt not_unlocked.1 h)
  | service => exact if_neg (mt not_unlocked.1 h)
  | frozen => exact if_neg (mt not_unlocked.1 h)

/-- The SERVICE ENTRY class holds neither enable, so that the result mark stands and the attention mark can only rise (R159, R170). -/
theorem applyFields_serviceEntry (s : State) :
    applyFields serviceEntryClass s =
      { s with
        record.deviceCauses.settingsFault :=
          s.record.deviceCauses.settingsFault || serviceEntryClass.any (fun f => !inRange s.stored f)
        inForce := serviceEntryClass.foldl (settle s.stored) s.inForce
        fallenBack := (applyFields serviceEntryClass s).fallenBack
        attentionMark :=
          s.attentionMark || (s.inForce.attentionEnable && serviceEntryClass.any (fun f => !inRange s.stored f)) } := by
  have hresult : (serviceEntryClass.foldl (settle s.stored) s.inForce).resultEnable = s.inForce.resultEnable :=
    (foldl_settle_resultEnable ..).trans (if_neg (by decide))
  have hattention : (serviceEntryClass.foldl (settle s.stored) s.inForce).attentionEnable = s.inForce.attentionEnable :=
    (foldl_settle_attentionEnable ..).trans (if_neg (by decide))
  rw [← applyFields_attentionMark_of_enable_stands hattention]
  conv_lhs => rw [applyFields_eq, hresult]
  simp

/-- Settles O13: the checks of the target and the mode in the order of the prose, and `applyFields_serviceEntry` for an entry to SERVICE. -/
theorem setModeAnswered : Obligations.SetModeAnswered := by
  intro tag s
  refine ⟨fun target h => answers_of_block rfl rfl (setMode_of_locked h target), fun h => ⟨?_, ?_, ?_⟩, fun m h hne hm => ?_, fun h => ?_⟩
  · exact answers_of_block rfl rfl (setMode_of_badTarget h (.inl rfl))
  · exact answers_of_block rfl rfl (setMode_of_badTarget h (.inr rfl))
  · exact answers_of_block rfl rfl ((setMode_value h h).trans (if_pos rfl))
  · refine answers_of_block rfl rfl ?_
    obtain ⟨hlocked, hservice⟩ : m ≠ .locked ∧ m ≠ .service := by rcases hm with rfl | rfl <;> decide
    rw [setMode_value h hlocked, if_neg hne, if_neg hservice]
    rfl
  · obtain ⟨hunlocked, hne⟩ : s.record.mode ≠ .locked ∧ Mode.service ≠ s.record.mode := by rcases h with h | h <;> rw [h] <;> decide
    refine ⟨applyFields serviceEntryClass (s.withMode .service), answers_of_block rfl rfl ?_, applyFields_inForce .., fun f =>
      mem_applyFields_fallenBack, ?_⟩
    · rw [setMode_value hunlocked (by decide), if_neg hne, if_pos rfl]
      rfl
    · rw [applyFields_inForce]
      exact applyFields_serviceEntry _

end Sys2Proof.Machine
end

section
/-!
WRITE SETTINGS (O17): the codes of R159's table, one lemma per kind of code; the order in which the present IMMEDIATE fields are applied,
which the enables alone can tell (log 9); and the request.
-/

namespace Sys2Proof.Machine

variable {s : State}

/-! ## Codes 0 and 1 (R159) -/

theorem two_codes_isSome {α : Type} (a b : α) (w : Word) :
    (if w = 0 then some a else if w = 1 then some b else none).isSome = true ↔ w.toNat ≤ 1 := by
  split_ifs with h0 h1
  · simp [h0]
  · simp [h1]
  · simp only [Option.isSome_none, Bool.false_eq_true, false_iff]
    bv_omega

theorem two_codes_getD {α : Type} (a b : α) (w : Word) :
    (if w = 0 then some a else if w = 1 then some b else none).getD a = if w = 1 then b else a := by
  split_ifs with h0 h1
  · rw [h0] at h1
    exact absurd h1 (by decide)
  · rfl
  · rfl
  · rfl

/-- A code reads back as the number stored where that is in range, and as 0 where the default is in force. -/
theorem two_codes_read {α : Type} {a b : α} {code : α → Nat} (ha : code a = 0) (hb : code b = 1) (w : Word) :
    code ((if w = 0 then some a else if w = 1 then some b else none).getD a) =
      if (if w = 0 then some a else if w = 1 then some b else none).isSome then w.toNat else 0 := by
  by_cases h0 : w = 0
  · rw [if_pos h0, h0]; exact ha
  · by_cases h1 : w = 1
    · rw [if_neg h0, if_pos h1, h1]; exact hb
    · rw [if_neg h0, if_neg h1]; exact ha

theorem enableOf_getD (w : Word) : (enableOf w).getD false = decide (w = 1) := by
  rw [enableOf, two_codes_getD]
  by_cases h : w = 1 <;> simp [h]

/-! ## START MODE and CONDITIONING (R159) -/

theorem startModeOf_isSome (w : Word) : (startModeOf w).isSome = true ↔ w.toNat ≤ 2 := by
  unfold startModeOf
  split_ifs with h0 h1 h2
  · simp [h0]
  · simp [h1]
  · simp [h2]
  · simp only [Option.isSome_none, Bool.false_eq_true, false_iff]
    bv_omega

theorem startModeOf_getD (w : Word) :
    (startModeOf w).getD .setup = if w = 1 then .service else if w = 2 then .resume else .setup := by
  unfold startModeOf
  by_cases h0 : w = 0
  · rw [h0]; rfl
  · rw [if_neg h0]
    split_ifs <;> rfl

theorem conditioningOf_isSome (w : Word) : (conditioningOf w).isSome = true ↔ w.toNat ≤ 3 := by
  unfold conditioningOf
  split_ifs with h0 h1 h2 h3
  · simp [h0]
  · simp [h1]
  · simp [h2]
  · simp [h3]
  · simp only [Option.isSome_none, Bool.false_eq_true, false_iff]
    bv_omega

theorem conditioningOf_getD (w : Word) :
    (conditioningOf w).getD .none = if w = 1 then .fixed else if w = 2 then .hold else if w = 3 then .trial else .none := by
  unfold conditioningOf
  by_cases h0 : w = 0
  · rw [h0]; rfl
  · rw [if_neg h0]
    split_ifs <;> rfl

/-! ## Numbers (R159) -/

theorem numberFrom_isSome (lo hi : Nat) (w : Word) : (numberFrom lo hi w).isSome = true ↔ lo ≤ w.toNat ∧ w.toNat ≤ hi := by
  unfold numberFrom
  rw [Option.isSome_ite]
  simp [within]

theorem refillStepOf_isSome (w : Word) : (refillStepOf w).isSome = true ↔ w.toNat ∈ [1, 10, 100, 1000, 10000] :=
  Option.isSome_ite

theorem getD_ite_some {α : Type} (c : Prop) [Decidable c] (n d : α) :
    (if c then some n else none).getD d = if (if c then some n else none).isSome then n else d := by
  by_cases h : c
  · rw [if_pos h]; rfl
  · rw [if_neg h]; rfl

theorem numberFrom_getD (lo hi d : Nat) (w : Word) :
    (numberFrom lo hi w).getD d = if (numberFrom lo hi w).isSome then w.toNat else d :=
  getD_ite_some ..

theorem refillStepOf_getD (w : Word) : (refillStepOf w).getD 100 = if (refillStepOf w).isSome then w.toNat else 100 :=
  getD_ite_some ..

/-! ## Reading a setting in force (R159) -/

/-- The number that stands for a value in force: the stored one in range, else that of the default. -/
theorem startMode_read (cur : Settings) (w : Word) :
    valueCode { cur with startMode := (startModeOf w).getD .setup } .startMode = if (startModeOf w).isSome then w.toNat else 0 := by
  unfold startModeOf
  by_cases h0 : w = 0
  · rw [h0]; rfl
  · by_cases h1 : w = 1
    · rw [h1]; rfl
    · by_cases h2 : w = 2
      · rw [h2]; rfl
      · rw [if_neg h0, if_neg h1, if_neg h2]; rfl

theorem conditioning_read (cur : Settings) (w : Word) :
    valueCode { cur with conditioning := (conditioningOf w).getD .none } .conditioning =
      if (conditioningOf w).isSome then w.toNat else 0 := by
  unfold conditioningOf
  by_cases h0 : w = 0
  · rw [h0]; rfl
  · by_cases h1 : w = 1
    · rw [h1]; rfl
    · by_cases h2 : w = 2
      · rw [h2]; rfl
      · by_cases h3 : w = 3
        · rw [h3]; rfl
        · rw [if_neg h0, if_neg h1, if_neg h2, if_neg h3]; rfl

theorem presentImmediate_eq_filter (p : SettingsPatch) {q : SettingField → Bool} (hc : q .conditioning = p.conditioning.isSome)
    (hd : q .depth = p.depth.isSome) (hr : q .resultEnable = p.resultEnable.isSome)
    (ha : q .attentionEnable = p.attentionEnable.isSome) : presentImmediate p = immediateClass.filter q := by
  have hclass : immediateClass = [.conditioning] ++ [.depth] ++ [.resultEnable] ++ [.attentionEnable] := rfl
  have hone : ∀ f, [f].filter q = if q f then [f] else [] := fun f => List.filter_cons
  rw [hclass, List.filter_append, List.filter_append, List.filter_append, hone, hone, hone, hone, hc, hd, hr, ha]
  rfl

/-! ## The order of application (log 9) -/

theorem applicationOrder_perm (first : Bool) (p : SettingsPatch) : (applicationOrder first p).Perm (presentImmediate p) := by
  unfold applicationOrder
  split
  · rename_i h
    obtain ⟨hp, -⟩ := Bool.and_eq_true_iff.1 h
    have hwith : presentImmediate p = presentImmediate { p with attentionEnable := none } ++ [.attentionEnable] := by
      simp [presentImmediate, hp]
    rw [hwith]
    exact (List.perm_append_singleton ..).symm
  · exact .refl _

/-- Two fields take their values from the store side by side. -/
theorem settle_comm (st : StoredSettings) (cur : Settings) (f g : SettingField) :
    settle st (settle st cur f) g = settle st (settle st cur g) f := by
  cases f <;> cases g <;> rfl

theorem foldl_settle_perm {l₁ l₂ : List SettingField} (h : l₁.Perm l₂) (st : StoredSettings) (cur : Settings) :
    l₁.foldl (settle st) cur = l₂.foldl (settle st) cur :=
  h.foldl_eq' (fun f _ g _ cur => settle_comm st cur f g) cur

/-! ## The request -/

theorem writeStored_stored (p : SettingsPatch) (s : State) : (writeStored p s).stored = storePatch p s.stored :=
  applyFields_stored ..

theorem writeStored_inForce (p : SettingsPatch) (s : State) :
    (writeStored p s).inForce = (presentImmediate p).foldl (settle (storePatch p s.stored)) s.inForce :=
  (applyFields_inForce ..).trans (foldl_settle_perm (applicationOrder_perm ..) ..)

theorem mem_writeStored_fallenBack {p : SettingsPatch} {f : SettingField} :
    f ∈ (writeStored p s).fallenBack ↔
      if f ∈ presentImmediate p then inRange (storePatch p s.stored) f = false else f ∈ s.fallenBack := by
  refine mem_applyFields_fallenBack.trans ?_
  simp only [(applicationOrder_perm ..).mem_iff]

theorem writeStored_eq (p : SettingsPatch) (s : State) :
    writeStored p s =
      { s with
        stored := (writeStored p s).stored
        record.deviceCauses.settingsFault := s.record.deviceCauses.settingsFault
          || (presentImmediate p).any (fun f => !inRange (storePatch p s.stored) f)
        inForce := (writeStored p s).inForce
        fallenBack := (writeStored p s).fallenBack
        resultMark := s.resultMark && !(s.inForce.resultEnable && !(writeStored p s).inForce.resultEnable)
        attentionMark := (writeStored p s).attentionMark
        choices := s.choices + 1 } := by
  rw [writeStored_stored, writeStored_inForce, ← foldl_settle_perm (applicationOrder_perm (Config.enableBeforeFault s.choices) p),
    ← (applicationOrder_perm (Config.enableBeforeFault s.choices) p).any_eq]
  exact applyFields_eq ..

theorem writeStored_mark_of_enable_stands {p : SettingsPatch}
    (h : (writeStored p s).inForce.attentionEnable = s.inForce.attentionEnable) :
    (writeStored p s).attentionMark =
      (s.attentionMark || (s.inForce.attentionEnable && (presentImmediate p).any (fun f => !inRange (storePatch p s.stored) f))) := by
  rw [← (applicationOrder_perm (Config.enableBeforeFault s.choices) p).any_eq]
  exact applyFields_attentionMark_of_enable_stands ((congrArg _ (applyFields_inForce ..)).symm.trans h)

theorem writeStored_mark_of_turned_off {p : SettingsPatch} (hon : s.inForce.attentionEnable = true)
    (hoff : (writeStored p s).inForce.attentionEnable = false) : (writeStored p s).attentionMark = false :=
  applyFields_attentionMark_of_turned_off hon ((congrArg _ (applyFields_inForce ..)).symm.trans hoff)

theorem writeStored_mark_of_inRange {p : SettingsPatch}
    (h : (presentImmediate p).any (fun f => !inRange (storePatch p s.stored) f) = false) :
    (writeStored p s).attentionMark =
      (s.attentionMark && !(s.inForce.attentionEnable && !(writeStored p s).inForce.attentionEnable)) := by
  rw [← (applicationOrder_perm (Config.enableBeforeFault s.choices) p).any_eq] at h
  refine (applyFields_attentionMark_of_inRange h).trans ?_
  rw [← applyFields_inForce]
  rfl

theorem writeSettings_of_frozen (h : s.record.mode = .frozen) (p : SettingsPatch) : writeSettings p s = (s, refuse .wrongMode) :=
  if_pos (not_writesSettings.2 h)

theorem writeSettings_taken (h : s.record.mode ≠ .frozen) (p : SettingsPatch) :
    writeSettings p s =
      (writeStored p s,
       done (.applied ((presentImmediate p).map (fun f =>
        (f, valueCode (writeStored p s).inForce f, !inRange (writeStored p s).stored f))))) :=
  if_neg (mt not_writesSettings.1 h)

/-- Settles O17: the request by the lemmas on `writeStored`, and the table by those on the codes. -/
theorem writeSettingsStoresAndApplies : Obligations.WriteSettingsStoresAndApplies := by
  refine ⟨fun tag p s => ⟨fun h => answers_of_block rfl rfl (writeSettings_of_frozen h p), fun h => ?_⟩, fun st cur p => ?_⟩
  · refine ⟨writeStored p s, answers_of_block rfl rfl (writeSettings_taken h p), writeStored_stored .., writeStored_inForce ..,
      fun f => mem_writeStored_fallenBack, writeStored_eq .., fun hmark => ?_, writeStored_mark_of_inRange, fun h0 h1 => ?_,
      writeStored_mark_of_turned_off, fun h0 h1 hout => ?_⟩
    · cases h0 : s.inForce.attentionEnable with
      | true => exact .inr rfl
      | false =>
        cases h1 : (writeStored p s).inForce.attentionEnable with
        | true => exact .inr rfl
        | false => exact .inl (by simpa [writeStored_mark_of_enable_stands (h1.trans h0.symm), h0] using hmark)
    · rw [writeStored_mark_of_enable_stands (h1.trans h0.symm), h0, Bool.false_and, Bool.or_false]
    · rw [writeStored_mark_of_enable_stands (h1.trans h0.symm), h0, hout, Bool.and_self, Bool.or_true]
  · refine ⟨⟨rfl, rfl, rfl, rfl⟩, ⟨startModeOf_isSome _, two_codes_isSome .., refillStepOf_isSome _, numberFrom_isSome .., two_codes_isSome ..,
      numberFrom_isSome .., (numberFrom_isSome ..).trans (and_iff_right (Nat.zero_le _)), numberFrom_isSome .., conditioningOf_isSome _,
      two_codes_isSome .., two_codes_isSome .., two_codes_isSome ..⟩,
      ⟨congrArg (fun v => { cur with startMode := v }) (startModeOf_getD _),
        congrArg (fun v => { cur with backupLoss := v }) (two_codes_getD ..),
        congrArg (fun v => { cur with refillStep := v }) (refillStepOf_getD _),
        congrArg (fun v => { cur with loadTimeout := v }) (numberFrom_getD ..),
        congrArg (fun v => { cur with shortage := v }) (two_codes_getD ..),
        congrArg (fun v => { cur with overdueDays := v }) (numberFrom_getD ..),
        congrArg (fun v => { cur with margin := v }) (numberFrom_getD ..),
        congrArg (fun v => { cur with reportInterval := v }) (numberFrom_getD ..),
        congrArg (fun v => { cur with conditioning := v }) (conditioningOf_getD _),
        congrArg (fun v => { cur with depth := v }) (two_codes_getD ..),
        congrArg (fun v => { cur with resultEnable := v }) (enableOf_getD _),
        congrArg (fun v => { cur with attentionEnable := v }) (enableOf_getD _)⟩,
      fun f => ?_, rfl, presentImmediate_eq_filter p rfl rfl rfl rfl⟩
    cases f
    case startMode => exact startMode_read cur _
    case backupLoss => exact two_codes_read (code := fun v => valueCode { cur with backupLoss := v } .backupLoss) rfl rfl _
    case refillStep => exact refillStepOf_getD _
    case loadTimeout => exact numberFrom_getD ..
    case shortage => exact two_codes_read (code := fun v => valueCode { cur with shortage := v } .shortage) rfl rfl _
    case overdueDays => exact numberFrom_getD ..
    case margin => exact numberFrom_getD ..
    case reportInterval => exact numberFrom_getD ..
    case conditioning => exact conditioning_read cur _
    case depth => exact two_codes_read (code := fun v => valueCode { cur with depth := v } .depth) rfl rfl _
    case resultEnable => exact two_codes_read (code := fun v => valueCode { cur with resultEnable := v } .resultEnable) rfl rfl _
    case attentionEnable => exact two_codes_read (code := fun v => valueCode { cur with attentionEnable := v } .attentionEnable) rfl rfl _

end Sys2Proof.Machine
end

section
/-!
SUPPORT. Start-up (O9, O10): what steps 1 to 5 of R161 leave, then the renewed timers and the serving where record memory is kept, and the
cleared record memory where retention was lost; and when a RESTART is taken.
-/

namespace Sys2Proof.Machine

variable {s : State}

/-! ## The stored settings -/

theorem not_isEmpty_filter {α : Type} (p : α → Bool) (l : List α) : (!(l.filter p).isEmpty) = l.any p := by
  induction l with
  | nil => rfl
  | cons a rest ih =>
    cases hp : p a with
    | true => simp [hp]
    | false => simp [hp, ih]

/-- Whether a field of the store is out of range, over the classes in the order a start-up applies them. -/
theorem outOfRange_any (st : StoredSettings) :
    (!(outOfRange st).isEmpty) =
      (restartClass.any (fun f => !inRange st f) || (serviceEntryClass ++ immediateClass).any (fun f => !inRange st f)) := by
  rw [outOfRange, not_isEmpty_filter, ← List.any_append, allFields, List.append_assoc]

theorem mem_outOfRange {st : StoredSettings} {f : SettingField} : f ∈ outOfRange st ↔ inRange st f = false := by
  simp [outOfRange, mem_allFields]

theorem settledAll_backupLoss (st : StoredSettings) : (settledAll st).backupLoss = if st.backupLoss = 1 then .clear else .fatal :=
  two_codes_getD ..

/-! ## Steps 1 to 5 (R161) -/

/-- The attention enable is the last field that a start-up applies, so that no field falls back while it is on. -/
theorem applyFields_unmarked (hoff : s.inForce.attentionEnable = false) (hmark : s.attentionMark = false) :
    (applyFields (serviceEntryClass ++ immediateClass) s).attentionMark = false := by
  have hlast : serviceEntryClass ++ immediateClass = (serviceEntryClass ++ [.conditioning, .depth, .resultEnable]) ++ [.attentionEnable] := rfl
  have hbefore : (applyFields (serviceEntryClass ++ [.conditioning, .depth, .resultEnable]) s).attentionMark = false := by
    rw [applyFields_attentionMark_of_enable_stands ((foldl_settle_attentionEnable ..).trans (if_neg (by decide))), hmark, hoff]
    rfl
  rw [hlast, applyFields_append, applyFields, applyFields, applyField_eq, hbefore, applyFields_stored]
  dsimp only
  rw [settle_attentionEnable, if_pos rfl, Bool.false_and, Bool.false_or]
  show (!(enableOf s.stored.attentionEnable).isSome && (enableOf s.stored.attentionEnable).getD false) = false
  cases enableOf s.stored.attentionEnable with
  | none => rfl
  | some b => rfl

/-- Steps 1 and 2: the RESTART class, with no mark left to raise. -/
theorem applyFields_restart (s : State) :
    applyFields restartClass (forgetRings s) =
      { forgetRings s with
        record.deviceCauses.settingsFault := s.record.deviceCauses.settingsFault || restartClass.any (fun f => !inRange s.stored f)
        inForce := restartClass.foldl (settle s.stored) (forgetRings s).inForce
        fallenBack := restartClass.filter (fun f => !inRange s.stored f) } := by
  have hmark : (applyFields restartClass (forgetRings s)).attentionMark = false :=
    applyFields_attentionMark_of_enable_stands ((foldl_settle_attentionEnable ..).trans (if_neg (by decide)))
  have hfallen : (applyFields restartClass (forgetRings s)).fallenBack = restartClass.filter (fun f => !inRange s.stored f) := by
    refine InTableOrder.ext (.applyFields ⟨fun _ => false, rfl⟩ _)
      ⟨fun f => decide (f ∈ restartClass) && !inRange s.stored f, ?_⟩ fun f => ?_
    · rfl
    · rw [mem_applyFields_fallenBack]
      by_cases hf : f ∈ restartClass <;> simp [hf, forgetRings]
  rw [applyFields_eq, hmark, hfallen]
  rfl

/-- Steps 3 and 4 leave everything outside record memory (R161). -/
theorem checkRetention_eq (lost : Bool) (s : State) : checkRetention lost s = { s with record := (checkRetention lost s).record } := by
  unfold checkRetention
  split <;> rfl

/-- Step 5: on a board whose marks are clear and whose enables are off, the classes that remain complete the settings in force and the
fallen-back set, and no mark rises. -/
theorem applyFields_afterRestart {cur : Settings} (hcur : s.inForce = restartClass.foldl (settle s.stored) cur)
    (hoff : s.inForce.attentionEnable = false) (hresult : s.resultMark = false) (hattention : s.attentionMark = false)
    (hfallen : s.fallenBack = restartClass.filter (fun f => !inRange s.stored f)) :
    applyFields (serviceEntryClass ++ immediateClass) s =
      { s with
        record.deviceCauses.settingsFault :=
          s.record.deviceCauses.settingsFault || (serviceEntryClass ++ immediateClass).any (fun f => !inRange s.stored f)
        inForce := settledAll s.stored
        fallenBack := outOfRange s.stored
        resultMark := false
        attentionMark := false } := by
  have hall : (applyFields (serviceEntryClass ++ immediateClass) s).fallenBack = outOfRange s.stored := by
    refine InTableOrder.ext (.applyFields ⟨fun f => decide (f ∈ restartClass) && !inRange s.stored f, hfallen⟩ _) ⟨_, rfl⟩ fun f => ?_
    rw [mem_applyFields_fallenBack, mem_outOfRange, hfallen]
    have hclass : f ∈ serviceEntryClass ++ immediateClass ∨ f ∈ restartClass := by cases f <;> decide
    by_cases hf : f ∈ serviceEntryClass ++ immediateClass
    · rw [if_pos hf]
    · rw [if_neg hf]
      simp [hclass.resolve_left hf]
  have hsettled : (serviceEntryClass ++ immediateClass).foldl (settle s.stored) s.inForce = settledAll s.stored := by
    rw [hcur]
    rfl
  rw [applyFields_eq, hall, hsettled, applyFields_unmarked hoff hattention, hresult, Bool.false_and]

/-- A cause that is set where a condition holds raises the attention mark while its enable is on (R170). -/
theorem raiseAttention_if (c : Bool) (s : State) :
    (if c then raiseAttention s else s) = { s with attentionMark := s.attentionMark || (c && s.inForce.attentionEnable) } := by
  cases c with
  | true => exact raiseAttention_eq s
  | false => simp

/-- Steps 1 to 5, but for what steps 3 and 4 leave of record memory (R161). -/
theorem startSettings_eq (lost : Bool) (s : State) {checked : RecordMemory}
    (hc : (checkRetention lost (applyFields restartClass (forgetRings s))).record = checked) :
    startSettings lost s =
      { forgetRings s with
        record :=
          { checked with
            deviceCauses.settingsFault := checked.deviceCauses.settingsFault
              || (serviceEntryClass ++ immediateClass).any (fun f => !inRange s.stored f) }
        inForce := settledAll s.stored
        fallenBack := outOfRange s.stored
        attentionMark := (settledAll s.stored).attentionEnable
          && (!(outOfRange s.stored).isEmpty || (lost && decide ((settledAll s.stored).backupLoss = .clear))) } := by
  have hchecked : checkRetention lost (applyFields restartClass (forgetRings s)) =
      { forgetRings s with
        record := checked
        inForce := restartClass.foldl (settle s.stored) (forgetRings s).inForce
        fallenBack := restartClass.filter (fun f => !inRange s.stored f) } := by
    rw [checkRetention_eq, hc, applyFields_restart]
  unfold startSettings
  rw [hchecked, applyFields_afterRestart rfl rfl rfl rfl rfl, raiseAttention_if, Bool.and_comm]
  rfl

theorem startUp_eq (kind : StartKind) (s : State) :
    startUp kind s =
      { (serveQueue (renewTimers (startSettings (findsLost kind s) s))).state with
        lastStart := kind, retention := retentionOutcome kind (findsLost kind s) } := rfl

/-! ## Where record memory is kept -/

/-- Steps 1 to 6 where the retention check finds nothing lost (R161). -/
theorem renewTimers_startSettings_kept (s : State) : renewTimers (startSettings false s) = retainedStart s := by
  have hc : (checkRetention false (applyFields restartClass (forgetRings s))).record =
      { s.record with
        mode := startedMode { s with inForce := settledAll s.stored }
        deviceCauses.settingsFault := s.record.deviceCauses.settingsFault || restartClass.any (fun f => !inRange s.stored f) } := by
    rw [applyFields_restart]
    rfl
  rw [startSettings_eq false s hc, retainedStart, outOfRange_any, Bool.false_and, Bool.or_false]
  dsimp only [renewTimers]
  rw [Bool.or_assoc]
  rfl

/-- A start-up that finds nothing lost (R161). -/
theorem startUp_kept {kind : StartKind} (h : findsLost kind s = false) :
    startUp kind s =
      { (serveQueue (retainedStart s)).state with lastStart := kind, retention := retentionOutcome kind false } := by
  rw [startUp_eq, h, renewTimers_startSettings_kept]

/-! ## Where retention was lost (R162) -/

/-- Steps 1 to 6 where the retention check finds record memory lost (R162). -/
theorem renewTimers_startSettings_lost (s : State) :
    renewTimers (startSettings true s) =
      { retainedStart s with
        record :=
          if s.stored.backupLoss = 1 then
            { mode := .setup, deviceCauses := { settingsFault := !(outOfRange s.stored).isEmpty, backupLost := true } }
          else { mode := .locked, deviceCauses := { settingsFault := !(outOfRange s.stored).isEmpty } }
        attentionMark := (settledAll s.stored).attentionEnable
          && (!(outOfRange s.stored).isEmpty || decide (s.stored.backupLoss = 1)) } := by
  have hpolicy : (restartClass.foldl (settle s.stored) (forgetRings s).inForce).backupLoss =
      if s.stored.backupLoss = 1 then .clear else .fatal := settledAll_backupLoss _
  have hrest : (!(restartClass.filter (fun f => !inRange s.stored f)).isEmpty) = restartClass.any (fun f => !inRange s.stored f) :=
    not_isEmpty_filter ..
  by_cases hclear : s.stored.backupLoss = 1
  · have hc : (checkRetention true (applyFields restartClass (forgetRings s))).record =
        { mode := .setup, deviceCauses := { settingsFault := restartClass.any (fun f => !inRange s.stored f), backupLost := true } } := by
      rw [applyFields_restart, checkRetention, if_pos rfl, lostRecord]
      dsimp only
      rw [hpolicy, if_pos hclear, hrest]
    rw [startSettings_eq true s hc, settledAll_backupLoss, if_pos hclear, if_pos hclear, outOfRange_any, decide_eq_true hclear]
    rfl
  · have hc : (checkRetention true (applyFields restartClass (forgetRings s))).record =
        { mode := .locked, deviceCauses := { settingsFault := restartClass.any (fun f => !inRange s.stored f) } } := by
      rw [applyFields_restart, checkRetention, if_pos rfl, lostRecord]
      dsimp only
      rw [hpolicy, if_neg hclear, hrest]
    rw [startSettings_eq true s hc, settledAll_backupLoss, if_neg hclear, if_neg hclear, outOfRange_any, decide_eq_false hclear]
    rfl

/-- Settles O10: the mode that the policy gives is not SERVICE, so that nothing is served. -/
theorem powerOnFindsRetentionLost : Obligations.PowerOnFindsRetentionLost := by
  intro s hmarker
  have hlost : findsLost .powerOn { s with powered := true, msiPermitted := false } = true := by simp [findsLost, hmarker]
  refine congrArg Host.Outcome.next ?_
  rw [startUp_eq, hlost, renewTimers_startSettings_lost, serveQueue_idle]
  · rfl
  · dsimp only
    split <;> simp

/-! ## RESTART (R161, R168, R169) -/

theorem sendRestart_first {tag : Half} (h : s.ringFault = true ∨ requestsInUse s = 0) :
    firstRequest (sendRestart tag s) = .restart tag ∧ 0 < requestsInUse (sendRestart tag s)
      ∧ (sendRestart tag s).ringFault = s.ringFault ∧ resultsInUse (sendRestart tag s) = resultsInUse s := by
  unfold sendRestart
  split
  · rename_i hu
    refine ⟨?_, hu.2, rfl, rfl⟩
    rw [firstRequest, Table.find_put_self]
    rfl
  · rename_i hu
    have hempty : requestsInUse s = 0 := h.elim (fun hf => Nat.eq_zero_of_not_pos fun hp => hu ⟨hf, hp⟩) id
    obtain ⟨hfirst, hone, hfault⟩ := send_first (.restart tag) hempty
    exact ⟨hfirst, hone ▸ Nat.one_pos, hfault, rfl⟩

theorem sendRestart_of_no_fault (h : s.ringFault = false) (tag : Half) : sendRestart tag s = send (.restart tag) s :=
  if_neg (by simp [h])

theorem execRestart_of_powered (h : s.powered = true) (tag : Half) :
    exec (.restart tag) s = .next (if requestsInUse s = 0 ∨ (sendRestart tag s).ringFault then takeRestart (sendRestart tag s)
      else sendRestart tag s) :=
  congrArg Host.Outcome.next (if_pos h)

/-- A RESTART that is taken leaves the start-up of the state before it was sent, with the result of the record taken. -/
theorem restarted_sendRestart (x tag : Half) (s : State) :
    restarted x (sendRestart tag s) = postResult 0x14 x (restartReply (startUp .restart s)) (startUp .restart s) := by
  rw [restarted, startUp_sendRestart]

/-- Where the record sent is the 33rd, the slot it stands in is that named by the request consumer (R169). -/
theorem send_first_of_full (c : Instr) (h : requestsInUse s = 32) : (send c s).ringFault = true ∧ firstRequest (send c s) = c := by
  have hfull : s.requestProducer = s.requestConsumer + 32 := by
    simp only [requestsInUse] at h; bv_omega
  constructor
  · have hover : 32 < (s.requestProducer + 1 - s.requestConsumer).toNat := by rw [hfull]; bv_omega
    exact Bool.or_eq_true_iff.2 (.inr (decide_eq_true hover))
  · have hslot : s.requestConsumer.toNat % 32 = s.requestProducer.toNat % 32 := by rw [hfull]; bv_omega
    rw [firstRequest, send_requestRing, send_requestConsumer]
    simp only [Config.ringSlots, hslot, Table.find_put_self]
    rfl

/-- Settles O9: `startUp_kept` for the state, and for RESTART the cases of its sending. -/
theorem startUpKeepsRecordMemory : Obligations.StartUpKeepsRecordMemory := by
  intro s
  have hrestart : startUp .restart s = { (serveQueue (retainedStart s)).state with lastStart := .restart, retention := none } :=
    startUp_kept rfl
  refine ⟨fun hmarker => ?_, fun hp => ?_, fun tag hp htaken => ?_, fun tag sent hp hfault hwaits hsent => ?_⟩
  · exact congrArg Host.Outcome.next (startUp_kept (by simp [findsLost, hmarker]))
  · exact congrArg Host.Outcome.next ((if_pos hp).trans (startUp_kept rfl))
  · refine ⟨startUp .restart s, hrestart, ?_⟩
    obtain ⟨hfirst, hin, hsame, hresults⟩ := sendRestart_first (tag := tag) (htaken.imp_right And.left)
    have htakes : takesRestart (sendRestart tag s) = true := by
      rw [takesRestart_iff hfirst, hsame, hresults]
      exact ⟨hin, htaken.imp_right And.right⟩
    rw [execRestart_of_powered hp, hsame, if_pos (htaken.symm.imp_left And.left), takeRestart_of hfirst htakes, restarted_sendRestart]
    rfl
  · have hsend : sent = sendRestart tag s := by
      rw [sendRestart_of_no_fault hfault, hsent, send, hfault, Bool.false_or]
      rfl
    have hexec : exec (.restart tag) s = .next (if requestsInUse s = 0 ∨ sent.ringFault then takeRestart sent else sent) :=
      hsend ▸ execRestart_of_powered hp tag
    have hresults : resultsInUse sent = resultsInUse s := by rw [hsent]; rfl
    refine ⟨fun hstays => ?_, fun x hover hfirst => ?_, fun hfull => ?_⟩
    · rw [hexec]
      refine congrArg Host.Outcome.next (ite_eq_right_iff.2 fun hlooked => ?_)
      rcases takeRestart_cases sent with hsame | ⟨x, hfirst, htakes, -⟩
      · exact hsame
      · obtain ⟨-, htakes⟩ := (takesRestart_iff hfirst).1 htakes
        have hclear : sent.ringFault = false := hstays.resolve_right fun hno => hno x hfirst
        have hempty : requestsInUse s = 0 := hlooked.resolve_right (by simp [hclear])
        have hfree : resultsInUse s < 32 := hresults ▸ htakes.resolve_left (by simp [hclear])
        omega
    · refine ⟨startUp .restart s, hrestart, ?_⟩
      have hin : 32 < requestsInUse sent := by
        rw [hsent] at hover ⊢
        exact of_decide_eq_true hover
      rw [hexec, if_pos (.inr hover), takeRestart_of hfirst ((takesRestart_iff hfirst).2 ⟨by omega, .inl hover⟩), hsend,
        restarted_sendRestart]
      rfl
    · rw [hsend, sendRestart_of_no_fault hfault]
      exact send_first_of_full _ hfull

end Sys2Proof.Machine
end

section
/-! CLOSE DAY on the meters (O14): what the ageing of a meter leaves, and when no daily limit is due. -/

namespace Sys2Proof.Machine

variable {s : State} {m : Meter}

/-! ## Ageing (R19) -/

theorem goesOverdue_iff : m.goesOverdue = true ↔ m.state = .active ∧ m.interval < min (m.daysSince + 1) 255 := by
  rw [Meter.goesOverdue, Bool.and_eq_true, decide_eq_true_iff, decide_eq_true_iff]
  rfl

theorem aged_of_overdue (h : m.goesOverdue = true) :
    m.aged =
      { m with
        daysSince := min (m.daysSince + 1) 255
        state := .overdue
        causes := { m.causes with overdue := true } } := by
  rw [Meter.aged, h]
  rfl

theorem aged_of_not_overdue (h : ¬(m.state = .active ∧ m.interval < min (m.daysSince + 1) 255)) :
    m.aged = { m with daysSince := min (m.daysSince + 1) 255 } := by
  rw [← goesOverdue_iff, Bool.not_eq_true] at h
  rw [Meter.aged, h]
  rfl

/-! ## The daily limit (R49) -/

/-- A daily limit leaves the days since report. -/
theorem limited_daysSince (m : Meter) (cycle : Byte) (timeout : Nat) (d : Decision) :
    (m.limited cycle timeout d).daysSince = m.daysSince := by
  cases d with
  | issue amount reason => rfl
  | refused st figures =>
    show (m.refusedWith st).daysSince = m.daysSince
    unfold Meter.refusedWith
    split <;> rfl
  | join amount => rfl

theorem dayEffect_daysSince (s : State) (cycle : Byte) (m : Meter) : (m.dayEffect s cycle).daysSince = min (m.daysSince + 1) 255 := by
  unfold Meter.dayEffect
  split
  · exact limited_daysSince ..
  · rfl

/-- A meter that is given no daily limit only ages. -/
theorem dayEffect_of_not_due (h : limitDue s m.aged = false) (cycle : Byte) : m.dayEffect s cycle = m.aged :=
  if_neg (by simp [h])

theorem not_limitDue (h : m.state ≠ .active ∨ m.kind = .prepaid ∨ m.subMode = .first ∨ m.grantOut ≠ none
    ∨ effective s m = .hold ∨ effective s m = .trial ∨ m.standing ≤ m.credit) : limitDue s m = false := by
  rw [← Bool.not_eq_true, limitDue_iff]
  rintro ⟨hkind, hsub, hactive, hgrant, heff, hlt⟩
  rcases h with h | h | h | h | h | h | h
  · exact h hactive
  · rw [hkind] at h; cases h
  · rw [hsub] at h; cases h
  · exact h hgrant
  · rw [h] at heff; simp at heff
  · rw [h] at heff; simp at heff
  · omega

/-! ## The day advance (R158) -/

theorem dayAdvance_eq (s : State) :
    dayAdvance s =
      { s with
        record.day := s.record.day + 1
        record.meters := (dayAdvance s).record.meters
        record.branches := (dayAdvance s).record.branches
        record.transfers := (dayAdvance s).record.transfers
        attentionMark := s.attentionMark || (dayRaises s && s.inForce.attentionEnable)
        choices := s.choices + 1 } := by
  rw [dayAdvance_record]
  exact raiseAttention_if ..

theorem dayAdvance_attentionMark (s : State) :
    (dayAdvance s).attentionMark = (s.attentionMark || (dayRaises s && s.inForce.attentionEnable)) := by
  rw [dayAdvance_eq]

theorem closeDay_of_not_service (h : s.record.mode ≠ .service) : closeDay s = (s, refuse .wrongMode) :=
  if_pos (not_serves.2 h)

/-- Settles O14: each meter has its day effect; an OVERDUE one has no limit due, so that it only ages, and so has every other meter that R49
gives none. -/
theorem closeDayAgesMeters : Obligations.CloseDayAgesMeters := by
  intro tag s
  refine ⟨fun h => answers_of_block rfl rfl (closeDay_of_not_service h), fun h => ?_⟩
  refine ⟨dayAdvance s, answers_of_block rfl rfl (closeDay_taken h), ?_, fun hmark => ?_, fun hoff => ?_, fun slot => ⟨fun hnone => ?_,
    fun m hm => ⟨_, dayAdvance_meter? hm, dayEffect_daysSince .., fun hactive hlate => ?_, fun hnot => ?_, fun hnot hno => ?_⟩⟩⟩
  · rw [dayAdvance_attentionMark]
    exact dayAdvance_eq s
  · rw [dayAdvance_attentionMark, hmark, Bool.true_or]
  · rw [dayAdvance_attentionMark, hoff, Bool.and_false, Bool.or_false]
  · rw [State.meter?, dayAdvance_record, Table.find_mapRecords]
    exact congrArg _ hnone
  · have hover := goesOverdue_iff.2 ⟨hactive, hlate⟩
    have haged := aged_of_overdue hover
    refine ⟨?_, dayAdvance_raises hm (Bool.or_eq_true_iff.2 (.inl hover))⟩
    rw [dayEffect_daysSince, dayEffect_of_not_due (not_limitDue (.inl (by rw [haged]; simp))), haged]
  · have haged := aged_of_not_overdue fun hlate => hnot hlate.1
    rw [dayEffect_daysSince, dayEffect_of_not_due (not_limitDue (.inl (by rw [haged]; exact hnot))), haged]
  · have haged := aged_of_not_overdue hnot
    rw [dayEffect_daysSince, dayEffect_of_not_due (not_limitDue (.inr (by rw [haged]; exact hno))), haged]

end Sys2Proof.Machine
end

section
/-!
Power loss and cell failure (O7), CLEAR TABLES (O11), the reads without fields and the sums of the funds position (O12), and the state after
reset (O59).
-/

namespace Sys2Proof.Machine

variable {s : State}

/-! ## A board without power (R162) -/

/-- A request, a window write or an event that comes while the power is off changes nothing (log 14). -/
theorem exec_of_unpowered (hp : s.powered = false) {c : Instr} (hon : c ≠ .powerOn) (hloss : c ≠ .powerLoss)
    (hcell : c ≠ .backupCellFailure) : exec c s = .next s := by
  by_cases hq : (header c).isSome ∧ isRestart c = false
  · rcases exec_request_or_same hq.1 hq.2 s with he | he
    · rw [he, request_unpowered _ _ hp]
    · exact he
  have hoff : ∀ t : State, (if s.powered then t else s) = s := fun t => if_neg (by simp [hp])
  have hoff_and : ∀ (b : Bool) (t : State), (if s.powered && b then t else s) = s := fun b t => if_neg (by simp [hp])
  cases c
  case restart => exact congrArg _ (hoff _)
  case requestProducerIndexWrite => exact congrArg _ (hoff _)
  case resultConsumerIndexWrite => exact congrArg _ (hoff _)
  case interruptEnableWordWrite => exact congrArg _ (hoff_and _ _)
  case ignoredWindowWrite => exact congrArg _ (hoff _)
  case powerOn => exact absurd rfl hon
  case pcieReset => exact congrArg _ (hoff _)
  case loadSecondsTick => exact congrArg _ (hoff _)
  case loadTimerExpiry => exact congrArg _ (hoff _)
  case msiPermissionChange => exact congrArg _ (hoff _)
  case msiWrite => exact congrArg _ (if_neg (by simp [hp]))
  case powerLoss => exact absurd rfl hloss
  case backupCellFailure => exact absurd rfl hcell
  all_goals exact absurd ⟨rfl, rfl⟩ hq

/-- Settles O7: the two events by the branches of their meanings, every other command by `exec_of_unpowered`. -/
theorem powerLossAndCellFailure : Obligations.PowerLossAndCellFailure := fun s =>
  ⟨rfl, fun hp => congrArg _ (if_pos hp), fun hp => congrArg _ (if_neg (by simp [hp])), fun _ hp => exec_of_unpowered hp⟩

/-! ## CLEAR TABLES (R163) -/

theorem clears_iff {m : Mode} : clears m = true ↔ m = .setup ∨ m = .locked := by
  cases m <;> simp [clears]

/-- Settles O11: the mode check, and record memory as its structure has it by default. -/
theorem clearTablesEmptiesRecords : Obligations.ClearTablesEmptiesRecords := by
  intro tag s
  refine answers_of_block rfl rfl ?_
  by_cases h : s.record.mode = .setup ∨ s.record.mode = .locked
  · rw [if_pos h]
    exact if_neg (by simp [clears_iff.2 h])
  · rw [if_neg h]
    exact if_pos (by simp [Bool.eq_false_iff.2 (mt clears_iff.1 h)])

/-! ## The reads without fields (R106, R130, R159, R165) -/

/-- READ STATUS of a record sent into an empty ring: the record sets no ring fault, and the producer has passed it (log 20). -/
theorem readStatusSent_eq (tag : Half) (h : requestsInUse s = 0) :
    readStatusSent tag s =
      (s, done (.status { statusOf s with requestProducer := s.requestProducer + 1 })) := by
  have hfault : (send (.readStatus tag) s).ringFault = s.ringFault := (send_first _ h).2.2
  rw [readStatusSent, readStatus, statusOf, hfault]
  rfl

theorem hasRefillOut_eq (m : Meter) : hasRefillOut m = m.grantOut.any (fun g => decide (g.kind = .refill)) := by
  unfold hasRefillOut
  cases m.grantOut with
  | none => rfl
  | some g => rfl

theorem face_eq (s : State) (slot : Nat) : s.face slot = ((s.denomination? slot).map (·.face)).getD 0 := by
  unfold State.face
  cases s.denomination? slot with
  | none => rfl
  | some d => rfl

theorem committedFunds_eq (s : State) :
    committedFunds s = s.record.pool.balance + s.record.pool.reserved
      + Table.sum (fun _ m => if m.kind = .prepaid then m.credit else 0) s.record.meters := rfl

/-- Settles O12: each read answers its report and changes nothing, and each sum is its definition. -/
theorem readsWithoutFields : Obligations.ReadsWithoutFields := by
  refine ⟨fun tag s => ⟨fun htaken => ?_, ?_, ?_, ?_⟩, fun s => ⟨face_eq s, rfl, rfl, rfl, rfl, ?_, rfl, fun _ => rfl, fun _ => rfl⟩⟩
  · refine answers_of_block rfl rfl ?_ htaken
    rw [readStatusSent_eq tag htaken.2.1, statusOf, depthOf_eq]
  · exact answers_of_block rfl rfl rfl
  · refine answers_of_block rfl rfl (ite_congr (propext not_unlocked) (fun _ => rfl) fun _ => ?_)
    rw [positionOf, funext hasRefillOut_eq]
    rfl
  · refine answers_of_block rfl rfl (ite_congr (propext not_unlocked) (fun _ => rfl) fun _ => ?_)
    refine congrArg (fun l => (s, done (.denominations s.record.day l))) (List.map_congr_left fun slot _ => ?_)
    unfold denominationEntry
    cases s.denomination? slot with
    | none => rfl
    | some d =>
      dsimp only
      rw [List.countP_eq_length_filter]
      rfl
  · rw [leftSide, committedFunds_eq, Nat.cast_add, Nat.cast_add]

/-! ## The state after reset (R159, R161, R162) -/

/-- Settles O59: the tables, the queue and the rings are empty, and every figure is at its default. -/
theorem resetIsSound : Obligations.ResetIsSound where
  canonical := ⟨.nil, .nil, .nil, .nil, List.forall_mem_nil _, .nil, List.forall_mem_nil _, List.forall_mem_nil _⟩
  pool := .inl rfl
  loaded := List.forall_mem_nil _
  licences := .nil
  meterBranches := List.forall_mem_nil _
  branchCodes := .nil
  reserved := rfl
  queue := ⟨by decide, .nil, List.forall_mem_nil _⟩
  kinds := List.forall_mem_nil _
  closing := List.forall_mem_nil _
  counts := List.forall_mem_nil _
  emptySlots := ⟨List.forall_mem_nil _, List.forall_mem_nil _, List.forall_mem_nil _⟩
  transfers := ⟨by decide, .nil, List.forall_mem_nil _, rfl⟩
  stockValues := by decide
  identity := by decide
  range := by decide
  records := ⟨List.forall_mem_nil _, List.forall_mem_nil _, List.forall_mem_nil _, List.forall_mem_nil _, by decide, by decide,
    List.forall_mem_nil _⟩
  settings := by decide
  marks := by decide
  indices := fun _ => by decide

end Sys2Proof.Machine
end

section
/-!
The request and its result in the rings: a request that is taken or waits (O3), the record in the slot that the consumer names (O2), a record
that fails the header check (O4), and the messages sent (O6).
-/

namespace Sys2Proof.Machine

variable {s : State}

/-! ## The size of a result (R168) -/

theorem slotsTaken_eq_slotsFor (kind : Half) (r : Reply) : slotsTaken kind r = slotsFor (outcomeBytes kind r) := by
  by_cases h : mostSlots r ≤ 1
  · have hle : slotsFor (outcomeBytes kind r) ≤ mostSlots r := by
      unfold mostSlots outcomeBytes
      split
      · exact Nat.le_refl _
      · exact slotsFor_mono (Nat.min_le_right ..)
    have hpos := slotsFor_pos (outcomeBytes kind r)
    rw [slotsTaken_one h]
    omega
  · exact if_neg h

theorem outcomeBytes_of_given {r : Reply} {n : Nat} (h : givenLength r.outcome = some n) (kind : Half) : outcomeBytes kind r = n := by
  rw [outcomeBytes, h]

/-! ## A request that is taken or waits (R167, R168) -/

theorem sentBlock_outside (c : Instr) (s : State) : OutsideKept s (sentBlock c s).1 :=
  ((LawsKept.refl s).sentBlock c).outside

theorem sentBlock_of_not_readStatus {c : Instr} (h : ∀ tag, c ≠ .readStatus tag) (s : State) : sentBlock c s = blockOf c s := by
  cases c
  case readStatus tag => exact absurd rfl (h tag)
  all_goals rfl

/-- Sending and posting over the changes t of a block, the rings and indices being those of the state before it. -/
theorem post_send_eq (c : Instr) (kind tag : Half) (r : Reply) {t : State} (ho : OutsideKept s t) (hu : requestsInUse s = 0)
    (hf : s.ringFault = false) :
    post kind tag r (send c t) =
      { t with
        requestRing := Table.put s.requestRing (s.requestProducer.toNat % 32) (.record c)
        requestProducer := s.requestProducer + 1
        requestConsumer := s.requestConsumer + 1
        resultRing := (post kind tag r (send c t)).resultRing
        resultProducer := s.resultProducer + BitVec.ofNat 8 (slotsTaken kind r)
        resultConsumer := s.resultConsumer
        ringFault := false
        resultMark := t.resultMark || t.inForce.resultEnable } := by
  have hfault : (send c t).ringFault = false := by
    rw [(send_first c (ho.requestsInUse.trans hu)).2.2, ho.ringFault, hf]
  rw [← ho.requestRing, ← ho.requestProducer, ← ho.requestConsumer, ← ho.resultProducer, ← ho.resultConsumer, ← hfault]
  rfl

/-- Settles O3: `request_taken` and `request_waits` over the block, whose state `post_send_eq` writes out. -/
theorem requestTakenOrWaits : Obligations.RequestTakenOrWaits := by
  refine ⟨fun c kind tag s t r hw hc hr hp hblock => ?_, fun kind r => ?_, fun c s h => sentBlock_of_not_readStatus h s, fun tag s =>
    ⟨statusOf s, rfl, rfl, rfl, rfl⟩⟩
  · have hx : exec c s = .next (request c (sentBlock c) s) := exec_request hw (by rw [hc]; rfl) hr s
    have ho : OutsideKept s t := by rw [show t = (sentBlock c s).1 from congrArg Prod.fst hblock]; exact sentBlock_outside c s
    refine ⟨fun hu hf hm => ⟨_, ?_, post_send_eq c kind tag r ho hu hf, fun n hn => ?_, fun j hj => ?_⟩, fun hn => ?_⟩
    · rw [hx, request_taken hc hp hu hf (by rwa [← hblock]), ← hblock]
    · have hfree : resultsFree s ≤ 32 := Nat.sub_le ..
      rw [← ho.resultProducer]
      exact find_writeParts _ _ _ _ (hm.trans hfree) hn
    · rw [← ho.resultProducer] at hj
      rw [← ho.resultRing]
      exact find_writeParts_other _ _ _ _ hj
    · rw [hx, request_eq hc, if_pos hp, if_neg (by rwa [takes_iff, ← hblock])]
      rfl
  · exact ⟨slotsTaken_eq_slotsFor kind r, fun h => outcomeBytes_of_given (by rw [h]; rfl) kind,
      fun _ _ _ _ _ _ _ h => outcomeBytes_of_given (by rw [h]; rfl) kind, fun _ _ h => outcomeBytes_of_given (by rw [h]; rfl) kind,
      fun _ h => outcomeBytes_of_given (by rw [h]; rfl) kind⟩

/-! ## The record in the slot named by the request consumer (R168, R169) -/

theorem takeFirst_of_idle (h : s.powered = false ∨ requestsInUse s = 0) : takeFirst s = s := by
  refine if_neg fun ⟨hp, hu⟩ => ?_
  rcases h with h | h
  · rw [h] at hp; cases hp
  · omega

theorem takeFirst_of_restart {tag : Half} (hp : s.powered = true) (hu : 0 < requestsInUse s) (hc : firstRequest s = .restart tag) :
    takeFirst s = if takesRestart s then restarted tag s else s := by
  rw [takeFirst, if_pos ⟨hp, hu⟩, hc]

theorem takeFirst_of_request {c : Instr} {kind tag : Half} (hp : s.powered = true) (hu : 0 < requestsInUse s) (hc : firstRequest s = c)
    (hh : header c = some (kind, tag)) (hr : isRestart c = false) :
    takeFirst s = if takes kind (blockOf c s).2 s then post kind tag (blockOf c s).2 (blockOf c s).1 else s := by
  rw [takeFirst, if_pos ⟨hp, hu⟩, hc]
  split
  · cases hr
  · simp only [hh]

/-- Settles O2: the board's own taking in each case of the record, and `readSlot` on each content of a slot. -/
theorem emptyQueueTakesOldestRecord : Obligations.EmptyQueueTakesOldestRecord := by
  intro s hpending
  refine ⟨fun h => ?_, fun c kind tag r hp hu hc hh hr hblock => ?_, fun tag hp hu hc => ⟨fun htakes => ?_, fun hf hfull => ?_⟩,
    fun c h => ?_, fun h => ?_, fun l h => ?_⟩
  · rw [step_nil hpending, takeFirst_of_idle h]
  · subst hblock
    rw [step_nil hpending, takeFirst_of_request hp hu hc hh hr]
    simp only [takes_iff]
  · refine ⟨startUp .restart s, startUp_kept rfl, ?_⟩
    rw [step_nil hpending, takeFirst_of_restart hp hu hc, if_pos ((takesRestart_iff hc).2 ⟨hu, htakes⟩)]
    rfl
  · rw [step_nil hpending, takeFirst_of_restart hp hu hc, if_neg]
    rw [takesRestart_iff hc]
    rintro ⟨-, hfault | hfree⟩
    · rw [hf] at hfault; cases hfault
    · exact absurd hfree (Nat.not_lt.2 hfull)
  · exact congrArg readSlot h
  · exact (congrArg readSlot h).trans (by decide)
  · exact congrArg readSlot h

/-! ## A record that fails the header check (R168, R173) -/

theorem headerPasses_iff {kind length : Half} {reservedSet : Bool} :
    headerPasses kind length reservedSet = true ↔ bodyLength kind = some length.toNat ∧ reservedSet = false := by
  unfold headerPasses
  cases bodyLength kind with
  | none => simp
  | some n =>
    dsimp only
    rw [Bool.and_eq_true, decide_eq_true_iff, Bool.not_eq_true', Option.some_inj, eq_comm]

theorem bodyLength_eq_some_iff {kind : Half} {n : Nat} : bodyLength kind = some n ↔ (kind.toNat, n) ∈ kindTable :=
  ⟨Table.mem_of_find, Table.find_of_mem (by decide)⟩

/-- Settles O4: the header check fails, so that the record is a request over the block that answers BAD_REQUEST. -/
theorem badRequestAnswered : Obligations.BadRequestAnswered := by
  refine ⟨fun tag kind length reservedSet s h => ⟨answers_of_block (block := badRequestBlock) rfl ?_ rfl, rfl⟩,
    fun kind n => bodyLength_eq_some_iff⟩
  refine congrArg Host.Outcome.next (if_neg ?_)
  rw [headerPasses_iff]
  rintro ⟨hlength, hreserved⟩
  rcases h with h | h
  · exact h hlength
  · rw [h] at hreserved; cases hreserved

/-! ## Messages (R170) -/

/-- Settles O6: the two events by the branches of their meanings. -/
theorem messagesSent : Obligations.MessagesSent := by
  intro s hp
  refine ⟨fun allowed => congrArg Host.Outcome.next (if_pos hp), fun hpermitted hmark => ?_, fun h => ?_⟩
  · exact congrArg Host.Outcome.next (if_pos (by simp [hp, hpermitted, hmark]))
  · refine congrArg Host.Outcome.next (if_neg ?_)
    rcases h with h | ⟨h1, h2⟩
    · simp [h]
    · simp [h1, h2]

end Sys2Proof.Machine
end

section
/-!
READ ATTENTION and TAKE ATTENTION (O53): the page and its next position, and the causes left as a cause set.
-/

namespace Sys2Proof.Machine

variable {s : State}

/-! ## Cause sets less the causes taken (R172, R175) -/

theorem getLsbD_bitAt (b : Bool) (i : Nat) {j : Nat} (hj : j < 16) : (bitAt b i).getLsbD j = (b && decide (i = j)) := by
  cases b with
  | false => simp [bitAt]
  | true =>
    show (BitVec.ofNat 16 (2 ^ i)).getLsbD j = _
    rw [BitVec.getLsbD_ofNat, Nat.testBit_two_pow, decide_eq_true hj]

/-- A mark is left where it was set and is not named. -/
theorem bitAt_less (b : Bool) (named : Half) (i : Nat) : bitAt (b && !named.getLsbD i) i = bitAt b i &&& ~~~named := by
  refine BitVec.eq_of_getLsbD_eq fun j hj => ?_
  rw [BitVec.getLsbD_and, BitVec.getLsbD_not, getLsbD_bitAt _ _ hj, getLsbD_bitAt _ _ hj, decide_eq_true hj]
  by_cases h : i = j
  · simp [h]
  · simp [h]

theorem meterBits_less (c : MeterCauses) (named : Half) : meterBits (meterCausesLess c named) = meterBits c &&& ~~~named := by
  simp only [meterBits, meterCausesLess, bitAt_less, BitVec.and_or_distrib_right]

theorem branchBits_less (c : BranchCauses) (named : Half) : branchBits (branchCausesLess c named) = branchBits c &&& ~~~named := by
  simp only [branchBits, branchCausesLess, bitAt_less, BitVec.and_or_distrib_right]

theorem deviceBits_less (c : DeviceCauses) (named : Half) : deviceBits (deviceCausesLess c named) = deviceBits c &&& ~~~named := by
  simp only [deviceBits, deviceCausesLess, bitAt_less, BitVec.and_or_distrib_right]

/-! ## READ ATTENTION (R171) -/

theorem nextPosition_of_end {l : List (Nat × Half)} (h : l[24]? = none) : nextPosition l = 641 :=
  if_pos (List.getElem?_eq_none_iff.1 h)

theorem nextPosition_of_more {l : List (Nat × Half)} {last e : Nat × Half} (hlast : l[23]? = some last) (hmore : l[24]? = some e) :
    nextPosition l = last.1 + 1 := by
  obtain ⟨hlong, -⟩ := List.getElem?_eq_some_iff.1 hmore
  have htake : (l.take Config.attentionPage).getLast? = some last := by
    rw [List.getLast?_take, if_neg (by decide)]
    simp [Config.attentionPage, hlast]
  refine (if_neg (Nat.not_le.2 hlong)).trans ?_
  rw [htake]

theorem readAttention_of_unlocked (h : s.record.mode ≠ .locked) (start : Nat) :
    readAttention start s =
      if 640 < start then (s, refuse .badValue)
      else (s, done (.attention ((raisedFrom s start).take 24) (nextPosition (raisedFrom s start)))) :=
  if_neg (mt not_unlocked.1 h)

/-! ## TAKE ATTENTION (R172) -/

theorem takeAttention_of_locked (h : s.record.mode = .locked) (subject slot : Nat) (causes : Half) :
    takeAttention subject slot causes s = (s, refuse .wrongMode) :=
  if_pos (not_unlocked.2 h)

/-- The four branches of TAKE ATTENTION once the mode is checked. -/
theorem takeAttention_of_unlocked (h : s.record.mode ≠ .locked) (slot : Nat) (causes : Half) :
    takeAttention 0 slot causes s = takeFromMeter slot causes s ∧ takeAttention 1 slot causes s = takeFromBranch slot causes s
      ∧ takeAttention 2 slot causes s = takeFromDevice slot causes s
      ∧ ∀ subject, 3 ≤ subject → takeAttention subject slot causes s = (s, refuse .badValue) := by
  have hmode := mt not_unlocked.1 h
  refine ⟨if_neg hmode, if_neg hmode, if_neg hmode, fun subject hsubject => ?_⟩
  obtain ⟨n, rfl⟩ := Nat.exists_eq_add_of_le' hsubject
  exact if_neg hmode

theorem takeFromMeter_badValue_iff {slot : Nat} {causes : Half} :
    (!meterSlotOk slot || decide (256 ≤ causes.toNat)) = true ↔ 511 < slot ∨ 256 ≤ causes.toNat := by
  rw [Bool.or_eq_true, not_meterSlotOk, decide_eq_true_iff]

theorem takeFromMeter_of_empty {slot : Nat} {causes : Half} (hin : ¬(511 < slot ∨ 256 ≤ causes.toNat))
    (h : s.meter? slot = none) : takeFromMeter slot causes s = (s, refuse .unknownMeter) := by
  rw [takeFromMeter, if_neg (mt takeFromMeter_badValue_iff.1 hin), h]

theorem takeFromMeter_taken {slot : Nat} {causes : Half} {m : Meter} (hin : ¬(511 < slot ∨ 256 ≤ causes.toNat))
    (h : s.meter? slot = some m) :
    takeFromMeter slot causes s =
      (s.putMeter slot { m with causes := meterCausesLess m.causes causes },
       done (.causesLeft (meterBits (meterCausesLess m.causes causes)))) := by
  rw [takeFromMeter, if_neg (mt takeFromMeter_badValue_iff.1 hin), h]

theorem takeFromBranch_badValue_iff {slot : Nat} {causes : Half} :
    (!branchSlotOk slot || decide (64 ≤ causes.toNat)) = true ↔ 127 < slot ∨ 64 ≤ causes.toNat := by
  rw [Bool.or_eq_true, not_branchSlotOk, decide_eq_true_iff]

theorem takeFromBranch_of_empty {slot : Nat} {causes : Half} (hin : ¬(127 < slot ∨ 64 ≤ causes.toNat))
    (h : s.branch? slot = none) : takeFromBranch slot causes s = (s, refuse .unknownBranch) := by
  rw [takeFromBranch, if_neg (mt takeFromBranch_badValue_iff.1 hin), h]

theorem takeFromBranch_taken {slot : Nat} {causes : Half} {b : Branch} (hin : ¬(127 < slot ∨ 64 ≤ causes.toNat))
    (h : s.branch? slot = some b) :
    takeFromBranch slot causes s =
      (s.putBranch slot { b with causes := branchCausesLess b.causes causes },
       done (.causesLeft (branchBits (branchCausesLess b.causes causes)))) := by
  rw [takeFromBranch, if_neg (mt takeFromBranch_badValue_iff.1 hin), h]

theorem takeFromDevice_of_badValue {slot : Nat} {causes : Half} (h : slot ≠ 0 ∨ 16 ≤ causes.toNat) :
    takeFromDevice slot causes s = (s, refuse .badValue) :=
  if_pos (by rwa [Bool.or_eq_true, decide_eq_true_iff, decide_eq_true_iff])

theorem takeFromDevice_taken {causes : Half} (hc : causes.toNat < 16) :
    takeFromDevice 0 causes s =
      ({ s with record.deviceCauses := deviceCausesLess s.record.deviceCauses causes },
       done (.causesLeft (deviceBits (deviceCausesLess s.record.deviceCauses causes)))) := by
  refine if_neg ?_
  rw [Bool.or_eq_true, decide_eq_true_iff, decide_eq_true_iff]
  omega

/-- Settles O53: each check and each kind of subject by its lemma, the causes left being the set less the causes named. -/
theorem attentionReadAndTaken : Obligations.AttentionReadAndTaken := by
  intro tag s
  refine ⟨fun start raised hraised => answers_of_block (block := readAttention start) rfl rfl ?_, fun slot causes =>
    ⟨fun subject h => answers_of_block rfl rfl (takeAttention_of_locked h ..), fun h => ?_⟩⟩
  · have hfrom : raised = raisedFrom s start := by
      rw [hraised]
      simp only [Bool.decide_and]
      rfl
    by_cases hmode : s.record.mode = .locked
    · rw [if_pos hmode]
      exact if_pos (not_unlocked.2 hmode)
    · rw [if_neg hmode, readAttention_of_unlocked hmode, ← hfrom]
      cases hmore : raised[24]? with
      | none =>
        rw [nextPosition_of_end hmore]
        cases raised[23]? <;> rfl
      | some e =>
        obtain ⟨hlong, -⟩ := List.getElem?_eq_some_iff.1 hmore
        have hlast : raised[23]? = some (raised[23]'(by omega)) := List.getElem?_eq_getElem _
        rw [nextPosition_of_more hlast hmore, hlast]
  · obtain ⟨hmeter, hbranch, hdevice, hother⟩ := takeAttention_of_unlocked h slot causes
    refine ⟨fun subject hsubject => answers_of_block rfl rfl (hother subject hsubject),
      fun hbad => answers_of_block rfl rfl (hmeter.trans (if_pos (takeFromMeter_badValue_iff.2 hbad))), fun hslot hc => ?_,
      fun hbad => answers_of_block rfl rfl (hbranch.trans (if_pos (takeFromBranch_badValue_iff.2 hbad))), fun hslot hc => ?_,
      fun hbad => answers_of_block rfl rfl (hdevice.trans (takeFromDevice_of_badValue hbad)), fun hslot hc => ?_⟩
    · have hin : ¬(511 < slot ∨ 256 ≤ causes.toNat) := by omega
      exact ⟨fun hnone => answers_of_block rfl rfl (hmeter.trans (takeFromMeter_of_empty hin hnone)), fun m hm =>
        ⟨_, meterBits_less .., answers_of_block rfl rfl (hmeter.trans (takeFromMeter_taken hin hm))⟩⟩
    · have hin : ¬(127 < slot ∨ 64 ≤ causes.toNat) := by omega
      exact ⟨fun hnone => answers_of_block rfl rfl (hbranch.trans (takeFromBranch_of_empty hin hnone)), fun b hb =>
        ⟨_, branchBits_less .., answers_of_block rfl rfl (hbranch.trans (takeFromBranch_taken hin hb))⟩⟩
    · subst hslot
      exact ⟨_, deviceBits_less .., answers_of_block rfl rfl (hdevice.trans (takeFromDevice_taken hc))⟩

end Sys2Proof.Machine
end

section
/-!
The memory window (O5): the words at its head, the bytes that a read gives, the writes of the indices and of the Request Ring, and the write of
the interrupt-enable word.
-/

namespace Sys2Proof.Machine

variable {s : State}

/-! ## Head words (R167, R169) -/

theorem indexWord_toNat (i : Byte) : (indexWord i).toNat = i.toNat := by
  rw [indexWord, BitVec.toNat_setWidth]
  omega

theorem requestConsumerWord_toNat (s : State) :
    (requestConsumerWord s).toNat = s.requestConsumer.toNat + (if s.ringFault then 2 ^ 31 else 0) := by
  have hlt : s.requestConsumer.toNat < 2 ^ 31 := by omega
  unfold requestConsumerWord
  cases s.ringFault with
  | false => simp [indexWord_toNat]
  | true =>
    rw [if_pos rfl, if_pos rfl, BitVec.toNat_or, indexWord_toNat, Nat.or_comm, Nat.add_comm]
    exact (Nat.two_pow_add_eq_or_of_lt hlt 1).symm

theorem enableWord_toNat (s : State) :
    (enableWord s).toNat = (if s.inForce.resultEnable then 1 else 0) + (if s.inForce.attentionEnable then 2 else 0) := by
  unfold enableWord
  cases s.inForce.resultEnable <;> cases s.inForce.attentionEnable <;> rfl

/-! ## Reads (R167, log 49) -/

/-- A read of other than an aligned head word gives the bytes at its places. -/
theorem windowRead_bytes {offset width : Nat} (h : width ≠ 4 ∨ offset % 4 ≠ 0 ∨ 0x14 ≤ offset) :
    windowRead s offset width = leValue ((List.range width).map (fun i => windowByte s (offset + i))) :=
  if_neg (by omega)

theorem leValue_of_zeros {l : List Byte} (h : ∀ b ∈ l, b = 0) : leValue l = 0 := by
  induction l with
  | nil => rfl
  | cons b rest ih =>
    obtain ⟨rfl, hrest⟩ := List.forall_mem_cons.1 h
    rw [leValue, ih hrest]
    rfl

theorem windowByte_outside {offset : Nat} (h : offset < 0x1000 ∨ 0x3000 ≤ offset) : windowByte s offset = 0 := by
  rw [windowByte, if_neg (by omega), if_neg (by omega)]

theorem windowByte_request {offset : Nat} (hlo : 0x1000 ≤ offset) (hhi : offset < 0x2000) :
    windowByte s offset = requestByte s.requestRing (offset - 0x1000) :=
  if_pos ⟨hlo, hhi⟩

theorem windowByte_result {offset : Nat} (hlo : 0x2000 ≤ offset) (hhi : offset < 0x3000) :
    windowByte s offset = resultByte s.resultRing (offset - 0x2000) := by
  rw [windowByte, if_neg (by omega), if_pos ⟨hlo, hhi⟩]

/-- Each byte of a read past the head words is the byte at its place. -/
theorem windowRead_byte {offset width i : Nat} (ho : 0x14 ≤ offset) (hi : i < width) :
    windowRead s offset width / 256 ^ i % 256 = (windowByte s (offset + i)).toNat := by
  rw [windowRead_bytes (.inr (.inr ho)), leValue_byte]
  simp [hi]

/-! ## Writes of the indices (R167, R169) -/

theorem faulted_if (c : Prop) [Decidable c] (s : State) :
    (if c then { s with ringFault := true } else s) = { s with ringFault := s.ringFault || decide c } := by
  by_cases h : c
  · simp [h]
  · simp [h]

theorem inUse_eq (producer consumer : Byte) : (producer - consumer).toNat = (256 + producer.toNat - consumer.toNat) % 256 := by
  rw [BitVec.toNat_sub]
  omega

/-! ## Writes of the Request Ring (R167, log 41) -/

theorem leBytes_getD {size i : Nat} (n : Nat) (hi : i < size) : (leBytes size n).getD i 0 = BitVec.ofNat 8 (n / 256 ^ i) := by
  induction size generalizing n i with
  | zero => omega
  | succ size ih =>
    cases i with
    | zero => simp [leBytes]
    | succ i =>
      rw [leBytes, List.getD_cons_succ, ih _ (by omega), Nat.div_div_eq_div_mul, Nat.pow_succ']

theorem storeBytes_outside (ring : Table RequestSlot) {offset : Nat} {l : List Byte} (h : offset + l.length ≤ 0x1000 ∨ 0x2000 ≤ offset) :
    storeBytes ring offset l = ring := by
  induction l generalizing offset with
  | nil => rfl
  | cons b rest ih =>
    rw [List.length_cons] at h
    rw [storeBytes, if_neg (by omega)]
    exact ih (by omega)

theorem exec_ignoredWindowWrite_outside {offset width : Nat} (value : Nat) (h : offset + width ≤ 0x1000 ∨ 0x2000 ≤ offset) :
    exec (.ignoredWindowWrite offset width value) s = .next s := by
  refine congrArg Host.Outcome.next (ite_eq_right_iff.2 fun _ => ?_)
  rw [storeBytes_outside _ (by rwa [leBytes_length])]

/-! ## The interrupt-enable word (R159, R167, R170) -/

/-- Where no field falls back, an application removes its fields from the fallen-back set. -/
theorem applyFields_fallenBack_of_inRange {l : List SettingField} (h : ∀ f ∈ l, inRange s.stored f = true) :
    (applyFields l s).fallenBack = s.fallenBack.filter (fun g => decide (g ∉ l)) := by
  induction l generalizing s with
  | nil => simp [applyFields]
  | cons f rest ih =>
    obtain ⟨hf, hrest⟩ := List.forall_mem_cons.1 h
    rw [applyFields, ih (by rwa [applyField_stored]), applyField_eq]
    simp [hf, List.filter_filter, Bool.and_comm]

theorem writeStored_fallenBack_of_inRange {p : SettingsPatch}
    (h : ∀ f ∈ presentImmediate p, inRange (storePatch p s.stored) f = true) :
    (writeStored p s).fallenBack = s.fallenBack.filter (fun g => decide (g ∉ presentImmediate p)) := by
  refine (applyFields_fallenBack_of_inRange fun f hf => h f ((applicationOrder_perm ..).mem_iff.1 hf)).trans ?_
  simp only [(applicationOrder_perm ..).mem_iff]

theorem enableOf_bit (b : Bool) : enableOf (if b then 1 else 0) = some b := by
  cases b <;> rfl

theorem enablePatch_inRange (v : Word) (st : StoredSettings) :
    ∀ f ∈ presentImmediate (enablePatch v), inRange (storePatch (enablePatch v) st) f = true := by
  intro f hf
  have hmem : f ∈ [SettingField.resultEnable, .attentionEnable] := hf
  rcases List.mem_pair.1 hmem with rfl | rfl
  · exact congrArg Option.isSome (enableOf_bit _)
  · exact congrArg Option.isSome (enableOf_bit _)

theorem writeStored_enablePatch (v : Word) (s : State) :
    writeStored (enablePatch v) s =
      { s with
        stored.resultEnable := if v.getLsbD 0 then 1 else 0
        stored.attentionEnable := if v.getLsbD 1 then 1 else 0
        inForce.resultEnable := v.getLsbD 0
        inForce.attentionEnable := v.getLsbD 1
        fallenBack := s.fallenBack.filter (fun f => decide (f ≠ .resultEnable) && decide (f ≠ .attentionEnable))
        resultMark := s.resultMark && !(s.inForce.resultEnable && !v.getLsbD 0)
        attentionMark := s.attentionMark && !(s.inForce.attentionEnable && !v.getLsbD 1)
        choices := s.choices + 1 } := by
  have hrange := enablePatch_inRange v s.stored
  have hnone : (presentImmediate (enablePatch v)).any (fun f => !inRange (storePatch (enablePatch v) s.stored) f) = false := by
    rw [List.any_eq_false]
    exact fun f hf => by simp [hrange f hf]
  have hinForce : (writeStored (enablePatch v) s).inForce =
      { s.inForce with resultEnable := v.getLsbD 0, attentionEnable := v.getLsbD 1 } := by
    rw [writeStored_inForce]
    show { s.inForce with
      resultEnable := (enableOf (if v.getLsbD 0 then 1 else 0)).getD false
      attentionEnable := (enableOf (if v.getLsbD 1 then 1 else 0)).getD false } = _
    rw [enableOf_bit, enableOf_bit]
    rfl
  have hfallen : (writeStored (enablePatch v) s).fallenBack =
      s.fallenBack.filter (fun f => decide (f ≠ .resultEnable) && decide (f ≠ .attentionEnable)) := by
    rw [writeStored_fallenBack_of_inRange hrange]
    refine List.filter_congr fun f _ => ?_
    show decide (f ∉ [SettingField.resultEnable, .attentionEnable]) = _
    simp
  rw [writeStored_eq, hnone, Bool.or_false, writeStored_mark_of_inRange hnone, hfallen, hinForce, writeStored_stored]
  rfl

/-- Settles O5: the words and bytes of a read, and each write, by its lemma. -/
theorem windowReadsAndWrites : Obligations.WindowReadsAndWrites := by
  intro s
  refine ⟨⟨indexWord_toNat _, requestConsumerWord_toNat s, indexWord_toNat _, indexWord_toNat _, enableWord_toNat s⟩,
    fun offset width hnot hout => ?_, fun offset width i hi => ⟨fun hlo hhi => ?_, fun hlo hhi => ?_⟩, fun v hp => ?_, fun v hp => ?_,
    fun offset width value h => exec_ignoredWindowWrite_outside value h, fun offset width value hp hcanonical => ?_,
    ⟨inUse_eq .., inUse_eq .., rfl⟩, fun a _ => ⟨rfl, rfl⟩, fun v hp => ?_⟩
  · rw [windowRead_bytes hnot]
    refine leValue_of_zeros (List.forall_mem_map.2 fun i hi => windowByte_outside ?_)
    have := List.mem_range.1 hi
    omega
  · rw [windowRead_byte (by omega) hi, windowByte_request (by omega) (by omega), Nat.sub_add_comm hlo]
  · rw [windowRead_byte (by omega) hi, windowByte_result (by omega) (by omega), Nat.sub_add_comm hlo]
  · exact congrArg Host.Outcome.next ((if_pos hp).trans (faulted_if ..))
  · exact congrArg Host.Outcome.next ((if_pos hp).trans (faulted_if ..))
  · obtain ⟨-, -, -, hsorted, hslots, -⟩ := hcanonical
    refine ⟨_, congrArg Host.Outcome.next (if_pos hp), fun a ha => ?_⟩
    rw [requestByte_storeBytes ⟨hsorted, hslots⟩ _ _ ha, leBytes_length]
    refine ite_congr rfl (fun hin => leBytes_getD value (by omega)) fun _ => rfl
  · refine congrArg Host.Outcome.next ?_
    by_cases hmode : s.record.mode = .frozen
    · rw [if_pos hmode]
      exact if_neg (by simp [hmode, writesSettings])
    · rw [if_neg hmode, ← writeStored_enablePatch]
      exact if_pos (by simpa [hp] using mt not_writesSettings.1 hmode)

end Sys2Proof.Machine
end

section
/-! SUPPORT. Fields of a record as bytes (R175): the field that stands first, the fields behind it, and zeros beyond the record. -/

namespace Sys2Proof.Machine

theorem leValue_lt (l : List Byte) : leValue l < 256 ^ l.length := by
  induction l with
  | nil => simp [leValue]
  | cons b rest ih =>
    have hb := b.isLt
    rw [leValue, List.length_cons, Nat.pow_succ']
    omega

theorem field_lt (l : List Byte) (offset size : Nat) : field l offset size < 256 ^ size :=
  (leValue_lt _).trans_le (Nat.pow_le_pow_right (by decide) (List.length_take_le ..))

theorem leValue_append_zeros (l : List Byte) (n : Nat) : leValue (l ++ List.replicate n 0) = leValue l := by
  induction l with
  | nil => exact leValue_of_zeros fun b hb => List.eq_of_mem_replicate hb
  | cons b rest ih => rw [List.cons_append, leValue, leValue, ih]

/-- Zeros beyond a record change none of its fields. -/
theorem field_padded (l : List Byte) (offset size : Nat) : field (padded l) offset size = field l offset size := by
  rw [field, field, padded, List.drop_append, List.take_append, List.drop_replicate, List.take_replicate, leValue_append_zeros]

theorem padded_getElem? (l : List Byte) {i : Nat} (hi : i < 128) : (padded l)[i]? = some ((l[i]?).getD 0) := by
  by_cases h : i < l.length
  · rw [padded, List.getElem?_append_left h, List.getElem?_eq_getElem h]
    rfl
  · rw [padded, List.getElem?_append_right (by omega), List.getElem?_replicate, if_pos (by simp only [Config.slotBytes]; omega),
      List.getElem?_eq_none (by omega)]
    rfl

/-! ## Fields one after another -/

theorem field_append_right {a : List Byte} {offset : Nat} (h : a.length ≤ offset) (b : List Byte) (size : Nat) :
    field (a ++ b) offset size = field b (offset - a.length) size := by
  rw [field, field, List.drop_append, List.drop_eq_nil_of_le h, List.nil_append]

theorem field_append_left {a : List Byte} {offset size : Nat} (h : offset + size ≤ a.length) (b : List Byte) :
    field (a ++ b) offset size = field a offset size := by
  rw [field, field, List.drop_append_of_le_length (by omega), List.take_append_of_le_length (by rw [List.length_drop]; omega)]

theorem field_leBytes (size n : Nat) : field (leBytes size n) 0 size = n % 256 ^ size := by
  rw [field, List.drop_zero, List.take_of_length_le (by rw [leBytes_length]), leValue_leBytes]

/-- The number that stands first. -/
theorem field_first (size n : Nat) (rest : List Byte) : field (leBytes size n ++ rest) 0 size = n % 256 ^ size := by
  rw [field_append_left (by rw [leBytes_length, Nat.zero_add]), field_leBytes]

/-- A field behind a number of so many bytes. -/
theorem field_behind {first offset : Nat} (h : first ≤ offset) (n : Nat) (rest : List Byte) (size : Nat) :
    field (leBytes first n ++ rest) offset size = field rest (offset - first) size := by
  rw [field_append_right (by rwa [leBytes_length]), leBytes_length]

theorem fits_iff {size n : Nat} : fits size n = true ↔ n < 256 ^ size := by
  rw [fits, decide_eq_true_iff, Nat.pow_mul]

theorem half_lt (h : Half) : h.toNat < 256 ^ 2 :=
  h.isLt

end Sys2Proof.Machine
end

section
/-! SUPPORT. Request records as bytes (R173, R175): each record with a layout, its fields, and the request that it spells. -/

namespace Sys2Proof.Machine

variable {c : Instr} {kind tag : Half} {bytes : List Byte}

/-! ## The header -/

theorem requestBytes_eq_some {c : Instr} {bytes : List Byte} (h : requestBytes c = some bytes) :
    ∃ kind tag body, header c = some (kind, tag) ∧ requestBody c = some body
      ∧ bytes = requestHeader kind tag body.length ++ body := by
  unfold requestBytes at h
  split at h
  · rename_i kind tag body hh hb
    exact ⟨kind, tag, body, hh, hb, (Option.some.inj h).symm⟩
  · cases h

theorem requestHeader_fields (kind tag : Half) {n : Nat} (hn : n < 256 ^ 2) (body : List Byte) :
    field (requestHeader kind tag n ++ body) 0 2 = kind.toNat ∧ field (requestHeader kind tag n ++ body) 2 2 = tag.toNat
      ∧ field (requestHeader kind tag n ++ body) 4 2 = n ∧ field (requestHeader kind tag n ++ body) 6 2 = 0 := by
  simp only [requestHeader, List.append_assoc, field_first, field_behind, Nat.reduceLeDiff, Nat.reduceSub]
  exact ⟨Nat.mod_eq_of_lt (half_lt kind), Nat.mod_eq_of_lt (half_lt tag), Nat.mod_eq_of_lt hn, rfl⟩

/-- The body length of a kind is that of its layout. -/
theorem bodyLength_of_requestBody {body : List Byte} (hh : header c = some (kind, tag)) (hb : requestBody c = some body) :
    bodyLength kind = some body.length := by
  cases c
  case readStatus | closeDay | readSettings | restart | clearTables | readPosition | readDenominations | takeAttention | meterReport
      | refillRequest | limitRequest =>
    cases hh
    cases hb
    rfl
  all_goals cases hb

/-! ## The bodies with fields (R175) -/

theorem meterReport_fields {slot a d : Nat} {q : Half} (hw : (Instr.meterReport tag slot q a d).wellFormed = true)
    (h : requestBytes (.meterReport tag slot q a d) = some bytes) :
    field bytes 8 2 = slot ∧ field bytes 10 2 = q.toNat ∧ field bytes 12 4 = 0 ∧ field bytes 16 8 = a ∧ field bytes 24 8 = d := by
  cases h
  simp only [Instr.wellFormed, Bool.and_eq_true, fits_iff] at hw
  obtain ⟨⟨hslot, ha⟩, hd⟩ := hw
  simp only [requestHeader, List.append_assoc, field_first, field_leBytes, field_behind, Nat.reduceLeDiff, Nat.reduceSub]
  exact ⟨Nat.mod_eq_of_lt hslot, Nat.mod_eq_of_lt (half_lt q), rfl, Nat.mod_eq_of_lt ha, Nat.mod_eq_of_lt hd⟩

/-- REFILL REQUEST and LIMIT REQUEST have the same body. -/
theorem grantRequest_fields {slot amount : Nat} (hc : c = .refillRequest tag slot amount ∨ c = .limitRequest tag slot amount)
    (hw : c.wellFormed = true) (h : requestBytes c = some bytes) :
    field bytes 8 2 = slot ∧ field bytes 10 6 = 0 ∧ field bytes 16 8 = amount := by
  have hfits : slot < 256 ^ 2 ∧ amount < 256 ^ 8 := by
    rcases hc with rfl | rfl <;> simpa only [Instr.wellFormed, Bool.and_eq_true, fits_iff] using hw
  have hbytes : ∃ kind, bytes = requestHeader kind tag 16 ++ (leBytes 2 slot ++ leBytes 6 0 ++ leBytes 8 amount) := by
    rcases hc with rfl | rfl <;> cases h <;> exact ⟨_, rfl⟩
  obtain ⟨kind, rfl⟩ := hbytes
  simp only [requestHeader, List.append_assoc, field_first, field_leBytes, field_behind, Nat.reduceLeDiff, Nat.reduceSub]
  exact ⟨Nat.mod_eq_of_lt hfits.1, rfl, Nat.mod_eq_of_lt hfits.2⟩

theorem takeAttention_fields {subject slot : Nat} {causes : Half}
    (hw : (Instr.takeAttention tag subject slot causes).wellFormed = true)
    (h : requestBytes (.takeAttention tag subject slot causes) = some bytes) :
    field bytes 8 1 = subject ∧ field bytes 9 1 = 0 ∧ field bytes 10 2 = slot ∧ field bytes 12 2 = causes.toNat
      ∧ field bytes 14 2 = 0 := by
  cases h
  simp only [Instr.wellFormed, Bool.and_eq_true, fits_iff] at hw
  obtain ⟨hsubject, hslot⟩ := hw
  simp only [requestHeader, List.append_assoc, field_first, field_leBytes, field_behind, Nat.reduceLeDiff, Nat.reduceSub]
  exact ⟨Nat.mod_eq_of_lt hsubject, rfl, Nat.mod_eq_of_lt hslot, Nat.mod_eq_of_lt (half_lt causes), rfl⟩

/-! ## Bytes that must be zero (R175) -/

theorem bodyReservedSet_report (h : kind.toNat = 0x30) (l : List Byte) : bodyReservedSet kind l = decide (field l 12 4 ≠ 0) := by
  rw [bodyReservedSet, h]
  rfl

theorem bodyReservedSet_grant (h : kind.toNat = 0x40 ∨ kind.toNat = 0x41) (l : List Byte) :
    bodyReservedSet kind l = decide (field l 10 6 ≠ 0) := by
  rcases h with h | h
  · rw [bodyReservedSet, h]
    rfl
  · rw [bodyReservedSet, h]
    rfl

theorem bodyReservedSet_take (h : kind.toNat = 0x03) (l : List Byte) :
    bodyReservedSet kind l = (decide (field l 9 1 ≠ 0) || decide (field l 14 2 ≠ 0)) := by
  rw [bodyReservedSet, h]
  rfl

/-! ## Reading a record back (R168, R173, R175) -/

/-- The body of a record with a layout spells the request, and none of its bytes that must be zero is set. -/
theorem parseBody_of_requestBytes (hw : c.wellFormed = true) (hh : header c = some (kind, tag)) (h : requestBytes c = some bytes) :
    bodyReservedSet kind bytes = false ∧ parseBody kind tag bytes = some c := by
  cases c
  case readStatus | closeDay | readSettings | restart | clearTables | readPosition | readDenominations =>
    cases hh
    exact ⟨rfl, rfl⟩
  case takeAttention t subject slot causes =>
    cases hh
    obtain ⟨hsubject, hzero, hslot, hcauses, hzero'⟩ := takeAttention_fields hw h
    refine ⟨by rw [bodyReservedSet_take rfl, hzero, hzero']; rfl, ?_⟩
    show some (Instr.takeAttention tag (field bytes 8 1) (field bytes 10 2) (BitVec.ofNat 16 (field bytes 12 2))) = _
    rw [hsubject, hslot, hcauses, BitVec.ofNat_toNat, BitVec.setWidth_eq]
  case meterReport t slot q a d =>
    cases hh
    obtain ⟨hslot, hq, hzero, ha, hd⟩ := meterReport_fields hw h
    refine ⟨by rw [bodyReservedSet_report rfl, hzero]; rfl, ?_⟩
    show some (Instr.meterReport tag (field bytes 8 2) (BitVec.ofNat 16 (field bytes 10 2)) (field bytes 16 8) (field bytes 24 8)) = _
    rw [hslot, hq, ha, hd, BitVec.ofNat_toNat, BitVec.setWidth_eq]
  case refillRequest t slot amount =>
    cases hh
    obtain ⟨hslot, hzero, hamount⟩ := grantRequest_fields (.inl rfl) hw h
    refine ⟨by rw [bodyReservedSet_grant (.inl rfl), hzero]; rfl, ?_⟩
    show some (Instr.refillRequest tag (field bytes 8 2) (field bytes 16 8)) = _
    rw [hslot, hamount]
  case limitRequest t slot amount =>
    cases hh
    obtain ⟨hslot, hzero, hamount⟩ := grantRequest_fields (.inr rfl) hw h
    refine ⟨by rw [bodyReservedSet_grant (.inr rfl), hzero]; rfl, ?_⟩
    show some (Instr.limitRequest tag (field bytes 8 2) (field bytes 16 8)) = _
    rw [hslot, hamount]
  all_goals
    obtain ⟨_, _, _, _, hb, _⟩ := requestBytes_eq_some h
    cases hb

theorem ofNat_field_half (l : List Byte) (offset : Nat) : (BitVec.ofNat 16 (field l offset 2)).toNat = field l offset 2 :=
  Nat.mod_eq_of_lt (field_lt l offset 2)

/-- Bytes whose header passes spell what their body does. -/
theorem parseRequest_of_fields {l : List Byte} (hkind : field l 0 2 = kind.toNat) (htag : field l 2 2 = tag.toNat)
    (hzero : field l 6 2 = 0) (hn : bodyLength kind = some (field l 4 2)) (hbody : bodyReservedSet kind l = false) :
    parseRequest l = parseBody kind tag l := by
  have hk : BitVec.ofNat 16 (field l 0 2) = kind := BitVec.eq_of_toNat_eq (by rw [ofNat_field_half, hkind])
  have ht : BitVec.ofNat 16 (field l 2 2) = tag := BitVec.eq_of_toNat_eq (by rw [ofNat_field_half, htag])
  rw [parseRequest, hk, ht]
  exact if_pos (headerPasses_iff.2 ⟨by rw [ofNat_field_half, hn], by simp [hzero, hbody]⟩)

theorem bodyReservedSet_padded (kind : Half) (l : List Byte) : bodyReservedSet kind (padded l) = bodyReservedSet kind l := by
  simp only [bodyReservedSet, field_padded]

theorem parseBody_padded (kind tag : Half) (l : List Byte) : parseBody kind tag (padded l) = parseBody kind tag l := by
  simp only [parseBody, field_padded]

/-- A record and the bytes of its slot spell the same request. -/
theorem parseRequest_padded (l : List Byte) : parseRequest (padded l) = parseRequest l := by
  simp only [parseRequest, field_padded, bodyReservedSet_padded, parseBody_padded]

/-- A record with a layout: its header, and the request that it spells. -/
theorem requestBytes_readBack (hw : c.wellFormed = true) (h : requestBytes c = some bytes) :
    parseRequest bytes = some c ∧ ∃ kind tag n, header c = some (kind, tag) ∧ bodyLength kind = some n ∧ bytes.length = 8 + n
      ∧ field bytes 0 2 = kind.toNat ∧ field bytes 2 2 = tag.toNat ∧ field bytes 4 2 = n ∧ field bytes 6 2 = 0 := by
  obtain ⟨kind, tag, body, hh, hb, hbytes⟩ := requestBytes_eq_some h
  have hlength := requestBody_length hb
  have hn := bodyLength_of_requestBody hh hb
  obtain ⟨hkind, htag, hsize, hzero⟩ := requestHeader_fields kind tag (n := body.length) (by omega) body
  rw [← hbytes] at hkind htag hsize hzero
  obtain ⟨hreserved, hparse⟩ := parseBody_of_requestBytes hw hh h
  refine ⟨?_, kind, tag, body.length, hh, hn, by rw [hbytes, List.length_append]; rfl, hkind, htag, hsize, hzero⟩
  rw [parseRequest_of_fields hkind htag hzero (by rw [hn, hsize]) hreserved, hparse]

theorem readBytes_of_parseRequest {l : List Byte} (h : parseRequest l = some c) : readBytes l = c := by
  rw [readBytes, h]

/-- Bytes whose header fails spell a BAD_REQUEST (R168 step 1). -/
theorem readBytes_of_failed {l : List Byte} {reservedSet : Bool}
    (hr : reservedSet = (decide (field l 6 2 ≠ 0) || bodyReservedSet (BitVec.ofNat 16 (field l 0 2)) l))
    (h : bodyLength (BitVec.ofNat 16 (field l 0 2)) ≠ some (field l 4 2) ∨ reservedSet = true) :
    readBytes l = .badRequest (BitVec.ofNat 16 (field l 2 2)) (BitVec.ofNat 16 (field l 0 2)) (BitVec.ofNat 16 (field l 4 2))
      reservedSet := by
  subst hr
  refine readBytes_of_parseRequest (if_neg fun hpasses => ?_)
  obtain ⟨hlength, hclear⟩ := headerPasses_iff.1 hpasses
  rw [ofNat_field_half] at hlength
  rcases h with h | h
  · exact h hlength
  · rw [h] at hclear; cases hclear

/-- The bytes that must be zero, of the header and of each body that has some. -/
theorem reservedSet_of_byte {l : List Byte} (h : field l 6 2 ≠ 0 ∨ (field l 0 2 = 0x30 ∧ field l 12 4 ≠ 0)
      ∨ ((field l 0 2 = 0x40 ∨ field l 0 2 = 0x41) ∧ field l 10 6 ≠ 0)
      ∨ (field l 0 2 = 0x03 ∧ (field l 9 1 ≠ 0 ∨ field l 14 2 ≠ 0))) :
    (decide (field l 6 2 ≠ 0) || bodyReservedSet (BitVec.ofNat 16 (field l 0 2)) l) = true := by
  rw [Bool.or_eq_true, decide_eq_true_iff]
  have hkind := ofNat_field_half l 0
  rcases h with h | ⟨hk, h⟩ | ⟨hk, h⟩ | ⟨hk, h⟩
  · exact .inl h
  · exact .inr (by rw [bodyReservedSet_report (hkind.trans hk), decide_eq_true h])
  · exact .inr (by rw [bodyReservedSet_grant (by rwa [hkind]), decide_eq_true h])
  · exact .inr (by rwa [bodyReservedSet_take (hkind.trans hk), Bool.or_eq_true, decide_eq_true_iff, decide_eq_true_iff])

end Sys2Proof.Machine
end

section
/-!
The layouts of requests and results (O60): cause sets and results as bytes, and the statement.
-/

namespace Sys2Proof.Machine

/-! ## Cause sets (R175) -/

/-- A cause set of so many marks: its number, below the next mark. -/
def MarksAre (x : Half) (count n : Nat) : Prop :=
  x.toNat = n ∧ n < 2 ^ count

theorem MarksAre.first (b : Bool) : MarksAre (bitAt b 0) 1 b.toNat := by
  cases b
  · exact ⟨rfl, by decide⟩
  · exact ⟨rfl, by decide⟩

theorem MarksAre.next {x : Half} {count n : Nat} (h : MarksAre x count n) (hc : count < 16) (b : Bool) :
    MarksAre (x ||| bitAt b count) (count + 1) (n + 2 ^ count * b.toNat) := by
  obtain ⟨rfl, hlt⟩ := h
  have hpow : 2 ^ count < 2 ^ 16 := Nat.pow_lt_pow_right (by decide) hc
  have hbit : (bitAt b count).toNat = 2 ^ count * b.toNat := by
    cases b with
    | false => rfl
    | true => exact (Nat.mod_eq_of_lt hpow).trans (Nat.mul_one _).symm
  have hor : x.toNat ||| 2 ^ count * b.toNat = x.toNat + 2 ^ count * b.toNat := by
    rw [Nat.or_comm, ← Nat.two_pow_add_eq_or_of_lt hlt, Nat.add_comm]
  refine ⟨by rw [BitVec.toNat_or, hbit, hor], ?_⟩
  have hb := Nat.mul_le_mul_left (2 ^ count) (Bool.toNat_le b)
  rw [Nat.pow_succ]
  omega

theorem meterBits_toNat (c : MeterCauses) :
    (meterBits c).toNat = c.lowCredit.toNat + 2 * c.grantReady.toNat + 4 * c.grantVoided.toNat + 8 * c.queueDropped.toNat
      + 16 * c.refillRefused.toNat + 32 * c.topupDeferred.toNat + 64 * c.dispute.toNat + 128 * c.overdue.toNat :=
  ((((((((MarksAre.first _).next (by decide) _).next (by decide) _).next (by decide) _).next (by decide) _).next (by decide) _).next
    (by decide) _).next (by decide) _).1

theorem branchBits_toNat (c : BranchCauses) :
    (branchBits c).toNat = c.allowanceSpent.toNat + 2 * c.cycleEnd.toNat + 4 * c.stockLow.toNat + 8 * c.countAbandoned.toNat
      + 16 * c.transferOverdue.toNat + 32 * c.transitShortfall.toNat :=
  ((((((MarksAre.first _).next (by decide) _).next (by decide) _).next (by decide) _).next (by decide) _).next (by decide) _).1

theorem deviceBits_toNat (c : DeviceCauses) :
    (deviceBits c).toNat = c.settingsFault.toNat + 2 * c.backupLost.toNat + 4 * c.poolWait.toNat + 8 * c.arrears.toNat :=
  ((((MarksAre.first _).next (by decide) _).next (by decide) _).next (by decide) _).1

/-! ## Results (R174, R175) -/

variable {r : ResultRecord}

theorem statusCode_lt (st : Status) : statusCode st < 256 ^ 2 := by
  cases st <;> decide

theorem resultHeader_length (r : ResultRecord) : (resultHeader r).length = 8 := by
  simp [resultHeader]

theorem resultBytes_header (r : ResultRecord) :
    field (resultBytes r) 0 2 = r.tag.toNat ∧ field (resultBytes r) 2 2 = r.kind.toNat
      ∧ field (resultBytes r) 4 2 = statusCode r.status ∧ field (resultBytes r) 6 2 = r.length % 256 ^ 2 := by
  obtain ⟨outcome, houtcome⟩ : ∃ outcome, resultBytes r = resultHeader r ++ outcome := ⟨_, rfl⟩
  simp only [houtcome, resultHeader, List.append_assoc, field_first, field_behind, Nat.reduceLeDiff, Nat.reduceSub]
  exact ⟨Nat.mod_eq_of_lt (half_lt r.tag), Nat.mod_eq_of_lt (half_lt r.kind), Nat.mod_eq_of_lt (statusCode_lt r.status), trivial⟩

theorem resultBytes_of_layout {o : List Byte} (h : outcomeLayout r.outcome = some o) : resultBytes r = resultHeader r ++ o := by
  rw [resultBytes, h]

/-- A field of the outcome stands 8 bytes further on in the result. -/
theorem field_resultBytes {o : List Byte} (h : outcomeLayout r.outcome = some o) {offset : Nat} (ho : 8 ≤ offset) (size : Nat) :
    field (resultBytes r) offset size = field o (offset - 8) size := by
  rw [resultBytes_of_layout h, field_append_right (by rwa [resultHeader_length]), resultHeader_length]

theorem resultBytes_length {o : List Byte} (h : outcomeLayout r.outcome = some o) : (resultBytes r).length = 8 + o.length := by
  rw [resultBytes_of_layout h, List.length_append, resultHeader_length]

/-- The four bytes of subject i of a page. -/
theorem field_subjects (l : List (Nat × Half)) {i : Nat} (hi : i < l.length) {offset size : Nat} (h : offset + size ≤ 4) :
    field (l.flatMap subjectBytes) (4 * i + offset) size = field (subjectBytes l[i]) offset size := by
  induction l generalizing i with
  | nil => cases hi
  | cons e rest ih =>
    have hfour : (subjectBytes e).length = 4 := by simp [subjectBytes]
    rw [List.flatMap_cons]
    cases i with
    | zero => rw [field_append_left (by omega), Nat.mul_zero, Nat.zero_add]; rfl
    | succ i =>
      rw [field_append_right (by omega), hfour, show 4 * (i + 1) + offset - 4 = 4 * i + offset by omega]
      exact ih (by simpa using hi)

theorem subjects_length (l : List (Nat × Half)) : (l.flatMap subjectBytes).length = 4 * l.length := by
  induction l with
  | nil => rfl
  | cons e rest ih =>
    rw [List.flatMap_cons, List.length_append, ih, List.length_cons]
    simp [subjectBytes]
    omega

theorem subjectBytes_fields {e : Nat × Half} (h : e.1 < 65536) :
    field (subjectBytes e) 0 2 = e.1 ∧ field (subjectBytes e) 2 2 = e.2.toNat := by
  simp only [subjectBytes, field_first, field_leBytes, field_behind, Nat.reduceLeDiff, Nat.reduceSub]
  exact ⟨Nat.mod_eq_of_lt h, Nat.mod_eq_of_lt (half_lt e.2)⟩

theorem grantResult_fields {number timeout slot amount expected : Nat} {kind : GrantKind} {reason : Reason}
    (h : r.outcome = .grant number kind reason timeout slot amount expected) (hnumber : number < 65536) (htimeout : timeout < 65536)
    (hslot : slot < 65536) (hamount : amount < 2 ^ 64) (hexpected : expected < 2 ^ 64) :
    (resultBytes r).length = 32 ∧ field (resultBytes r) 8 2 = number ∧ field (resultBytes r) 10 1 = grantKindCode kind
      ∧ field (resultBytes r) 11 1 = reasonCode reason ∧ field (resultBytes r) 12 2 = timeout ∧ field (resultBytes r) 14 2 = slot
      ∧ field (resultBytes r) 16 8 = amount ∧ field (resultBytes r) 24 8 = expected := by
  have hlayout := congrArg outcomeLayout h
  have hkind : grantKindCode kind < 256 ^ 1 := by cases kind <;> decide
  have hreason : reasonCode reason < 256 ^ 1 := by cases reason <;> decide
  refine ⟨by rw [resultBytes_length hlayout]; simp, ?_⟩
  simp only [field_resultBytes hlayout, List.append_assoc, field_first, field_leBytes, field_behind, Nat.reduceLeDiff, Nat.reduceSub]
  exact ⟨Nat.mod_eq_of_lt hnumber, Nat.mod_eq_of_lt hkind, Nat.mod_eq_of_lt hreason, Nat.mod_eq_of_lt htimeout, Nat.mod_eq_of_lt hslot,
    Nat.mod_eq_of_lt hamount, Nat.mod_eq_of_lt hexpected⟩

theorem attentionResult_fields {subjects : List (Nat × Half)} {next : Nat} (h : r.outcome = .attention subjects next)
    (hcount : subjects.length < 65536) (hnext : next < 65536) (hsubjects : ∀ e ∈ subjects, e.1 < 65536) :
    (resultBytes r).length = 12 + 4 * subjects.length ∧ field (resultBytes r) 8 2 = subjects.length
      ∧ field (resultBytes r) 10 2 = next ∧ ∀ i, (hi : i < subjects.length) →
        field (resultBytes r) (12 + 4 * i) 2 = subjects[i].1 ∧ field (resultBytes r) (14 + 4 * i) 2 = subjects[i].2.toNat := by
  have hlayout : outcomeLayout r.outcome = some (leBytes 2 subjects.length ++ (leBytes 2 next ++ subjects.flatMap subjectBytes)) := by
    rw [h, ← List.append_assoc]
    rfl
  refine ⟨?_, ?_, ?_, fun i hi => ?_⟩
  · rw [resultBytes_length hlayout, List.length_append, List.length_append, leBytes_length, leBytes_length, subjects_length]
    omega
  · rw [field_resultBytes hlayout (by decide), field_first]
    exact Nat.mod_eq_of_lt hcount
  · rw [field_resultBytes hlayout (by decide), field_behind (by decide), field_first]
    exact Nat.mod_eq_of_lt hnext
  · obtain ⟨hsubject, hcauses⟩ := subjectBytes_fields (hsubjects _ (List.getElem_mem hi))
    constructor
    · rw [field_resultBytes hlayout (by omega), field_behind (by omega), field_behind (by omega),
        show 12 + 4 * i - 8 - 2 - 2 = 4 * i + 0 by omega, field_subjects _ hi (by decide), hsubject]
    · rw [field_resultBytes hlayout (by omega), field_behind (by omega), field_behind (by omega),
        show 14 + 4 * i - 8 - 2 - 2 = 4 * i + 2 by omega, field_subjects _ hi (by decide), hcauses]

theorem causesLeftResult_fields {causes : Half} (h : r.outcome = .causesLeft causes) :
    (resultBytes r).length = 10 ∧ field (resultBytes r) 8 2 = causes.toNat := by
  have hlayout := congrArg outcomeLayout h
  refine ⟨by rw [resultBytes_length hlayout]; simp, ?_⟩
  rw [field_resultBytes hlayout (by decide), field_leBytes]
  exact Nat.mod_eq_of_lt (half_lt causes)

/-- A slot of the Result Ring holds its part of the result, with zeros beyond. -/
theorem resultSlotBytes_getElem? (r : ResultRecord) (part : Nat) {i : Nat} (hi : i < 128) :
    (resultSlotBytes (some { result := r, part := part }))[i]? = some (((resultBytes r)[128 * part + i]?).getD 0) := by
  rw [resultSlotBytes, padded_getElem? _ hi, List.getElem?_take_of_lt (show i < Config.slotBytes from hi), List.getElem?_drop]
  rfl

/-- Settles O60: a record read back by `requestBytes_readBack`, the failed headers, and each table of codes and fields by its lemma. -/
theorem layoutsReadBack : Obligations.LayoutsReadBack := by
  refine ⟨fun c bytes hw h => ?_, fun tag slot q a d hw => ⟨_, rfl, meterReport_fields hw rfl⟩, fun tag slot amount c hc hw => ?_,
    fun tag subject slot causes hw => ⟨_, rfl, takeAttention_fields hw rfl⟩, fun l h => ⟨_, readBytes_of_failed rfl ?_, fun hn => ?_⟩,
    rfl, meterBits_toNat, branchBits_toNat, deviceBits_toNat, fun r l hl => ?_⟩
  · obtain ⟨hparse, hheader⟩ := requestBytes_readBack hw h
    refine ⟨hparse, readBytes_of_parseRequest ((parseRequest_padded _).trans hparse), ?_, hheader⟩
    rw [slotBytes, recordBytes, h]
  · obtain ⟨bytes, h⟩ : ∃ bytes, requestBytes c = some bytes := by rcases hc with rfl | rfl <;> exact ⟨_, rfl⟩
    exact ⟨bytes, h, grantRequest_fields hc hw h⟩
  · exact h.imp_right reservedSet_of_byte
  · exact reservedSet_of_byte (h.resolve_left (not_not_intro hn))
  · subst hl
    refine ⟨?_, fun h => resultBytes_length (congrArg outcomeLayout h),
      fun number kind reason timeout slot amount expected h hn ht hs ha he => ?_, fun subjects next h => attentionResult_fields h,
      fun causes h => causesLeftResult_fields h, fun part i => resultSlotBytes_getElem? r part⟩
    · obtain ⟨htag, hkind, hstatus, hlength⟩ := resultBytes_header r
      exact ⟨htag, hkind, hstatus, fun hlt => hlength.trans (Nat.mod_eq_of_lt hlt)⟩
    · obtain ⟨hlen, hnumber, hkind, hreason, hrest⟩ := grantResult_fields h hn ht hs ha he
      exact ⟨hlen, hnumber, hkind.trans (by cases kind <;> rfl), hreason.trans (by cases reason <;> rfl), hrest⟩

end Sys2Proof.Machine
end

section
/-!
The step on a command queue that is not empty (O1); what it does on an empty one is O2.
-/

namespace Sys2Proof.Machine

/-- Settles O1: `step_cons` is the branch of the step for a queue with a command at its front. -/
theorem stepRunsFrontCommand : Obligations.StepRunsFrontCommand := by
  intro s c rest hpending
  exact step_cons hpending

end Sys2Proof.Machine
end
